-- ==== Sys2Proof/Word.lean ====
section
/-!
DEFINITION. The words of the RK-48 and their plainest arithmetic: bytes and texts as they are seen on a wire, 24-bit
audio samples, the saturating 16-bit counters, and Q16 times (R6).
-/

namespace Sys2Proof

/-- A byte of a desk frame, of a rig message or of an item's value. -/
abbrev Byte := BitVec 8

/-- A text: the bytes of its characters (R202). -/
abbrev Text := List Byte

/-- A 24-bit two's complement audio sample (chapter 3). -/
abbrev Sample := BitVec 24

/-- A counter of 0 to 65,535 after one more event: it holds at 65,535 once it reaches it. -/
def countUp (n : Nat) : Nat := min (n + 1) 65535

/-- The number of Q16 units in one sample of the show clock (R6). -/
def q16One : Nat := 65536

/-- A Q16 time that falls on a whole sample. -/
def q16OfSample (n : Nat) : Nat := n * q16One

/-- The integer part of a Q16 time, which is the show-clock sample it falls on (R6). -/
def q16Sample (q : Nat) : Nat := q / q16One

end Sys2Proof
end

