-- ==== Sys2Proof/Config.lean ====
section
/-!
DEFINITION. What the RK-48 fixes once for all: the limits, intervals and tables its rules state as numbers, and the one
value the manual leaves open (the wire form of a beat's identity in a mark queue), which no proof can see.
-/

namespace Sys2Proof.Config

/-- The horizon H between a commit and its onset, in samples (2.2). -/
def horizon : Nat := 4800

/-- The least and the greatest tempo, in centi-BPM (R9). -/
def tempoMin : Nat := 2000
def tempoMax : Nat := 30000

/-- The tempo after power-on reset (R19), which is also the tempo chase of a list that names none (R72). -/
def tempoDefault : Nat := 12000

/-- The numerator of the beat period, 48,000 × 60 × 100 × 65,536 (R16). -/
def periodNumerator : Nat := 18874368000000

/-- The least interval of an accepted tap and the greatest interval that keeps the tap list (R14). -/
def tapMin : Nat := 5760
def tapMax : Nat := 144000

/-- The greatest number of taps held (R14). -/
def tapCapacity : Nat := 5

/-- The numerator of the tap computation, 60 s × 48,000 samples × 100 (R15). -/
def tapNumerator : Nat := 288000000

/-- The good edges that qualify a word clock (R3). -/
def qualifyEdges : Nat := 48000

/-- The reference periods without a counted edge that make a holdover (R4). -/
def holdoverPeriods : Nat := 4

/-- The unit in which a word-clock interval is given: one millionth of the nominal interval (log 6). -/
def nominalInterval : Nat := 1000000

/-- The good-edge window of 97 % to 103 % and the glitch limit of 50 % of the nominal interval (1.2). -/
def goodEdgeMin : Nat := 970000
def goodEdgeMax : Nat := 1030000
def glitchLimit : Nat := 500000

/-- The capacities of the vamp stack and of the pending push list (R33, R34). -/
def vampCapacity : Nat := 4
def pushCapacity : Nat := 4

/-- The highest bar number (R32) and the highest pass number of a vamp (R35). -/
def barMax : Nat := 9999
def passMax : Nat := 255

/-- The capacities of the cue list and of the change pool (R61, R62). -/
def cueCapacity : Nat := 1000
def poolCapacity : Nat := 4000

/-- The greatest cue number, in tenths (R59). -/
def cueNumberMax : Nat := 99999

/-- The size of the clip memory in samples and the longest clip (R43, R44). -/
def clipMemorySize : Nat := 65536
def clipLengthMax : Nat := 8192

/-- The longest run of one CLIP WRITE (R43). -/
def clipWriteMax : Nat := 80

/-- The reply timer and the presence timer of a rig (R106, R117) and the presence timer of a desk port (R192). -/
def replyTimeout : Nat := 1200
def rigPresence : Nat := 28800
def deskPresence : Nat := 72000

/-- The samples for which the show-relay input must hold a new level (R155). -/
def relayHold : Nat := 480

/-- The capacity of a camera's mark queue (R126). -/
def markCapacity : Nat := 4

/-- The capacity of the stop stack (R156). -/
def stackCapacity : Nat := 4

/-- The greatest hold-off count and the greatest number of beats of one HOLD OFF (R166, R167). -/
def holdOffMax : Nat := 32
def holdOffRequestMax : Nat := 16

/-- The highest programmable stop level (R153). -/
def stopLevelMax : Nat := 7

/-- The longest payload of a desk frame (R187). -/
def payloadMax : Nat := 250

/-- Entry d of the gain table, 32,767 × 10^(−d/20) rounded to the nearest integer, for d from 0 to 63 (R52). -/
def gainTable : List Nat :=
  [32767, 29204, 26028, 23197, 20675, 18426, 16422, 14636, 13045, 11626, 10362, 9235, 8231, 7336, 6538, 5827] ++
  [5193, 4628, 4125, 3677, 3277, 2920, 2603, 2320, 2067, 1843, 1642, 1464, 1304, 1163, 1036, 923] ++
  [823, 734, 654, 583, 519, 463, 413, 368, 328, 292, 260, 232, 207, 184, 164, 146] ++
  [130, 116, 104, 92, 82, 73, 65, 58, 52, 46, 41, 37, 33, 29, 26, 23]

/-- The wire form in which a READ of a camera record returns the identity of a marked beat (item 0x0604): the manual
gives an entry of a mark queue "the committed beat's identity" (R126) and states no form for it (R202), so it is a free
value (log 20). -/
opaque beatIdentityWire : Nat → List Byte

end Sys2Proof.Config
end

