-- ==== Sys2Proof/Syntax.lean ====
section
/-!
DEFINITION. The commands of the RK-48: one constructor of `Instr` for each row of spec/opcode_table.json, with the
operands the step brings from outside the part. The table gives its rows no fields, so the operands are the ones the
rules name: the port and tag of a desk request, its payload or the item's instance and value as they stand in the
payload, the fields of a rig message, the camera of a frame event, and the pin levels seen at a sample.
-/

namespace Sys2Proof

/-- A desk port, 0 to 3 (R186). -/
abbrev DeskPort := Fin 4
/-- A rig port, 0 to 7 (R96). -/
abbrev RigPort := Fin 8
/-- A rig slot, 0 to 7 (R102). -/
abbrev Slot := Fin 8
/-- A click lane, 0 to 15 (R41). -/
abbrev LaneNo := Fin 16

/-- One of the two conductor cameras (chapter 7). -/
inductive Camera where
  | a | b
  deriving DecidableEq, Repr

/-- One of a lane's two voices (3.5). -/
inductive VoiceKind where
  | click | count
  deriving DecidableEq, Repr

/-- The reason a rig gives for a REFUSED (TABLE 6-1). -/
inductive RefusedReason where
  | noProgram | busy
  deriving DecidableEq, Repr

/-- The sustain pedal of a rig (TABLE 6-1). -/
inductive Sustain where
  | up | down
  deriving DecidableEq, Repr

/-- The four operations of an item request (R195). -/
inductive ItemOp where
  | read | swap | set | clear
  deriving DecidableEq, Repr

/-- The three write operations of a flag item (R195). -/
inductive FlagOp where
  | swap | set | clear
  deriving DecidableEq, Repr

/-- The lane fields that LANE_FIELD_WRITE writes (R41, R42). -/
inductive LaneField where
  | enabled | subdivision | accent | soundSet | lead | countVoice
  deriving DecidableEq, Repr

/-- The rig-slot settings of TABLE 4-4. -/
inductive SlotSetting where
  | opening | safe | required | cover
  deriving DecidableEq, Repr

/-- The counters that RIG_COUNTER_RESET resets (R119); the last is held per port, the others per slot. -/
inductive RigCounter where
  | superseded | refusal | timeout | invalidMessage
  deriving DecidableEq, Repr

/-- The counters of a camera (R137). -/
inductive CameraCounter where
  | drop | abort
  deriving DecidableEq, Repr

/-- The monitor fields that MONITOR_WRITE writes (R131). -/
inductive MonitorField where
  | source | latency | pairedLane | flashMode | flashLength | overlayFields
  deriving DecidableEq, Repr

/-- The kinds of desk frame (TABLE 12-1). -/
inductive FrameKind where
  | request | reply | notice
  deriving DecidableEq, Repr

/-- A desk frame, its payload with the escapes undone (TABLE 12-1). -/
structure Frame where
  kind    : FrameKind
  tag     : Byte
  code    : Byte
  payload : List Byte
  deriving DecidableEq, Repr

/-- A character as a receiver takes it: a byte, or a damaged character (R187, R205). -/
inductive LineChar where
  | ok (b : Byte)
  | damaged
  deriving DecidableEq, Repr

/-- Where a desk request comes from: its port and its tag (TABLE 12-1). -/
structure Req where
  port : DeskPort
  tag  : Byte
  deriving DecidableEq, Repr

/-- The commands of the RK-48, one constructor per row of spec/opcode_table.json, in the table's order.

The argument `r` is the port and tag of a request, `payload` the bytes of a command's payload (TABLE 12-2), `inst` and
`value` the instance and the value bytes of an item request (R195). `relayClosed` is the level of the show-relay input
at the sample counted (R155). `interval` is the time of a word-clock edge since the point it is measured from, in
millionths of the nominal interval (log 6). -/
inductive Instr where
  | powerOnReset
  | showClockSample (relayClosed : Bool)
  | wordClockEdge (interval : Nat) (relayClosed : Bool)
  | wordClockQualified (interval : Nat) (relayClosed : Bool)
  | wordClockSilence
  | holdover
  | frameTick
  | videoRateWrite (r : Req) (inst : Byte) (value : List Byte)
  | setTempo (r : Req) (payload : List Byte)
  | nudgeUp (r : Req) (payload : List Byte)
  | nudgeDown (r : Req) (payload : List Byte)
  | tap (r : Req) (payload : List Byte)
  | liveTempoWrite (r : Req) (inst : Byte) (value : List Byte)
  | tempoClampedClear (r : Req) (op : FlagOp) (inst : Byte) (value : List Byte)
  | beatCommit
  | forceDue (slot : Slot)
  | cueBannerExpiry
  | beatOnset
  | finishingEnd
  | release (r : Req) (payload : List Byte)
  | vampOverflowClear (r : Req) (op : FlagOp) (inst : Byte) (value : List Byte)
  | voiceStart (lane : LaneNo)
  | voiceEnd (lane : LaneNo) (voice : VoiceKind) (relayClosed : Bool)
  | laneFieldWrite (r : Req) (field : LaneField) (inst : Byte) (value : List Byte)
  | laneLevelWrite (r : Req) (inst : Byte) (value : List Byte)
  | clipCounterReset (r : Req) (inst : Byte) (value : List Byte)
  | clipWrite (r : Req) (payload : List Byte)
  | clipDefine (r : Req) (payload : List Byte)
  | soundSetWrite (r : Req) (inst : Byte) (value : List Byte)
  | cueInsert (r : Req) (payload : List Byte)
  | cueReplace (r : Req) (payload : List Byte)
  | cueDelete (r : Req) (payload : List Byte)
  | tableClear (r : Req) (payload : List Byte)
  | cueRead (r : Req) (payload : List Byte)
  | chaseRead (r : Req) (payload : List Byte)
  | rigSlotSettingWrite (r : Req) (setting : SlotSetting) (inst : Byte) (value : List Byte)
  | beginShow (r : Req) (payload : List Byte)
  | endShow (r : Req) (payload : List Byte)
  | go (r : Req) (payload : List Byte)
  | back (r : Req) (payload : List Byte)
  | jump (r : Req) (payload : List Byte)
  | startIgnoredClear (r : Req) (op : FlagOp) (inst : Byte) (value : List Byte)
  | announce (port : RigPort) (identity : Text)
  | status (port : RigPort) (sustain : Sustain) (held : Byte)
  | done (port : RigPort) (bit : Bool)
  | refused (port : RigPort) (bit : Bool) (reason : RefusedReason)
  | rigInvalidMessage (port : RigPort) (chars : List LineChar)
  | rigLineBreak (port : RigPort)
  | replyTimeout (slot : Slot)
  | rigPresenceExpiry (slot : Slot)
  | bind (r : Req) (payload : List Byte)
  | unbind (r : Req) (payload : List Byte)
  | slotNameWrite (r : Req) (inst : Byte) (value : List Byte)
  | rigCounterReset (r : Req) (counter : RigCounter) (inst : Byte) (value : List Byte)
  | frameStart (camera : Camera)
  | frameEnd (camera : Camera)
  | frameAbort (camera : Camera)
  | cameraExpiry (camera : Camera)
  | cameraEnableWrite (r : Req) (inst : Byte) (value : List Byte)
  | cameraCounterReset (r : Req) (counter : CameraCounter) (inst : Byte) (value : List Byte)
  | monitorWrite (r : Req) (field : MonitorField) (op : FlagOp) (inst : Byte) (value : List Byte)
  | stop (r : Req) (payload : List Byte)
  | relayStateChange
  | holdOff (r : Req) (payload : List Byte)
  | holdOffWrite (r : Req) (inst : Byte) (value : List Byte)
  | stopLevelWrite (r : Req) (inst : Byte) (value : List Byte)
  | stopProfileWrite (r : Req) (inst : Byte) (value : List Byte)
  | displacedCountReset (r : Req) (inst : Byte) (value : List Byte)
  | ack (r : Req) (payload : List Byte)
  | ackOverride (r : Req) (payload : List Byte)
  | resumeAt (r : Req) (payload : List Byte)
  | mdReady (r : Req) (payload : List Byte)
  | resumeGo (r : Req) (payload : List Byte)
  | showReset (r : Req) (payload : List Byte)
  | resumeCountInWrite (r : Req) (inst : Byte) (value : List Byte)
  | deskBadFrame (port : DeskPort) (chars : List LineChar)
  | deskStrayFrame (port : DeskPort) (frame : Frame)
  | requestWhileBusy (r : Req) (code : Byte) (payload : List Byte)
  | unknownCode (r : Req) (code : Byte) (payload : List Byte)
  | replySent (port : DeskPort)
  | notice (port : DeskPort)
  | noticeAck (r : Req) (payload : List Byte)
  | noticeMaskWrite (r : Req) (op : FlagOp) (inst : Byte) (value : List Byte)
  | claimRole (r : Req) (payload : List Byte)
  | releaseRole (r : Req) (payload : List Byte)
  | resetPort (r : Req) (payload : List Byte)
  | deskLineBreak (port : DeskPort)
  | deskPresenceExpiry (port : DeskPort)
  | badFrameCountReset (r : Req) (inst : Byte) (value : List Byte)
  | read (r : Req) (op : ItemOp) (payload : List Byte)
  | noticeSent (port : DeskPort)
  deriving DecidableEq, Repr

end Sys2Proof
end

