-- ==== Sys2Proof/Decode.lean ====
section
/-!
DEFINITION. The wire: the CRC, the desk frames with their escapes (R187, R201), the rig link messages (R205), the
receivers that take them from a line, the command codes (TABLE 12-2), and `decodeTableWord`. The opcode table gives no
row any bits, so no word spells a command (log 26).
-/

namespace Sys2Proof

/-! ## The table's words -/

/-- The command that a word spells by the bits of spec/opcode_table.json: the table gives no row any bits, so none. -/
def decodeTableWord (_nbits _w : Nat) : Option Instr := none

/-! ## Characters -/

/-- A character of the desk character set, 0x20 to 0x7E (R202). -/
def isDeskChar (b : Byte) : Bool := 0x20 ≤ b.toNat && b.toNat ≤ 0x7E

/-- A text all of whose characters belong to the desk character set. -/
def isDeskText (t : Text) : Bool := t.all isDeskChar

/-! ## The CRC (R201) -/

/-- One bit of the CRC register's division by x^16 + x^12 + x^5 + 1. -/
def crcShift (c : BitVec 16) : BitVec 16 :=
  if c.msb then (c <<< 1) ^^^ 0x1021#16 else c <<< 1

/-- The register after `n` shifts. -/
def crcShifts : Nat → BitVec 16 → BitVec 16
  | 0, c => c
  | n + 1, c => crcShifts n (crcShift c)

/-- The register after one byte, fed most significant bit first. -/
def crcByte (c : BitVec 16) (b : Byte) : BitVec 16 :=
  crcShifts 8 (c ^^^ (b.setWidth 16 <<< 8))

/-- The CRC of a run of bytes: preset 0xFFFF, no reflection, no final inversion (R201). -/
def crc (bytes : List Byte) : BitVec 16 := bytes.foldl crcByte 0xFFFF#16

/-- The two bytes of a CRC, high byte first. -/
def crcBytes (c : BitVec 16) : List Byte := [(c >>> 8).setWidth 8, c.setWidth 8]

/-! ## Desk frames -/

/-- The kind byte of a frame (TABLE 12-1). -/
def FrameKind.byte : FrameKind → Byte
  | .request => 0x01
  | .reply => 0x02
  | .notice => 0x03

/-- The frame kind a kind byte names. -/
def FrameKind.ofByte (b : Byte) : Option FrameKind :=
  if b = 0x01 then some .request
  else if b = 0x02 then some .reply
  else if b = 0x03 then some .notice
  else none

/-- The payload bytes as they are sent: 0x7E and 0x7D go out as 0x7D and the byte exclusive-ored with 0x20 (11.2). -/
def escape : List Byte → List Byte
  | [] => []
  | b :: bs => (if b = 0x7E ∨ b = 0x7D then [0x7D, b ^^^ 0x20] else [b]) ++ escape bs

/-- The bytes over which a frame's CRC is computed, the payload taken before escaping (R201). -/
def Frame.checked (f : Frame) : List Byte :=
  f.kind.byte :: f.tag :: f.code :: BitVec.ofNat 8 f.payload.length :: f.payload

/-- The bytes of a frame on the line (TABLE 12-1). -/
def Frame.line (f : Frame) : List Byte :=
  0x7E :: f.kind.byte :: f.tag :: f.code :: BitVec.ofNat 8 f.payload.length ::
    (escape f.payload ++ crcBytes (crc f.checked))

/-- What a receiver makes of its characters (R187): a valid frame, or a bad frame, each with the characters that follow
it; or a frame whose end has not come (or no frame at all). -/
inductive FrameResult where
  | valid (f : Frame) (rest : List LineChar)
  | bad (rest : List LineChar)
  | incomplete
  deriving DecidableEq, Repr

/-- A payload taken with its escapes undone, with the characters that follow it. -/
inductive PayloadResult where
  | taken (payload : List Byte) (rest : List LineChar)
  | bad (rest : List LineChar)
  | incomplete
  deriving DecidableEq, Repr

/-- One more byte in front of a payload that has been taken. -/
def PayloadResult.cons (b : Byte) : PayloadResult → PayloadResult
  | .taken p rest => .taken (b :: p) rest
  | .bad rest => .bad rest
  | .incomplete => .incomplete

/-- Take `n` payload bytes, undoing the escapes. The unescaped start byte that ends a bad frame begins the next one
(R187), and so does a start byte that follows an escape byte, since no escape is sent as a start byte (log 41). -/
def takePayload : List LineChar → Nat → PayloadResult
  | cs, 0 => .taken [] cs
  | [], _ + 1 => .incomplete
  | .damaged :: cs, _ + 1 => .bad cs
  | .ok b :: cs, n + 1 =>
    if b = 0x7E then .bad (.ok b :: cs)
    else if b = 0x7D then
      match cs with
      | [] => .incomplete
      | .ok e :: cs' =>
        if e = 0x5E then (takePayload cs' n).cons 0x7E
        else if e = 0x5D then (takePayload cs' n).cons 0x7D
        else if e = 0x7E then .bad (.ok e :: cs')
        else .bad cs'
      | .damaged :: cs' => .bad cs'
    else (takePayload cs n).cons b

/-- The CRC characters at the end of a frame, checked against the bytes taken (R187). -/
def checkCrc (f : Frame) : List LineChar → FrameResult
  | .ok h :: .ok l :: cs => if [h, l] = crcBytes (crc f.checked) then .valid f cs else .bad cs
  | .ok _ :: .damaged :: cs => .bad cs
  | .damaged :: cs => .bad cs
  | _ => .incomplete

/-- The payload and CRC of a frame whose kind, tag, code and payload length have been taken. -/
def parseBody (kind : FrameKind) (tag code len : Byte) (cs : List LineChar) : FrameResult :=
  match takePayload cs len.toNat with
  | .taken payload rest => checkCrc { kind, tag, code, payload } rest
  | .bad rest => .bad rest
  | .incomplete => .incomplete

/-- The frame that follows a start byte (R187). A frame is found bad at the very character that makes it so, and the receiver
hunts from the next one (log 41). -/
def parseFields : List LineChar → FrameResult
  | .ok k :: cs =>
    match FrameKind.ofByte k, cs with
    | none, _ => .bad cs
    | some kind, .ok tag :: .ok code :: .ok len :: cs' =>
      if Config.payloadMax < len.toNat then .bad cs' else parseBody kind tag code len cs'
    | some _, .damaged :: cs' => .bad cs'
    | some _, .ok _ :: .damaged :: cs' => .bad cs'
    | some _, .ok _ :: .ok _ :: .damaged :: cs' => .bad cs'
    | some _, _ => .incomplete
  | .damaged :: cs => .bad cs
  | [] => .incomplete

/-- The first frame in the characters of a line: the receiver hunts for a start byte and discards the characters before
it without a count (R187). -/
def parseFrame : List LineChar → FrameResult
  | [] => .incomplete
  | .ok b :: cs => if b = 0x7E then parseFields cs else parseFrame cs
  | .damaged :: cs => parseFrame cs

/-! ## Receivers -/

/-- What a receiver has made of its characters: the frames or the messages they end, in order, `none` for each bad one;
and the bytes of the one that is still being received, none while it hunts. -/
structure Received (α : Type) where
  ended : List (Option α)
  held : List Byte
  deriving DecidableEq, Repr

/-- One more frame or message ended, ahead of the others. -/
def Received.after {α : Type} (x : Option α) (r : Received α) : Received α := { r with ended := x :: r.ended }

/-- The bytes of a run of characters, from the first start byte on. -/
def fromStart (start : Byte) : List LineChar → List Byte
  | [] => []
  | .ok b :: cs =>
    if b = start then b :: cs.filterMap fun c => match c with | .ok b => some b | .damaged => none
    else fromStart start cs
  | .damaged :: cs => fromStart start cs

/-- The frames that a run of characters ends; a run of n characters ends at most n. -/
def framesIn : Nat → List LineChar → Received Frame
  | 0, _ => { ended := [], held := [] }
  | n + 1, cs =>
    match parseFrame cs with
    | .valid f rest => (framesIn n rest).after (some f)
    | .bad rest => (framesIn n rest).after none
    | .incomplete => { ended := [], held := fromStart 0x7E cs }

/-- What a desk port's receiver makes of more characters, after the bytes it holds (R187). -/
def receiveFrames (held : List Byte) (chars : List LineChar) : Received Frame :=
  framesIn (held.length + chars.length + 1) (held.map .ok ++ chars)

/-! ## Command codes (TABLE 12-2) -/

/-- The codes that name a command or an item operation of the part. -/
def commandCodes : List Byte :=
  [0x01, 0x02, 0x03, 0x04, 0x10, 0x11, 0x12, 0x13, 0x20, 0x21, 0x22, 0x23, 0x24, 0x25] ++
  [0x30, 0x31, 0x32, 0x33, 0x34, 0x40, 0x41, 0x42, 0x43, 0x44, 0x45, 0x46, 0x47, 0x48, 0x49] ++
  [0x50, 0x51, 0x52, 0x53, 0x54, 0x55, 0x56]

/-! ## Rig link messages (R205) -/

/-- A message a rig sends (TABLE 6-1). -/
inductive RigMessage where
  | announce (identity : Text)
  | status (sustain : Sustain) (held : Byte)
  | done (bit : Bool)
  | refused (bit : Bool) (reason : RefusedReason)
  deriving DecidableEq, Repr

/-- What a rig port's receiver makes of its characters (R205): a valid message with the characters that follow it; an
invalid message, with the characters after its sync byte; or a message whose end has not come (or no message at all). -/
inductive RigResult where
  | valid (m : RigMessage) (rest : List LineChar)
  | invalid (rest : List LineChar)
  | incomplete
  deriving DecidableEq, Repr

/-- The fields of a rig message of known length, with the CRC that follows them: `check` decodes the fields, and
`again` are the characters after the message's sync byte. -/
def checkRig (head : List Byte) (n : Nat) (check : List Byte → Option RigMessage) (again cs : List LineChar) : RigResult :=
  if (cs.take (n + 2)).any (fun c => c == .damaged) then .invalid again
  else
    let bytes := (cs.take (n + 2)).filterMap fun c => match c with | .ok b => some b | .damaged => none
    if bytes.length < n + 2 then .incomplete
    else if bytes.drop n = crcBytes (crc (head ++ bytes.take n)) then
      match check (bytes.take n) with
      | some m => .valid m (cs.drop (n + 2))
      | none => .invalid again
    else .invalid again

/-- The sequence bit a byte carries. -/
def bitOfByte (b : Byte) : Option Bool :=
  if b = 0 then some false else if b = 1 then some true else none

/-- The fields of a STATUS. -/
def statusOfBytes : List Byte → Option RigMessage
  | [s, h] => if s = 0 then some (.status .up h) else if s = 1 then some (.status .down h) else none
  | _ => none

/-- The fields of a DONE. -/
def doneOfBytes : List Byte → Option RigMessage
  | [b] => (bitOfByte b).map .done
  | _ => none

/-- The fields of a REFUSED. -/
def refusedOfBytes : List Byte → Option RigMessage
  | [b, r] =>
    match bitOfByte b with
    | some bit => if r = 0 then some (.refused bit .noProgram) else if r = 1 then some (.refused bit .busy) else none
    | none => none
  | _ => none

/-- An identity of 1 to 16 characters of the desk character set (TABLE 6-1, R205). -/
def isIdentity (t : Text) : Bool := 1 ≤ t.length && t.length ≤ 16 && isDeskText t

/-- The message that follows a sync byte; after an invalid one the receiver hunts again from the byte after that sync
byte (R205). A field beyond its listing is found with the CRC (log 41). -/
def parseRigFields : List LineChar → RigResult
  | .ok k :: cs =>
    let again := .ok k :: cs
    if k = 0x01 then
      match cs with
      | .ok len :: cs' =>
        if len = 0 ∨ 16 < len.toNat then .invalid again
        else checkRig [k, len] len.toNat (fun t => if isIdentity t then some (.announce t) else none) again cs'
      | .damaged :: _ => .invalid again
      | [] => .incomplete
    else if k = 0x02 then checkRig [k] 2 statusOfBytes again cs
    else if k = 0x03 then checkRig [k] 1 doneOfBytes again cs
    else if k = 0x04 then checkRig [k] 2 refusedOfBytes again cs
    else .invalid again
  | .damaged :: cs => .invalid (.damaged :: cs)
  | [] => .incomplete

/-- The first message in the characters of a rig port: the receiver hunts for the sync byte 0x55 and discards the
other bytes without a count (R205). -/
def parseRig : List LineChar → RigResult
  | [] => .incomplete
  | .ok b :: cs => if b = 0x55 then parseRigFields cs else parseRig cs
  | .damaged :: cs => parseRig cs

/-- The messages that a run of characters ends; a run of n characters ends at most n. -/
def messagesIn : Nat → List LineChar → Received RigMessage
  | 0, _ => { ended := [], held := [] }
  | n + 1, cs =>
    match parseRig cs with
    | .valid m rest => (messagesIn n rest).after (some m)
    | .invalid rest => (messagesIn n rest).after none
    | .incomplete => { ended := [], held := fromStart 0x55 cs }

/-- What a rig port's receiver makes of more characters, after the bytes it holds (R205). -/
def receiveMessages (held : List Byte) (chars : List LineChar) : Received RigMessage :=
  messagesIn (held.length + chars.length + 1) (held.map .ok ++ chars)

/-- The bytes of a message on a rig link: the sync byte, the kind and fields, and the CRC over them (R205). -/
def rigLine (body : List Byte) : List Byte := 0x55 :: (body ++ crcBytes (crc body))

/-- The kind and fields of a rig message. -/
def RigMessage.body : RigMessage → List Byte
  | .announce t => 0x01 :: BitVec.ofNat 8 t.length :: t
  | .status s h => [0x02, if s = .down then 1 else 0, h]
  | .done b => [0x03, if b then 1 else 0]
  | .refused b r => [0x04, if b then 1 else 0, if r = .busy then 1 else 0]

/-- The kind and fields of a SELECT: bank, program, scene and sequence bit (R205). -/
def selectBody (bank program scene : Byte) (bit : Bool) : List Byte :=
  [0x81, bank, program, scene, if bit then 1 else 0]

end Sys2Proof
end

