-- ==== Sys2Proof/Machine/State.lean ====
section
/-!
DEFINITION. The state of the RK-48: one structure per block, holding what the chapters give it as plain data, the queue
of waiting commands, and the values after power-on reset.
-/

namespace Sys2Proof.Machine

/-! ## Timebase (chapter 1) -/

/-- The clock source in force (1.2). -/
inductive ClockSource where
  | word | internal
  deriving DecidableEq, Repr

/-- The video rate: 50, 59.94 or 60 fps (R7). -/
inductive VideoRate where
  | fps50 | fps5994 | fps60
  deriving DecidableEq, Repr

/-- The Timebase: the show clock, the clock-source state and the frame ticks (R1 to R8). -/
structure Timebase where
  /-- The show clock, a count of samples (R1). -/
  clock : Nat
  source : ClockSource
  /-- The good-edge count, 0 to 48,000 (R2). -/
  goodEdges : Nat
  /-- There is a previous word-clock edge to measure the next interval from (R2). -/
  edgeSeen : Bool
  wordSeen : Bool
  /-- The holdover count, 0 to 65,535 (R4). -/
  holdovers : Nat
  /-- The reference periods counted since the last counted word-clock edge, while the source is WORD (R4). -/
  missed : Nat
  rate : VideoRate
  /-- The frame-tick accumulator: the Q16 position of the next tick (R8). -/
  tickPos : Nat
  deriving DecidableEq, Repr

/-! ## Tempo state (chapter 1) -/

/-- The tempo modes (TABLE 1-3). -/
inductive TempoMode where
  | fixed | live | ramp
  deriving DecidableEq, Repr

/-- A ramp record: T0, T1, the length R and the ramp beats committed so far (1.6). -/
structure Ramp where
  t0 : Nat
  t1 : Nat
  length : Nat
  done : Nat
  deriving DecidableEq, Repr

/-- The tempo state of the Beat Scheduler (R19). -/
structure TempoState where
  mode : TempoMode
  current : Nat
  live : Nat
  ramp : Option Ramp
  /-- The tap list, oldest first (R14). -/
  taps : List Nat
  /-- The sticky flag TEMPO_CLAMPED (R10). -/
  clamped : Bool
  deriving DecidableEq, Repr

/-! ## Beat scheduling (chapter 2) -/

/-- The click states (TABLE 2-2). -/
inductive ClickState where
  | idle | countIn | running | finishing
  deriving DecidableEq, Repr

/-- A beat record (TABLE 2-1). -/
structure Beat where
  /-- Q16. -/
  onset : Nat
  /-- Q16. -/
  period : Nat
  tempo : Nat
  bar : Int
  beat : Nat
  downbeat : Bool
  countIn : Bool
  vampLoop : Bool
  lastPass : Bool
  deriving DecidableEq, Repr

/-- The kinds of vamp (TABLE 2-3). -/
inductive VampKind where
  | opened | repeated
  deriving DecidableEq, Repr

/-- The vamp of a cue, and an entry of the pending push list (TABLE 4-1, R34). -/
structure VampSpec where
  kind : VampKind
  length : Nat
  passes : Option Nat
  deriving DecidableEq, Repr

/-- A vamp record (TABLE 2-3). -/
structure Vamp where
  kind : VampKind
  start : Nat
  length : Nat
  last : Nat
  passes : Option Nat
  pass : Nat
  released : Bool
  deriving DecidableEq, Repr

/-- The beat-scheduling state of the Beat Scheduler (R20 to R40). -/
structure BeatState where
  click : ClickState
  current : Option Beat
  next : Option Beat
  /-- The next onset, Q16 (R20). -/
  nextOnset : Option Nat
  countInLeft : Nat
  countInLength : Nat
  /-- The first music bar of the run has not begun (R31). -/
  firstBarDue : Bool
  /-- The start bar: the number of the first music bar where no score bar is pending (R31). -/
  startBar : Nat
  /-- In FINISHING: the last bar is the one the next bar-start commit begins (R26). -/
  lastBarToBegin : Bool
  meter : Nat
  pendingMeter : Option Nat
  pendingBar : Option Nat
  /-- The vamp stack, innermost first (R33). -/
  vamps : List Vamp
  /-- The pending push list, in take order (R34). -/
  pushes : List VampSpec
  /-- The sticky flag VAMP_OVERFLOW (R34). -/
  overflow : Bool
  deriving DecidableEq, Repr

/-! ## Click generator (chapter 3) -/

/-- The accents of a lane (TABLE 3-1). -/
inductive Accent where
  | downbeat | flat | none
  deriving DecidableEq, Repr

/-- An entry of a lane's start list (3.4); the beat it belongs to is named by its onset (log 29). -/
structure StartEntry where
  sample : Nat
  voice : VoiceKind
  clipStart : Nat
  clipLength : Nat
  beat : Nat
  deriving DecidableEq, Repr

/-- A PLAYING voice (3.5). -/
structure Playing where
  start : Nat
  length : Nat
  pos : Nat
  deriving DecidableEq, Repr

/-- A lane record with its start list and its two voices; an absent voice is SILENT (TABLE 3-1, 3.4, 3.5). -/
structure Lane where
  enabled : Bool
  subdivision : Nat
  accent : Accent
  soundSet : Nat
  /-- 0 to 63 dB of attenuation, or 64 for MUTE. -/
  level : Nat
  lead : Nat
  countVoice : Bool
  clipCount : Nat
  /-- The level that governs the output sample in progress (R42, R52; log 3). -/
  gainLevel : Nat
  starts : List StartEntry
  clickVoice : Option Playing
  countVoicePlaying : Option Playing
  deriving DecidableEq, Repr

/-- An entry of the clip directory (3.2). -/
structure Clip where
  start : Nat
  length : Nat
  deriving DecidableEq, Repr

/-- The clip memory: the addresses whose sample is not 0, strictly rising, each with its sample (R43). -/
abbrev ClipMemory := List (Nat × Sample)

/-- The Click Generator (R41 to R56). -/
structure ClickGen where
  lanes : Vector Lane 16
  memory : ClipMemory
  directory : Vector (Option Clip) 16
  /-- The clip each role names, by sound set × 7 + role, the roles being DOWNBEAT, BEAT, SUBDIVISION, ONE to FOUR. -/
  roles : Vector (Option (Fin 16)) 28
  /-- The TDM frame that is being sent (R55). -/
  tdm : Vector Sample 16
  deriving DecidableEq, Repr

/-! ## The cue list (chapter 4) -/

/-- The session state (R57). -/
inductive Session where
  | setup | inShow
  deriving DecidableEq, Repr

/-- A patch (definition 30). -/
structure Patch where
  bank : Nat
  program : Nat
  scene : Nat
  deriving DecidableEq, Repr

/-- A main patch and an optional cover patch. -/
structure PatchPair where
  main : Patch
  cover : Option Patch
  deriving DecidableEq, Repr

/-- The tempo spec of a cue (TABLE 4-1). -/
inductive TempoSpec where
  | keep
  | fixed (tempo : Nat)
  | live
  | ramp (tempo : Nat) (beats : Nat)
  deriving DecidableEq, Repr

/-- The click action of a cue (TABLE 4-1). -/
inductive ClickAction where
  | keep
  | start (countIn : Nat)
  | stop
  | cut
  deriving DecidableEq, Repr

/-- The boundary of a cue (TABLE 4-1). -/
inductive Boundary where
  | immediate | nextBeat | nextBar
  deriving DecidableEq, Repr

/-- The transition of a change entry (TABLE 4-2). -/
inductive Transition where
  | cut | sustainSafe
  deriving DecidableEq, Repr

/-- A change entry (TABLE 4-2). -/
structure ChangeEntry where
  slot : Nat
  pair : PatchPair
  transition : Transition
  forceLimit : Nat
  deriving DecidableEq, Repr

/-- The cue banner of a video action (TABLE 4-1). -/
structure BannerSpec where
  text : Text
  duration : Nat
  deriving DecidableEq, Repr

/-- The video action of a cue (TABLE 4-1). -/
structure VideoAction where
  camera : Option Camera
  banner : Option BannerSpec
  deriving DecidableEq, Repr

/-- A cue record (TABLE 4-1). -/
structure Cue where
  number : Nat
  label : Text
  scoreBar : Option Nat
  tempo : TempoSpec
  meter : Option Nat
  click : ClickAction
  vamp : Option VampSpec
  boundary : Boundary
  changes : List ChangeEntry
  video : Option VideoAction
  deriving DecidableEq, Repr

/-- The rig-slot settings of one slot (TABLE 4-4). -/
structure SlotSettings where
  opening : PatchPair
  safe : Patch
  required : Bool
  cover : Bool
  deriving DecidableEq, Repr

/-- The session state and the tables of the Cue Sequencer. The change pool is the change lists of the cues, and its
free count is computed from them (R62). -/
structure Tables where
  session : Session
  /-- The cue list, ascending by number (R61). -/
  cues : List Cue
  settings : Vector SlotSettings 8
  deriving DecidableEq, Repr

/-! ## The cue pointer (chapter 5) -/

/-- The standing cue (TABLE 5-1). -/
inductive Standing where
  | absent
  | cue (number : Nat)
  | ended
  deriving DecidableEq, Repr

/-- The cue pointer and the sticky flag START_IGNORED (R75, R88). -/
structure Pointer where
  standing : Standing
  current : Option Nat
  armed : Option Nat
  chasePending : Bool
  startIgnored : Bool
  deriving DecidableEq, Repr

/-! ## Rigs (chapter 6) -/

/-- A port record (R96). -/
structure RigPortRec where
  linkUp : Bool
  boundSlot : Option Slot
  /-- The port fault DUPLICATE is present. -/
  duplicate : Bool
  identity : Option Text
  invalidCount : Nat
  /-- The last sequence bit. -/
  bit : Bool
  /-- The latest SELECT sent on the port (R107, R110). -/
  lastSelect : Option (Patch × Bool)
  /-- The bytes of the message being received, from its sync byte on; none while the receiver hunts (R205). -/
  rx : List Byte
  deriving DecidableEq, Repr

/-- The kinds of change (6.4). -/
inductive ChangeKind where
  | cue | safe | restore
  deriving DecidableEq, Repr

/-- The state of a rig slot (TABLE 6-3). -/
inductive RigState where
  | absent | ready | changing | fault
  deriving DecidableEq, Repr

/-- The fault reasons of a rig slot (TABLE 6-2). -/
inductive FaultReason where
  | timeout | refused | lost
  deriving DecidableEq, Repr

/-- An in-flight change (TABLE 6-2). -/
structure InFlight where
  patch : Patch
  kind : ChangeKind
  bit : Bool
  sent : Nat
  resent : Bool
  deriving DecidableEq, Repr

/-- When a pending change is due (TABLE 6-2). -/
inductive Due where
  | now
  | atRelease (forceBars : Nat)
  deriving DecidableEq, Repr

/-- A pending change (TABLE 6-2). -/
structure PendingChange where
  patch : Patch
  kind : ChangeKind
  due : Due
  deriving DecidableEq, Repr

/-- A rig record (TABLE 6-2); an absent applied patch is UNKNOWN. -/
structure Rig where
  name : Text
  boundPort : Option RigPort
  state : RigState
  applied : Option Patch
  sustain : Sustain
  held : Nat
  inFlight : Option InFlight
  pendingChange : Option PendingChange
  fault : Option FaultReason
  superseded : Nat
  refusals : Nat
  timeouts : Nat
  /-- The sample at which the presence timer last started (R117). -/
  presentAt : Nat
  deriving DecidableEq, Repr

/-- The Rig Controller. -/
structure Rigs where
  ports : Vector RigPortRec 8
  slots : Vector Rig 8
  deriving DecidableEq, Repr

/-! ## Pictures (chapter 7) -/

/-- The states of a frame slot (TABLE 7-1). -/
inductive SlotState where
  | free | filling | ready
  deriving DecidableEq, Repr

/-- A beat mark, and the kind of a flash: NONE, BEAT or DOWNBEAT (TABLE 7-1, 8.3). -/
inductive MarkKind where
  | none | beat | downbeat
  deriving DecidableEq, Repr

/-- A frame slot (TABLE 7-1). -/
structure FrameSlot where
  state : SlotState
  sequence : Nat
  captured : Nat
  readers : Nat
  mark : MarkKind
  deriving DecidableEq, Repr

/-- An entry of a mark queue (R126); the beat is named by its Q16 onset. -/
structure MarkEntry where
  beat : Nat
  onset : Nat
  downbeat : Bool
  deriving DecidableEq, Repr

/-- The states of a camera (TABLE 7-2). -/
inductive CameraState where
  | ok | lost | off
  deriving DecidableEq, Repr

/-- A camera record with its ring and its ready list, oldest first (TABLE 7-2, R121). -/
structure CameraRec where
  enabled : Bool
  state : CameraState
  frameOpen : Bool
  goodRun : Nat
  lastStart : Nat
  counter : Nat
  marks : List MarkEntry
  drops : Nat
  aborts : Nat
  ring : Vector FrameSlot 6
  ready : List (Fin 6)
  deriving DecidableEq, Repr

/-- One of the twelve frame slots: its camera's ring and its number in the ring (R121). -/
structure SlotId where
  camera : Camera
  index : Fin 6
  deriving DecidableEq, Repr

/-- The source of a monitor (TABLE 7-3). -/
inductive MonitorSource where
  | camA | camB | auto | off
  deriving DecidableEq, Repr

/-- The flash mode of a monitor (TABLE 7-3). -/
inductive FlashMode where
  | off | click | image
  deriving DecidableEq, Repr

/-- A monitor record (TABLE 7-3); the overlay field set has a bit for each of BAR_BEAT, CUE, TEMPO, COUNT, FLASH and
BANNER, from bit 0 (TABLE 12-6). -/
structure Monitor where
  source : MonitorSource
  latency : Nat
  pairedLane : Option LaneNo
  flashMode : FlashMode
  flashLength : Nat
  fields : BitVec 8
  frozen : Bool
  held : Option SlotId
  deriving DecidableEq, Repr

/-- The Picture Controller. -/
structure Picture where
  camA : CameraRec
  camB : CameraRec
  monitors : Vector Monitor 6
  auto : Camera
  deriving DecidableEq, Repr

/-! ## Overlays (chapter 8) -/

/-- The position field of an overlay record: a beat's bar, beat in bar and count-in flag (TABLE 8-1). -/
structure Position where
  bar : Int
  beat : Nat
  countIn : Bool
  deriving DecidableEq, Repr

/-- The count field of an overlay record (TABLE 8-1). -/
inductive CountField where
  | blank
  | figure (n : Nat)
  | vamp (pass : Nat)
  | last
  deriving DecidableEq, Repr

/-- An overlay record (TABLE 8-1). -/
structure OverlayRec where
  position : Option Position
  cue : Option (Nat × Text)
  tempo : Option Nat
  count : CountField
  flash : MarkKind
  banner : Option Text
  noPicture : Bool
  showHalted : Bool
  deriving DecidableEq, Repr

/-- A flash target; the beat it was set for is named by its onset (R143). -/
structure FlashTarget where
  sample : Nat
  downbeat : Bool
  beat : Nat
  deriving DecidableEq, Repr

/-- A flash record (8.3). -/
structure FlashRec where
  target : Option FlashTarget
  kind : MarkKind
  ticks : Nat
  deriving DecidableEq, Repr

/-- The cue banner (R146), with the sample of the take that set it. -/
structure CueBanner where
  text : Text
  bars : Nat
  takenAt : Nat
  deriving DecidableEq, Repr

/-- What a monitor output sends from a tick on: the picture (absent for black) and the texts drawn on it (R136, 8.2 to
8.5). -/
structure OutputFrame where
  picture : Option SlotId
  positionText : Text
  cueText : Text
  tempoText : Text
  countText : Text
  flash : MarkKind
  bannerText : Text
  centreText : Text
  deriving DecidableEq, Repr

/-- The Overlay Generator, with the output frames of the monitors. -/
structure Overlay where
  banner : Option CueBanner
  flashes : Vector FlashRec 6
  records : Vector OverlayRec 6
  outputs : Vector OutputFrame 6
  deriving DecidableEq, Repr

/-! ## Stops (chapter 9) -/

/-- The nine stop sources, in the order of their indices (TABLE 9-1). -/
inductive StopSource where
  | relay | smStop | mdStop | clock | smLost | fohStop | mdLost | rigFault | cameraLost
  deriving DecidableEq, Repr

/-- The click component of a profile (TABLE 9-2). -/
inductive ClickProfile where
  | cut | bar | continued
  deriving DecidableEq, Repr

/-- The rigs component of a profile (TABLE 9-2). -/
inductive RigsProfile where
  | safe | none
  deriving DecidableEq, Repr

/-- The video component of a profile (TABLE 9-2). -/
inductive VideoProfile where
  | freeze | banner | none
  deriving DecidableEq, Repr

/-- A profile (TABLE 9-2). -/
structure Profile where
  click : ClickProfile
  rigs : RigsProfile
  video : VideoProfile
  deriving DecidableEq, Repr

/-- A record of the stop stack (R156). -/
structure StopRecord where
  source : StopSource
  level : Nat
  acked : Bool
  deriving DecidableEq, Repr

/-- The stop states (TABLE 9-3). -/
inductive StopState where
  | clear | stopping | stopped | awaitResume | restoring | resumeArmed | halted
  deriving DecidableEq, Repr

/-- The halt record: the source whose raising made the conflict, and the source of the top record (R169). -/
structure HaltRecord where
  raisedSource : StopSource
  topSource : StopSource
  deriving DecidableEq, Repr

/-- The Stop Controller's state of chapter 9. The vectors are indexed by the sources' indices. -/
structure Stops where
  levels : Vector Nat 9
  profiles : Vector Profile 9
  raised : Vector Bool 9
  /-- The relay state is ASSERTED (R155). -/
  relayAsserted : Bool
  /-- The samples for which the show-relay input has been seen at the other level, absent while it is not (R155). -/
  relayRun : Option Nat
  /-- The stop stack, top first (R156). -/
  stack : List StopRecord
  state : StopState
  holdOff : Nat
  runAdvisory : Bool
  displaced : Nat
  halt : Option HaltRecord
  /-- A frame tick has fallen since the top record became top (R173). -/
  topTicked : Bool
  /-- A banner-shown report naming the top record's source has been received since it became top (R173). -/
  topReported : Bool
  deriving DecidableEq, Repr

/-! ## Resume (chapter 10) -/

/-- The resume target (R177). -/
structure Target where
  cue : Nat
  offset : Nat
  deriving DecidableEq, Repr

/-- The Stop Controller's state of chapter 10. -/
structure Resume where
  target : Option Target
  mdReady : Bool
  /-- The restore set: each slot with the patch it must settle at (R177). -/
  restoreSet : List (Slot × Patch)
  countIn : Nat
  deriving DecidableEq, Repr

/-! ## Desk ports (chapter 11) -/

/-- The roles (R191). -/
inductive Role where
  | md | sm | prog | foh
  deriving DecidableEq, Repr

/-- The reply codes, in the order of their values (TABLE 12-5). -/
inductive ReplyCode where
  | ok | clamped | busy | noRight | frozen | readOnly | range | held | setup | stopped | ended | noCue
  | duplicate | full | poolFull | overlap | notReady | noVamp | noStop | inactive | running | relay | unknownCode
  deriving DecidableEq, Repr

/-- The reply to a request: its code and the value returned (R190). -/
structure Reply where
  code : ReplyCode
  payload : List Byte
  deriving DecidableEq, Repr

/-- The request in progress: its tag, its reply, and whether the reply's sending has begun (R189). -/
structure Progress where
  tag : Byte
  reply : Reply
  begun : Bool
  deriving DecidableEq, Repr

/-- What a port's transmitter is sending: a reply to the request in progress, a BUSY reply, or a NOTICE (R189). -/
inductive TxKind where
  | reply | busy | notice
  deriving DecidableEq, Repr

/-- A frame whose sending has begun. -/
structure Transmission where
  kind : TxKind
  frame : Frame
  deriving DecidableEq, Repr

/-- A desk port record (TABLE 11-1); the notice mask and the pending set have a bit for each kind (TABLE 12-5). -/
structure DeskPortRec where
  /-- The presence is ACTIVE. -/
  active : Bool
  /-- The sample at which the presence timer was last restarted (R187). -/
  presentAt : Nat
  role : Option Role
  inProgress : Option Progress
  waitingBusy : Option Byte
  mask : BitVec 8
  pendingSet : BitVec 8
  outstanding : Bool
  badFrames : Nat
  tx : Option Transmission
  /-- The bytes of the frame being received, from its start byte on; none while the receiver hunts (R187). -/
  rx : List Byte
  deriving DecidableEq, Repr

/-! ## The whole part -/

/-- The state of the RK-48 and the queue of the commands that wait, first in, first out. -/
structure State where
  time : Timebase
  tempo : TempoState
  beats : BeatState
  clicks : ClickGen
  tables : Tables
  pointer : Pointer
  rigs : Rigs
  picture : Picture
  overlay : Overlay
  stops : Stops
  resume : Resume
  desk : Vector DeskPortRec 4
  pending : List Instr
  deriving DecidableEq, Repr

/-- The faults of a step: none. The manual gives every command an effect in every state, so the type is empty. -/
inductive Fault where
  deriving DecidableEq, Repr

/-- The refusals of a step. -/
inductive Refusal where
  /-- Raised by `exec` alone, for a row of the opcode table whose meaning has not been written; safe, since the machine
  stops there. No arm raises it. -/
  | notModelled (mnemonic : String)
  deriving DecidableEq, Repr

/-! ## Power-on reset -/

/-- R1, R2, R7, R8. -/
def Timebase.reset : Timebase :=
  { clock := 0, source := .internal, goodEdges := 0, edgeSeen := false, wordSeen := false, holdovers := 0, missed := 0,
    rate := .fps50, tickPos := 0 }

/-- R19. -/
def TempoState.reset : TempoState :=
  { mode := .fixed, current := Config.tempoDefault, live := Config.tempoDefault, ramp := none, taps := [],
    clamped := false }

/-- R40. -/
def BeatState.reset : BeatState :=
  { click := .idle, current := none, next := none, nextOnset := none, countInLeft := 0, countInLength := 0,
    firstBarDue := false, startBar := 1, lastBarToBegin := false, meter := 4, pendingMeter := none, pendingBar := none,
    vamps := [], pushes := [], overflow := false }

/-- TABLE 3-1, R48, R56. -/
def Lane.reset : Lane :=
  { enabled := false, subdivision := 1, accent := .downbeat, soundSet := 0, level := 0, lead := 0, countVoice := false,
    clipCount := 0, gainLevel := 0, starts := [], clickVoice := none, countVoicePlaying := none }

/-- R56. -/
def ClickGen.reset : ClickGen :=
  { lanes := Vector.replicate 16 Lane.reset, memory := [], directory := Vector.replicate 16 none,
    roles := Vector.replicate 28 none, tdm := Vector.replicate 16 0 }

/-- The patch 0/0/0. -/
def Patch.zero : Patch := { bank := 0, program := 0, scene := 0 }

/-- TABLE 4-4. -/
def SlotSettings.reset : SlotSettings :=
  { opening := { main := Patch.zero, cover := none }, safe := Patch.zero, required := false, cover := false }

/-- R74. -/
def Tables.reset : Tables :=
  { session := .setup, cues := [], settings := Vector.replicate 8 SlotSettings.reset }

/-- R95. -/
def Pointer.reset : Pointer :=
  { standing := .absent, current := none, armed := none, chasePending := false, startIgnored := false }

/-- R96. -/
def RigPortRec.reset : RigPortRec :=
  { linkUp := false, boundSlot := none, duplicate := false, identity := none, invalidCount := 0, bit := false,
    lastSelect := none, rx := [] }

/-- TABLE 6-2. -/
def Rig.reset : Rig :=
  { name := [], boundPort := none, state := .absent, applied := none, sustain := .up, held := 0, inFlight := none,
    pendingChange := none, fault := none, superseded := 0, refusals := 0, timeouts := 0, presentAt := 0 }

/-- R120. -/
def Rigs.reset : Rigs :=
  { ports := Vector.replicate 8 RigPortRec.reset, slots := Vector.replicate 8 Rig.reset }

/-- TABLE 7-1. -/
def FrameSlot.reset : FrameSlot := { state := .free, sequence := 0, captured := 0, readers := 0, mark := .none }

/-- TABLE 7-2, R121. -/
def CameraRec.reset : CameraRec :=
  { enabled := false, state := .off, frameOpen := false, goodRun := 0, lastStart := 0, counter := 0, marks := [],
    drops := 0, aborts := 0, ring := Vector.replicate 6 FrameSlot.reset, ready := [] }

/-- TABLE 7-3. -/
def Monitor.reset : Monitor :=
  { source := .off, latency := 0, pairedLane := none, flashMode := .off, flashLength := 1, fields := 0, frozen := false,
    held := none }

/-- R138. -/
def Picture.reset : Picture :=
  { camA := CameraRec.reset, camB := CameraRec.reset, monitors := Vector.replicate 6 Monitor.reset, auto := .a }

/-- TABLE 8-1. -/
def OverlayRec.reset : OverlayRec :=
  { position := none, cue := none, tempo := none, count := .blank, flash := .none, banner := none, noPicture := false,
    showHalted := false }

/-- R151. -/
def FlashRec.reset : FlashRec := { target := none, kind := .none, ticks := 0 }

/-- R136: after power-on reset every picture is black. -/
def OutputFrame.reset : OutputFrame :=
  { picture := none, positionText := [], cueText := [], tempoText := [], countText := [], flash := .none,
    bannerText := [], centreText := [] }

/-- R151. -/
def Overlay.reset : Overlay :=
  { banner := none, flashes := Vector.replicate 6 FlashRec.reset, records := Vector.replicate 6 OverlayRec.reset,
    outputs := Vector.replicate 6 OutputFrame.reset }

/-- The profiles CUT / SAFE / FREEZE, CONTINUE / NONE / BANNER and BAR / SAFE / BANNER of TABLE 9-1. -/
def Profile.hard : Profile := { click := .cut, rigs := .safe, video := .freeze }
def Profile.warning : Profile := { click := .continued, rigs := .none, video := .banner }
def Profile.fohStop : Profile := { click := .bar, rigs := .safe, video := .banner }

/-- TABLE 9-1, R172. -/
def Stops.reset : Stops :=
  { levels := #v[15, 14, 13, 9, 8, 6, 5, 4, 0],
    profiles := #v[.hard, .hard, .hard, .warning, .warning, .fohStop, .warning, .warning, .warning],
    raised := Vector.replicate 9 false, relayAsserted := false, relayRun := none, stack := [], state := .clear,
    holdOff := 0, runAdvisory := true, displaced := 0, halt := none, topTicked := false, topReported := false }

/-- R185. -/
def Resume.reset : Resume := { target := none, mdReady := false, restoreSet := [], countIn := 1 }

/-- R200. -/
def DeskPortRec.reset : DeskPortRec :=
  { active := false, presentAt := 0, role := none, inProgress := none, waitingBusy := none, mask := 0xFF,
    pendingSet := 0, outstanding := false, badFrames := 0, tx := none, rx := [] }

/-- The RK-48 after power-on reset, with no command waiting. -/
def State.reset : State :=
  { time := Timebase.reset, tempo := TempoState.reset, beats := BeatState.reset, clicks := ClickGen.reset,
    tables := Tables.reset, pointer := Pointer.reset, rigs := Rigs.reset, picture := Picture.reset,
    overlay := Overlay.reset, stops := Stops.reset, resume := Resume.reset,
    desk := Vector.replicate 4 DeskPortRec.reset, pending := [] }

end Sys2Proof.Machine
end

