-- ==== Sys2Proof/Machine/Table.lean ====
section
/-!
DEFINITION. The part's fixed tables (lanes, slots, ports, monitors): reading an entry, writing an entry, changing every
entry, and the lists of their indices.
-/

namespace Sys2Proof.Machine

/-- The entry of a table at an index. -/
def tget {α : Type} {n : Nat} (v : Vector α n) (i : Fin n) : α := v[i]

/-- A table with one entry replaced. -/
def tput {α : Type} {n : Nat} (v : Vector α n) (i : Fin n) (x : α) : Vector α n := v.set i x

/-- A table with every entry changed in the same way. -/
def tmap {α β : Type} {n : Nat} (f : α → β) (v : Vector α n) : Vector β n := ⟨(v.toList.map f).toArray, by simp⟩

/-- A table with every entry changed by a function of its index. -/
def tmapIdx {α β : Type} {n : Nat} (f : Fin n → α → β) (v : Vector α n) : Vector β n :=
  ⟨((List.finRange n).map fun i => f i (tget v i)).toArray, by simp⟩

/-- The index a byte of a payload names, in a table of `n` entries. -/
def idx? (n : Nat) (i : Nat) : Option (Fin n) := if h : i < n then some ⟨i, h⟩ else none

/-- The slots, ports, lanes, monitors and desk ports, in order. -/
def allSlots : List Slot := [0, 1, 2, 3, 4, 5, 6, 7]
def allRigPorts : List RigPort := [0, 1, 2, 3, 4, 5, 6, 7]
def allLanes : List LaneNo := [0, 1, 2, 3, 4, 5, 6, 7, 8, 9, 10, 11, 12, 13, 14, 15]
def allMonitors : List (Fin 6) := [0, 1, 2, 3, 4, 5]
def allDeskPorts : List DeskPort := [0, 1, 2, 3]

/-- The index of a stop source (TABLE 9-1). -/
def StopSource.index : StopSource → Fin 9
  | .relay => 0
  | .smStop => 1
  | .mdStop => 2
  | .clock => 3
  | .smLost => 4
  | .fohStop => 5
  | .mdLost => 6
  | .rigFault => 7
  | .cameraLost => 8

/-- The stop sources, in the order of their indices. -/
def allSources : List StopSource :=
  [.relay, .smStop, .mdStop, .clock, .smLost, .fohStop, .mdLost, .rigFault, .cameraLost]

end Sys2Proof.Machine
end

