-- ==== Sys2Proof/Machine/Operands.lean ====
section
/-!
DEFINITION. The forms in which values are carried in payloads and items (R202): every form written as bytes, every form
read from bytes, the payloads of the commands (TABLE 12-2), the cue record (TABLE 12-3) and the chase (TABLE 12-4).
-/

namespace Sys2Proof.Machine

/-! ## Values written as bytes -/

/-- The low byte of a number. -/
def byteOf (n : Nat) : Byte := BitVec.ofNat 8 n

/-- A number in `w` bytes, most significant byte first. -/
def beBytes : Nat → Nat → List Byte
  | 0, _ => []
  | w + 1, n => byteOf (n / 256 ^ w) :: beBytes w n

/-- A signed number in two bytes, two's complement. -/
def signedBytes (i : Int) : List Byte := beBytes 2 (i % 65536).toNat

/-- A yes/no (R202). -/
def boolByte (b : Bool) : List Byte := [if b then 1 else 0]

/-- An optional field of a fixed width: a presence byte, then the field's bytes, as zeros when absent (R202). -/
def optBytes {α : Type} (w : Nat) (f : α → List Byte) : Option α → List Byte
  | none => 0 :: List.replicate w 0
  | some a => 1 :: f a

/-- A text: a length byte, then the characters (R202). -/
def textBytes (t : Text) : List Byte := byteOf t.length :: t

/-- A list: a count byte, then the entries (R202). -/
def listBytes {α : Type} (f : α → List Byte) (l : List α) : List Byte := byteOf l.length :: l.flatMap f

/-- A patch (R202). -/
def patchBytes (p : Patch) : List Byte := [byteOf p.bank, byteOf p.program, byteOf p.scene]

/-- An optional patch: presence, then the patch; also a patch that may be UNKNOWN, its two forms UNKNOWN first. -/
def optPatchBytes (p : Option Patch) : List Byte := optBytes 3 patchBytes p

/-! ## Enumerations, each value's place in its listing (R202) -/

def ClockSource.code : ClockSource → Byte
  | .word => 0
  | .internal => 1

def TempoMode.code : TempoMode → Byte
  | .fixed => 0
  | .live => 1
  | .ramp => 2

def ClickState.code : ClickState → Byte
  | .idle => 0
  | .countIn => 1
  | .running => 2
  | .finishing => 3

def VampKind.code : VampKind → Byte
  | .opened => 0
  | .repeated => 1

def VampKind.ofCode (b : Byte) : Option VampKind :=
  if b = 0 then some .opened else if b = 1 then some .repeated else none

def Accent.code : Accent → Byte
  | .downbeat => 0
  | .flat => 1
  | .none => 2

def Accent.ofCode (b : Byte) : Option Accent :=
  if b = 0 then some .downbeat else if b = 1 then some .flat else if b = 2 then some .none else Option.none

def Session.code : Session → Byte
  | .setup => 0
  | .inShow => 1

def Boundary.code : Boundary → Byte
  | .immediate => 0
  | .nextBeat => 1
  | .nextBar => 2

def Boundary.ofCode (b : Byte) : Option Boundary :=
  if b = 0 then some .immediate else if b = 1 then some .nextBeat else if b = 2 then some .nextBar else none

def Transition.code : Transition → Byte
  | .cut => 0
  | .sustainSafe => 1

def Transition.ofCode (b : Byte) : Option Transition :=
  if b = 0 then some .cut else if b = 1 then some .sustainSafe else none

def cameraCode : Camera → Byte
  | .a => 0
  | .b => 1

def sustainCode : Sustain → Byte
  | .up => 0
  | .down => 1

def RigState.code : RigState → Byte
  | .absent => 0
  | .ready => 1
  | .changing => 2
  | .fault => 3

def FaultReason.code : FaultReason → Byte
  | .timeout => 0
  | .refused => 1
  | .lost => 2

def ChangeKind.code : ChangeKind → Byte
  | .cue => 0
  | .safe => 1
  | .restore => 2

def SlotState.code : SlotState → Byte
  | .free => 0
  | .filling => 1
  | .ready => 2

def MarkKind.code : MarkKind → Byte
  | .none => 0
  | .beat => 1
  | .downbeat => 2

def CameraState.code : CameraState → Byte
  | .ok => 0
  | .lost => 1
  | .off => 2

def MonitorSource.code : MonitorSource → Byte
  | .camA => 0
  | .camB => 1
  | .auto => 2
  | .off => 3

def MonitorSource.ofCode (b : Byte) : Option MonitorSource :=
  if b = 0 then some .camA else if b = 1 then some .camB else if b = 2 then some .auto
  else if b = 3 then some .off else none

def FlashMode.code : FlashMode → Byte
  | .off => 0
  | .click => 1
  | .image => 2

def FlashMode.ofCode (b : Byte) : Option FlashMode :=
  if b = 0 then some .off else if b = 1 then some .click else if b = 2 then some .image else none

def ClickProfile.code : ClickProfile → Byte
  | .cut => 0
  | .bar => 1
  | .continued => 2

def ClickProfile.ofCode (b : Byte) : Option ClickProfile :=
  if b = 0 then some .cut else if b = 1 then some .bar else if b = 2 then some .continued else none

def RigsProfile.code : RigsProfile → Byte
  | .safe => 0
  | .none => 1

def RigsProfile.ofCode (b : Byte) : Option RigsProfile :=
  if b = 0 then some .safe else if b = 1 then some .none else Option.none

def VideoProfile.code : VideoProfile → Byte
  | .freeze => 0
  | .banner => 1
  | .none => 2

def VideoProfile.ofCode (b : Byte) : Option VideoProfile :=
  if b = 0 then some .freeze else if b = 1 then some .banner else if b = 2 then some .none else Option.none

def StopState.code : StopState → Byte
  | .clear => 0
  | .stopping => 1
  | .stopped => 2
  | .awaitResume => 3
  | .restoring => 4
  | .resumeArmed => 5
  | .halted => 6

def Role.code : Role → Byte
  | .md => 0
  | .sm => 1
  | .prog => 2
  | .foh => 3

def Role.ofCode (b : Byte) : Option Role :=
  if b = 0 then some .md else if b = 1 then some .sm else if b = 2 then some .prog
  else if b = 3 then some .foh else none

/-- The code byte of a REPLY (TABLE 12-5). -/
def ReplyCode.byte : ReplyCode → Byte
  | .ok => 0x00
  | .clamped => 0x01
  | .busy => 0x02
  | .noRight => 0x03
  | .frozen => 0x04
  | .readOnly => 0x05
  | .range => 0x06
  | .held => 0x07
  | .setup => 0x08
  | .stopped => 0x09
  | .ended => 0x0A
  | .noCue => 0x0B
  | .duplicate => 0x0C
  | .full => 0x0D
  | .poolFull => 0x0E
  | .overlap => 0x0F
  | .notReady => 0x10
  | .noVamp => 0x11
  | .noStop => 0x12
  | .inactive => 0x13
  | .running => 0x14
  | .relay => 0x15
  | .unknownCode => 0x16

/-- The item value of a video rate, in hundredths of a frame per second (TABLE 1-2). -/
def VideoRate.value : VideoRate → Nat
  | .fps50 => 5000
  | .fps5994 => 5994
  | .fps60 => 6000

/-- The video rate an item value names (R7). -/
def VideoRate.ofValue (n : Nat) : Option VideoRate :=
  if n = 5000 then some .fps50 else if n = 5994 then some .fps5994 else if n = 6000 then some .fps60 else none

/-! ## Values read from bytes: each reader answers the value and the bytes that follow it, or nothing -/

/-- A reader of values from a payload. -/
abbrev Reader (α : Type) := List Byte → Option (α × List Byte)

/-- A byte. -/
def rdByte : Reader Byte
  | [] => none
  | b :: bs => some (b, bs)

/-- An integer of one, two and four bytes. -/
def rd1 : Reader Nat
  | a :: bs => some (a.toNat, bs)
  | _ => none

def rd2 : Reader Nat
  | a :: b :: bs => some (a.toNat * 256 + b.toNat, bs)
  | _ => none

def rd4 : Reader Nat
  | a :: b :: c :: d :: bs => some (((a.toNat * 256 + b.toNat) * 256 + c.toNat) * 256 + d.toNat, bs)
  | _ => none

/-- A 24-bit sample (TABLE 12-2). -/
def rdSample : Reader Sample
  | a :: b :: c :: bs => some (a ++ b ++ c, bs)
  | _ => none

/-- A presence byte or a yes/no. -/
def rdBool : Reader Bool
  | b :: bs => if b = 0 then some (false, bs) else if b = 1 then some (true, bs) else none
  | _ => none

/-- An enumeration. -/
def rdEnum {α : Type} (ofCode : Byte → Option α) : Reader α
  | b :: bs => (ofCode b).map fun a => (a, bs)
  | _ => none

/-- A patch. -/
def rdPatch : Reader Patch
  | a :: b :: c :: bs => some ({ bank := a.toNat, program := b.toNat, scene := c.toNat }, bs)
  | _ => none

/-- An optional field: the field's bytes stand there even when it is absent (R202). They need not be zeros, but the field's own
reader must take them (log 19). -/
def rdOpt {α : Type} (r : Reader α) : Reader (Option α) := fun bs => do
  let (present, bs) ← rdBool bs
  let (a, bs) ← r bs
  return (if present then some a else none, bs)

/-- A text of at most `max` characters. -/
def rdText (max : Nat) : Reader Text
  | n :: bs => if n.toNat ≤ max ∧ n.toNat ≤ bs.length then some (bs.take n.toNat, bs.drop n.toNat) else none
  | _ => none

/-- `n` values one after another. -/
def rdMany {α : Type} (r : Reader α) : Nat → Reader (List α)
  | 0, bs => some ([], bs)
  | n + 1, bs => do
    let (a, bs) ← r bs
    let (as, bs) ← rdMany r n bs
    return (a :: as, bs)

/-- The whole of a payload or value: no byte is left over (R202). -/
def whole {α : Type} (r : Reader α) (bs : List Byte) : Option α :=
  match r bs with
  | some (a, []) => some a
  | _ => none

/-- An empty payload. -/
def payloadNone (bs : List Byte) : Option Unit := if bs = [] then some () else none

/-- A payload of one integer of one, two or four bytes. -/
def payload1 : List Byte → Option Nat := whole rd1
def payload2 : List Byte → Option Nat := whole rd2
def payload4 : List Byte → Option Nat := whole rd4

/-- A payload of two bytes, the port and the slot of a BIND. -/
def payloadBind : List Byte → Option (Nat × Nat) := whole fun bs => do
  let (p, bs) ← rd1 bs
  let (s, bs) ← rd1 bs
  return ((p, s), bs)

/-- The directions of a CUE READ (R68). -/
inductive ReadDirection where
  | at | after
  deriving DecidableEq, Repr

/-- The direction a byte names. -/
def ReadDirection.ofCode (b : Byte) : Option ReadDirection :=
  if b = 0 then some .at else if b = 1 then some .after else none

/-- The payload of a CUE READ. -/
def payloadCueRead : List Byte → Option (Nat × ReadDirection) := whole fun bs => do
  let (n, bs) ← rd4 bs
  let (d, bs) ← rdEnum ReadDirection.ofCode bs
  return ((n, d), bs)

/-- The payload of a RESUME AT: a cue number and a bar offset. -/
def payloadResumeAt : List Byte → Option (Nat × Nat) := whole fun bs => do
  let (n, bs) ← rd4 bs
  let (o, bs) ← rd2 bs
  return ((n, o), bs)

/-- The payload of a CLIP DEFINE: clip, start and length. -/
def payloadClipDefine : List Byte → Option (Nat × Nat × Nat) := whole fun bs => do
  let (c, bs) ← rd1 bs
  let (s, bs) ← rd2 bs
  let (l, bs) ← rd2 bs
  return ((c, s, l), bs)

/-- The payload of a CLIP WRITE: an address, then one to eighty samples of three bytes each (R43, TABLE 12-2). -/
def payloadClipWrite (bs : List Byte) : Option (Nat × List Sample) :=
  match rd2 bs with
  | some (addr, bs) =>
    let n := bs.length / 3
    if 1 ≤ n ∧ n ≤ Config.clipWriteMax then (whole (rdMany rdSample n) bs).map fun s => (addr, s) else none
  | none => none

/-- The payload of a CLAIM ROLE. -/
def payloadRole : List Byte → Option Role := whole (rdEnum Role.ofCode)

/-- The payload of a NOTICE ACK: a set of kinds. -/
def payloadKinds : List Byte → Option (BitVec 8) := whole rdByte

/-! ## The cue record (TABLE 12-3) -/

/-- The tempo spec of a payload: kind, tempo, R. -/
def rdTempo : Reader TempoSpec := fun bs => do
  let (k, bs) ← rdByte bs
  let (t, bs) ← rd2 bs
  let (r, bs) ← rd1 bs
  if k = 0 then return (.keep, bs)
  else if k = 1 then return (.fixed t, bs)
  else if k = 2 then return (.live, bs)
  else if k = 3 then return (.ramp t r, bs)
  else none

/-- The click action of a payload: kind, count-in. -/
def rdClick : Reader ClickAction := fun bs => do
  let (k, bs) ← rdByte bs
  let (c, bs) ← rd1 bs
  if k = 0 then return (.keep, bs)
  else if k = 1 then return (.start c, bs)
  else if k = 2 then return (.stop, bs)
  else if k = 3 then return (.cut, bs)
  else none

/-- The vamp of a payload: presence, kind, length, passes (0 for absent). An absent vamp with a kind beyond its list does not
decode (log 19). -/
def rdVamp : Reader (Option VampSpec) := rdOpt fun bs => do
  let (kind, bs) ← rdEnum VampKind.ofCode bs
  let (length, bs) ← rd1 bs
  let (p, bs) ← rd1 bs
  return ({ kind, length, passes := if p = 0 then none else some p }, bs)

/-- The camera of a video action: absent, A or B. -/
def rdCamera : Reader (Option Camera)
  | b :: bs => if b = 0 then some (none, bs) else if b = 1 then some (some .a, bs)
    else if b = 2 then some (some .b, bs) else none
  | _ => none

/-- The video action of a payload: presence, camera, banner presence, duration, text. An absent one with a camera, presence or
text length beyond its list does not decode (log 19). -/
def rdVideo : Reader (Option VideoAction) := rdOpt fun bs => do
  let (camera, bs) ← rdCamera bs
  let (banner, bs) ← rdOpt (fun bs => do
    let (duration, bs) ← rd1 bs
    let (text, bs) ← rdText 24 bs
    return (({ text, duration } : BannerSpec), bs)) bs
  return ({ camera, banner }, bs)

/-- A change entry of a payload. -/
def rdChange : Reader ChangeEntry := fun bs => do
  let (slot, bs) ← rd1 bs
  let (main, bs) ← rdPatch bs
  let (cover, bs) ← rdOpt rdPatch bs
  let (transition, bs) ← rdEnum Transition.ofCode bs
  let (forceLimit, bs) ← rd1 bs
  return ({ slot, pair := { main, cover }, transition, forceLimit }, bs)

/-- The cue record of a payload. -/
def payloadCue : List Byte → Option Cue := whole fun bs => do
  let (number, bs) ← rd4 bs
  let (label, bs) ← rdText 12 bs
  let (scoreBar, bs) ← rdOpt rd2 bs
  let (tempo, bs) ← rdTempo bs
  let (meter, bs) ← rdOpt rd1 bs
  let (click, bs) ← rdClick bs
  let (vamp, bs) ← rdVamp bs
  let (boundary, bs) ← rdEnum Boundary.ofCode bs
  let (video, bs) ← rdVideo bs
  let (n, bs) ← rd1 bs
  let (changes, bs) ← rdMany rdChange n bs
  return ({ number, label, scoreBar, tempo, meter, click, vamp, boundary, changes, video }, bs)

/-- The tempo spec as CUE READ returns it: fields the kind does not use are 0. -/
def tempoBytes : TempoSpec → List Byte
  | .keep => [0, 0, 0, 0]
  | .fixed t => 1 :: beBytes 2 t ++ [0]
  | .live => [2, 0, 0, 0]
  | .ramp t r => 3 :: beBytes 2 t ++ [byteOf r]

/-- The click action as CUE READ returns it. -/
def clickBytes : ClickAction → List Byte
  | .keep => [0, 0]
  | .start c => [1, byteOf c]
  | .stop => [2, 0]
  | .cut => [3, 0]

/-- The vamp as CUE READ returns it. -/
def vampSpecBytes (v : VampSpec) : List Byte := [v.kind.code, byteOf v.length, byteOf (v.passes.getD 0)]

/-- The camera of a video action. -/
def cameraOptByte : Option Camera → Byte
  | none => 0
  | some .a => 1
  | some .b => 2

/-- The banner of a video action. -/
def bannerBytes (b : BannerSpec) : List Byte := byteOf b.duration :: textBytes b.text

/-- The video action as CUE READ returns it. -/
def videoBytes (v : VideoAction) : List Byte := cameraOptByte v.camera :: optBytes 2 bannerBytes v.banner

/-- A change entry as CUE READ returns it. -/
def changeBytes (c : ChangeEntry) : List Byte :=
  byteOf c.slot :: patchBytes c.pair.main ++ optPatchBytes c.pair.cover ++ [c.transition.code, byteOf c.forceLimit]

/-- The cue record as CUE READ returns it (TABLE 12-3). -/
def cueBytes (c : Cue) : List Byte :=
  beBytes 4 c.number ++ textBytes c.label ++ optBytes 2 (beBytes 2) c.scoreBar ++ tempoBytes c.tempo ++
  optBytes 1 (beBytes 1) c.meter ++ clickBytes c.click ++ optBytes 3 vampSpecBytes c.vamp ++ [c.boundary.code] ++
  optBytes 4 videoBytes c.video ++ listBytes changeBytes c.changes

end Sys2Proof.Machine
end

