-- ==== Sys2Proof/Machine/Flags.lean ====
section
/-!
DEFINITION. Notice kinds and how a change makes them pending (R197), and the writes of the flag items (R10, R195).
-/

namespace Sys2Proof.Machine

/-! ## Notices -/

/-- The notice kinds (TABLE 12-5). -/
inductive NoticeKind where
  | cue | stop | rig | tempo | camera | clock | table | fault
  deriving DecidableEq, Repr

/-- The bit of a notice kind (TABLE 12-5). -/
def NoticeKind.bit : NoticeKind → BitVec 8
  | .cue => 0x01
  | .stop => 0x02
  | .rig => 0x04
  | .tempo => 0x08
  | .camera => 0x10
  | .clock => 0x20
  | .table => 0x40
  | .fault => 0x80

/-- Every notice kind. -/
def allKinds : BitVec 8 := 0xFF

/-- A kind joins a port's pending set if the port's mask holds it (R197). -/
def DeskPortRec.gather (k : NoticeKind) (d : DeskPortRec) : DeskPortRec :=
  { d with pendingSet := d.pendingSet ||| (d.mask &&& k.bit) }

/-- A kind is made pending at every desk port (R197). -/
def notify (k : NoticeKind) (s : State) : State := { s with desk := tmap (DeskPortRec.gather k) s.desk }

/-- A kind is made pending at every desk port where something has changed. -/
def notifyIf (changed : Bool) (k : NoticeKind) (s : State) : State := if changed then notify k s else s

/-! ## Flag items -/

/-- What a write asks of a sticky flag: it is refused RANGE, it clears the flag, or it leaves it as it stands (R10). -/
inductive StickyWrite where
  | outOfRange | clears | keeps
  deriving DecidableEq, Repr

/-- A write of a sticky flag (R10): a SWAP of zero or a CLEAR of the flag clears it; a SWAP of another value and a SET
are refused RANGE, and so is a mask with a bit that names no flag (R206). -/
def stickyWrite : FlagOp → List Byte → StickyWrite
  | .swap, [v] => if v = 0 then .clears else .outOfRange
  | .set, [m] => if m = 0 then .keeps else .outOfRange
  | .clear, [m] => if m = 0 then .keeps else if m = 1 then .clears else .outOfRange
  | _, _ => .outOfRange

/-- The value of a flag item after a write, where `legal` are the bits that name a flag (R195, R206). A SWAP of 0x00 is the
empty set (log 48). -/
def flagWrite (legal old : BitVec 8) : FlagOp → List Byte → Option (BitVec 8)
  | op, [m] =>
    if m &&& ~~~legal = 0 then
      some (match op with
        | .swap => m
        | .set => old ||| m
        | .clear => old &&& ~~~m)
    else none
  | _, _ => none

/-- The byte of a one-flag item. -/
def flagBytes (b : Bool) : List Byte := [if b then 1 else 0]

end Sys2Proof.Machine
end

