-- ==== Sys2Proof/Machine/Ops.lean ====
section
/-!
DEFINITION. The operations every block shares: the show clock as a time stamp, presence at a desk port, the taking of a
request and the sending of its reply (R187, R189, R190), and the frames the part builds (R201).
-/

namespace Sys2Proof.Machine

/-- The outcome of a command. -/
abbrev Result := Host.Outcome State Fault Refusal

/-- The show clock (R1). -/
def State.now (s : State) : Nat := s.time.clock

/-- The record of a desk port. -/
def State.port (s : State) (p : DeskPort) : DeskPortRec := tget s.desk p

/-- The state with a desk port's record replaced. -/
def State.setPort (s : State) (p : DeskPort) (d : DeskPortRec) : State := { s with desk := tput s.desk p d }

/-- A valid frame has been taken on a port: the presence timer restarts, the port is ACTIVE, and its receiver hunts
again (R186, R187). -/
def validFrame (p : DeskPort) (s : State) : State :=
  s.setPort p { s.port p with active := true, presentAt := s.now, rx := [] }

/-- The frame of a reply (R201). -/
def replyFrame (tag : Byte) (r : Reply) : Frame :=
  { kind := .reply, tag, code := r.code.byte, payload := r.payload }

/-- The frame of a NOTICE that carries a pending set (R201). -/
def noticeFrame (set : BitVec 8) : Frame := { kind := .notice, tag := 0, code := 0, payload := [set] }

/-- A port's transmitter, when it is free, chooses the reply to the request in progress, then the waiting BUSY reply
(R189). A NOTICE is chosen by the NOTICE step. The BUSY reply waits no longer once its own sending begins (log 49). -/
def DeskPortRec.choose (d : DeskPortRec) : DeskPortRec :=
  match d.tx with
  | some _ => d
  | none =>
    match d.inProgress, d.waitingBusy with
    | some ⟨tag, reply, false⟩, _ =>
      { d with inProgress := some ⟨tag, reply, true⟩, tx := some ⟨.reply, replyFrame tag reply⟩ }
    | _, some tag => { d with waitingBusy := none, tx := some ⟨.busy, replyFrame tag ⟨.busy, []⟩⟩ }
    | _, none => d

/-- The transmitter of a port chooses its next frame (R189). -/
def chooseFrame (p : DeskPort) (s : State) : State := s.setPort p (s.port p).choose

/-- The outcome an owner gives a request: the reply, and the state after it. -/
structure Answer where
  reply : Reply
  state : State

/-- The request is carried out and returns no value. -/
def accept (s : State) : Answer := ⟨⟨.ok, []⟩, s⟩

/-- The request is carried out and returns a value. -/
def acceptWith (value : List Byte) (s : State) : Answer := ⟨⟨.ok, value⟩, s⟩

/-- The request is carried out with the nearest legal value. -/
def acceptClamped (s : State) : Answer := ⟨⟨.clamped, []⟩, s⟩

/-- The request is carried out; the reply is CLAMPED where a value was clamped. -/
def acceptIf (clamped : Bool) (s : State) : Answer := ⟨⟨if clamped then .clamped else .ok, []⟩, s⟩

/-- The request is refused and changes nothing. -/
def refuse (c : ReplyCode) (s : State) : Answer := ⟨⟨c, []⟩, s⟩

/-- A request that finds another in progress on its port: it is refused BUSY, or it is discarded and counted where a
BUSY reply already waits (R189). -/
def DeskPortRec.busyRequest (tag : Byte) (d : DeskPortRec) : DeskPortRec :=
  match d.waitingBusy with
  | none => { d with waitingBusy := some tag }
  | some _ => { d with badFrames := countUp d.badFrames }

/-- The reply of a request that has been decided, which becomes the request in progress (R189). -/
def progressOf (tag : Byte) (reply : Reply) : Progress := { tag, reply, begun := false }

/-- A request is taken on a port (R189): presence first; a request in progress turns it away; else its owner decides it
at the sample of its take, and the reply waits for the transmitter. -/
def request (r : Req) (act : State → Answer) (s : State) : State :=
  let s := validFrame r.port s
  match (s.port r.port).inProgress with
  | some _ => chooseFrame r.port (s.setPort r.port ((s.port r.port).busyRequest r.tag))
  | none =>
    let a := act s
    let s := a.state
    chooseFrame r.port (s.setPort r.port { s.port r.port with inProgress := some (progressOf r.tag a.reply) })

/-- Does a port's role belong to a role set? (R190, R203) -/
def holds (roles : List Role) (d : DeskPortRec) : Bool :=
  match d.role with
  | some r => roles.contains r
  | none => false

/-- A command open to a role set: its payload is decoded (order 2 of R190), then the role is tested (order 5), then its
owner decides (order 6). -/
def command {α : Type} (r : Req) (roles : List Role) (decode : List Byte → Option α) (payload : List Byte)
    (owner : α → State → Answer) (s : State) : State :=
  request r (fun s =>
    match decode payload with
    | none => refuse .range s
    | some a => if holds roles (s.port r.port) then owner a s else refuse .noRight s) s

/-- A command open to any port (TABLE 12-2). -/
def openCommand {α : Type} (r : Req) (decode : List Byte → Option α) (payload : List Byte)
    (owner : α → State → Answer) (s : State) : State :=
  request r (fun s =>
    match decode payload with
    | none => refuse .range s
    | some a => owner a s) s

/-- The port that holds a role, if any (R191). -/
def holderOf (role : Role) (s : State) : Option DeskPort :=
  allDeskPorts.find? fun p => (s.port p).role = some role

end Sys2Proof.Machine
end

