-- ==== Sys2Proof/Machine/TempoOps.lean ====
section
/-!
DEFINITION. The arithmetic and the state changes of the tempo (chapter 1): clamping, the MD tempo commands, the tempo
spec of a cue, and the tempo and period fixed at a commit.
-/

namespace Sys2Proof.Machine

/-- A tempo brought into range (R9). -/
def clampTempo (t : Nat) : Nat := max Config.tempoMin (min Config.tempoMax t)

/-- Is a tempo out of range, so that it is clamped? (R9) -/
def outOfTempo (t : Nat) : Bool := t < Config.tempoMin || Config.tempoMax < t

/-- Do two tempo states differ in what makes the TEMPO kind pending: the mode, current_tempo or live_tempo? (R11, R12) -/
def TempoState.differs (a b : TempoState) : Bool := a.mode != b.mode || a.current != b.current || a.live != b.live

/-- The tempo state is replaced, with the TEMPO kind made pending if it changed, or if TEMPO_CLAMPED changed (R10 to
R12, R18). -/
def setTempoState (t : TempoState) (s : State) : State :=
  notifyIf (s.tempo.differs t || s.tempo.clamped != t.clamped) .tempo { s with tempo := t }

/-- The copy and mode change with which every accepted MD tempo command begins (R12). -/
def TempoState.toLive (t : TempoState) : TempoState :=
  match t.mode with
  | .live => t
  | _ => { t with live := t.current, ramp := none, mode := .live }

/-- A new live_tempo, clamped, with current_tempo following it (R9, R12); a clamp sets TEMPO_CLAMPED. -/
def TempoState.setLive (v : Nat) (t : TempoState) : TempoState :=
  { t with live := clampTempo v, current := clampTempo v, clamped := t.clamped || outOfTempo v }

/-- SET TEMPO (R12). -/
def TempoState.setTempo (v : Nat) (t : TempoState) : TempoState := { (t.toLive.setLive v) with taps := [] }

/-- The unclamped result of a nudge of `percent` (R13). -/
def nudged (percent : Nat) (t : TempoState) : Nat := t.toLive.live * percent / 100

/-- NUDGE UP with 101, NUDGE DOWN with 99 (R13). -/
def TempoState.nudge (percent : Nat) (t : TempoState) : TempoState := t.toLive.setLive (nudged percent t)

/-- The tap list after a tap at time `now`, or none where the tap is a bounce (R14). -/
def tapList (now : Nat) (taps : List Nat) : Option (List Nat) :=
  match taps.getLast? with
  | none => some [now]
  | some newest =>
    if now - newest < Config.tapMin then none
    else if Config.tapMax < now - newest then some [now]
    else
      let l := taps ++ [now]
      some (if Config.tapCapacity < l.length then l.drop 1 else l)

/-- The mean interval of a tap list of two or more entries (R15). -/
def tapMean (taps : List Nat) : Nat := (taps.getLast?.getD 0 - taps.headD 0) / (taps.length - 1)

/-- The unclamped tempo a mean interval gives (R15). -/
def tapTempo (avg : Nat) : Nat := (Config.tapNumerator + avg / 2) / avg

/-- The tempo state after an accepted tap that leaves the list `taps` (R12, R14, R15). -/
def TempoState.acceptTap (taps : List Nat) (t : TempoState) : TempoState :=
  let t := { t.toLive with taps := taps }
  if 2 ≤ taps.length then t.setLive (tapTempo (tapMean taps)) else t

/-- Is the tempo computed from a tap list clamped? (R15) -/
def tapClamps (taps : List Nat) : Bool := 2 ≤ taps.length && outOfTempo (tapTempo (tapMean taps))

/-- The tempo spec of a taken cue, or a tempo chase (R11). -/
def TempoState.apply (spec : TempoSpec) (t : TempoState) : TempoState :=
  match spec with
  | .keep => t
  | .fixed v => { t with mode := .fixed, current := v, ramp := none }
  | .live => { t with mode := .live, current := t.live, ramp := none }
  | .ramp t1 n => { t with mode := .ramp, ramp := some { t0 := t.current, t1, length := n, done := 0 } }

/-- The tempo of ramp beat i, T0 + trunc((T1 − T0) × (i + 1) / R) (R18). -/
def rampTempo (r : Ramp) : Nat :=
  ((r.t0 : Int) + (((r.t1 : Int) - r.t0) * (r.done + 1)).tdiv r.length).toNat

/-- The tempo a commit fixes, and the tempo state after the commit (R16, R18). -/
def TempoState.commit (t : TempoState) : Nat × TempoState :=
  match t.mode, t.ramp with
  | .ramp, some r =>
    let v := rampTempo r
    if r.length ≤ r.done + 1 then (r.t1, { t with mode := .fixed, current := r.t1, ramp := none })
    else (v, { t with current := v, ramp := some { r with done := r.done + 1 } })
  | .live, _ => (t.live, t)
  | _, _ => (t.current, t)

/-- The period of a beat at a tempo, in Q16 (R16). -/
def periodOf (tempo : Nat) : Nat := Config.periodNumerator / tempo

/-- The Q16 position of subdivision k of n of a beat (R17). -/
def subdivisionAt (onset period k n : Nat) : Nat := onset + period * k / n

end Sys2Proof.Machine
end

