-- ==== Sys2Proof/Machine/ClickOps.lean ====
section
/-!
DEFINITION. The Click Generator's operations (chapter 3): the clip memory, the scheduling of starts at a commit, the
starting and silencing of voices, gain and mixing, and the TDM frame.
-/

namespace Sys2Proof.Machine

/-! ## Clip memory -/

namespace ClipMem

/-- What an address that is not listed reads as: power-on reset sets every sample of the clip memory to 0 (R43). -/
def blank : Sample := 0

/-- The sample at an address. -/
def read : ClipMemory → Nat → Sample
  | [], _ => blank
  | (a, v) :: m, addr => if a = addr then v else read m addr

/-- The memory with the sample at an address replaced, in its one canonical form. -/
def write : ClipMemory → Nat → Sample → ClipMemory
  | [], addr, x => if x = blank then [] else [(addr, x)]
  | (a, v) :: m, addr, x =>
    if addr < a then (if x = blank then (a, v) :: m else (addr, x) :: (a, v) :: m)
    else if addr = a then (if x = blank then m else (a, x) :: m)
    else (a, v) :: write m addr x

/-- A run of samples stored at consecutive addresses. -/
def writeRun : ClipMemory → Nat → List Sample → ClipMemory
  | m, _, [] => m
  | m, addr, x :: xs => writeRun (write m addr x) (addr + 1) xs

/-- Every listed address lies above `low`, the addresses rise strictly, none is past the end of the memory, and no listed
sample is the one an unlisted address reads as. -/
def wfFrom : Nat → ClipMemory → Bool
  | _, [] => true
  | low, (a, v) :: m => low ≤ a && a < Config.clipMemorySize && v != blank && wfFrom (a + 1) m

/-- The canonical form of the clip memory. -/
def wf (m : ClipMemory) : Bool := wfFrom 0 m

end ClipMem

/-! ## Lanes -/

/-- A lane's record. -/
def ClickGen.lane (g : ClickGen) (i : LaneNo) : Lane := tget g.lanes i

/-- The lanes with one record replaced. -/
def ClickGen.setLane (g : ClickGen) (i : LaneNo) (l : Lane) : ClickGen := { g with lanes := tput g.lanes i l }

/-- The roles of a sound set, by their place in an item 0x030A (R45, TABLE 12-6). -/
def roleDownbeat : Nat := 0
def roleBeat : Nat := 1
def roleSubdivision : Nat := 2

/-- The role of the count word for a beat in bar, 1 to 4 (R47). -/
def roleWord (beat : Nat) : Option Nat := if 1 ≤ beat ∧ beat ≤ 4 then some (beat + 2) else none

/-- The clip a role of a sound set names, where its directory entry is present; none where the role is silent (R45). -/
def ClickGen.clipOf (g : ClickGen) (set role : Nat) : Option Clip :=
  match idx? 28 (set * 7 + role) with
  | some i =>
    match tget g.roles i with
    | some c => tget g.directory c
    | none => none
  | none => none

/-- An entry joins a start list, which is ordered by start sample, earliest first (3.4). -/
def insertStart (e : StartEntry) : List StartEntry → List StartEntry
  | [] => [e]
  | f :: l => if e.sample < f.sample then e :: f :: l else f :: insertStart e l

/-- An entry for a role at a Q16 position, less the lane's lead, where the role is not silent (R46). -/
def ClickGen.entryFor (g : ClickGen) (l : Lane) (voice : VoiceKind) (role position beat : Nat) : List StartEntry :=
  match g.clipOf l.soundSet role with
  | some c => [{ sample := q16Sample position - l.lead, voice, clipStart := c.start, clipLength := c.length, beat }]
  | none => []

/-- The role the beat itself takes on a lane (R46). -/
def beatRole (a : Accent) (downbeat : Bool) : Option Nat :=
  match a with
  | .downbeat => some (if downbeat then roleDownbeat else roleBeat)
  | .flat => some roleBeat
  | .none => none

/-- The entries of the beat itself on a lane (R46). -/
def ClickGen.beatEntries (g : ClickGen) (l : Lane) (b : Beat) : List StartEntry :=
  match beatRole l.accent b.downbeat with
  | some role => g.entryFor l .click role b.onset b.onset
  | none => []

/-- The entries of the subdivisions of a beat on a lane, k from 1 to n − 1 (R46). -/
def ClickGen.subdivisionEntries (g : ClickGen) (l : Lane) (b : Beat) : List StartEntry :=
  (List.range (l.subdivision - 1)).flatMap fun i =>
    g.entryFor l .click roleSubdivision (subdivisionAt b.onset b.period (i + 1) l.subdivision) b.onset

/-- The count entry of a count-in beat on a lane (R47). -/
def ClickGen.countEntries (g : ClickGen) (l : Lane) (b : Beat) : List StartEntry :=
  if b.countIn && l.countVoice then
    match roleWord b.beat with
    | some role => g.entryFor l .count role b.onset b.onset
    | none => []
  else []

/-- Every entry that a committed beat adds to a lane's start list (R46, R47). -/
def ClickGen.newEntries (g : ClickGen) (l : Lane) (b : Beat) : List StartEntry :=
  if l.enabled then g.beatEntries l b ++ g.subdivisionEntries l b ++ g.countEntries l b else []

/-- The starts of a committed beat are scheduled on every lane (R46, R47). -/
def ClickGen.schedule (g : ClickGen) (b : Beat) : ClickGen :=
  let add (l : Lane) : Lane := { l with starts := (g.newEntries l b).foldl (fun acc e => insertStart e acc) l.starts }
  { g with lanes := tmap add g.lanes }

/-- The entries that belong to a discarded beat leave every start list (R48). -/
def ClickGen.dropBeat (g : ClickGen) (beat : Nat) : ClickGen :=
  { g with lanes := tmap (fun l => { l with starts := l.starts.filter fun e => e.beat != beat }) g.lanes }

/-- The COUNT entries leave every start list (R48). -/
def ClickGen.dropCounts (g : ClickGen) : ClickGen :=
  { g with lanes := tmap (fun l => { l with starts := l.starts.filter fun e => e.voice != .count }) g.lanes }

/-- Every start list is emptied (R48). -/
def ClickGen.emptyStarts (g : ClickGen) : ClickGen :=
  { g with lanes := tmap (fun l => { l with starts := [] }) g.lanes }

/-- Both voices of every lane are silenced and every start list is emptied (R51). -/
def ClickGen.silence (g : ClickGen) : ClickGen :=
  { g with lanes := tmap (fun l => { l with starts := [], clickVoice := none, countVoicePlaying := none }) g.lanes }

/-- A lane's voice. -/
def Lane.voice (l : Lane) : VoiceKind → Option Playing
  | .click => l.clickVoice
  | .count => l.countVoicePlaying

/-- A start is made: the entry's voice is PLAYING its clip from position 0 (R49). -/
def Lane.begin (l : Lane) (e : StartEntry) : Lane :=
  let p : Playing := { start := e.clipStart, length := e.clipLength, pos := 0 }
  match e.voice with
  | .click => { l with clickVoice := some p }
  | .count => { l with countVoicePlaying := some p }

/-! ## Gain and mixing -/

/-- The gain at a level (R52). -/
def gainOf (level : Nat) : Nat := if level = 64 then 0 else Config.gainTable.getD level 0

/-- A voice's output at a sample (R53): the clip sample times the gain, shifted right by 15 with the sign kept. -/
def voiceOut (m : ClipMemory) (gain : Nat) : Option Playing → Int
  | some p => (ClipMem.read m (p.start + p.pos)).toInt * gain / 32768
  | none => 0

/-- A voice after a sample: its position advances, and it becomes SILENT at the end of its clip (R49). -/
def voiceStep : Option Playing → Option Playing
  | some p => if p.pos + 1 < p.length then some { p with pos := p.pos + 1 } else none
  | none => none

/-- The greatest and the least 24-bit sample. -/
def sampleMax : Int := 8388607
def sampleMin : Int := -8388608

/-- A sum saturated to the 24-bit range (R54). -/
def saturate (x : Int) : Int := max sampleMin (min sampleMax x)

/-- The sum of a lane's two voices at the output sample in progress (R54). -/
def Lane.sum (m : ClipMemory) (l : Lane) : Int :=
  voiceOut m (gainOf l.gainLevel) l.clickVoice + voiceOut m (gainOf l.gainLevel) l.countVoicePlaying

/-- The lane output (R54). -/
def Lane.output (m : ClipMemory) (l : Lane) : Sample := BitVec.ofInt 24 (saturate (l.sum m))

/-- A lane after a sample: the clip counter counts a saturation, the voices advance, and the level governs the gain of
the next sample (R42, R49, R52, R54). -/
def Lane.afterSample (m : ClipMemory) (l : Lane) : Lane :=
  { l with
    clipCount := if saturate (l.sum m) = l.sum m then l.clipCount else countUp l.clipCount
    clickVoice := voiceStep l.clickVoice
    countVoicePlaying := voiceStep l.countVoicePlaying
    gainLevel := l.level }

/-- The sample in progress is mixed: its TDM frame is formed, which is sent during the next sample (R53 to R55). -/
def ClickGen.mix (g : ClickGen) : ClickGen :=
  { g with tdm := tmap (Lane.output g.memory) g.lanes, lanes := tmap (Lane.afterSample g.memory) g.lanes }

/-! ## Clips -/

/-- The addresses of two clips share none (R44). -/
def Clip.apart (a b : Clip) : Bool := a.start + a.length ≤ b.start || b.start + b.length ≤ a.start

/-- Does a span overlap the span of any present entry other than `n`? (R44) -/
def ClickGen.overlaps (g : ClickGen) (n : Fin 16) (c : Clip) : Bool :=
  allLanes.any fun i =>
    match tget g.directory i with
    | some d => i != n && !c.apart d
    | none => false

end Sys2Proof.Machine
end

