-- ==== Sys2Proof/Machine/PictureOps.lean ====
section
/-!
DEFINITION. The Picture Controller's operations (chapter 7): cameras and their rings, mark queues, the writer's choice of
a slot, the monitors' visit at a tick, and freeze.
-/

namespace Sys2Proof.Machine

/-- A camera's record. -/
def Picture.cam (p : Picture) : Camera → CameraRec
  | .a => p.camA
  | .b => p.camB

/-- The pictures with one camera's record replaced. -/
def Picture.setCam (p : Picture) (k : Camera) (c : CameraRec) : Picture :=
  match k with
  | .a => { p with camA := c }
  | .b => { p with camB := c }

/-- The indices of a ring, in order. -/
def ringIndices : List (Fin 6) := [0, 1, 2, 3, 4, 5]

/-- A ring's slot. -/
def CameraRec.slot (c : CameraRec) (i : Fin 6) : FrameSlot := tget c.ring i

/-- A ring with one slot replaced. -/
def CameraRec.setSlot (c : CameraRec) (i : Fin 6) (f : FrameSlot) : CameraRec := { c with ring := tput c.ring i f }

/-- The slot being written, if any (R121). -/
def CameraRec.filling (c : CameraRec) : Option (Fin 6) := ringIndices.find? fun i => (c.slot i).state == .filling

/-- The newest READY slot (R121). -/
def CameraRec.newest (c : CameraRec) : Option (Fin 6) := c.ready.getLast?

/-- A FILLING slot of the ring becomes FREE. -/
def CameraRec.freeFilling (c : CameraRec) : CameraRec :=
  match c.filling with
  | some i => c.setSlot i { c.slot i with state := .free }
  | none => c

/-- The frame still open at a frame start is closed (R123). -/
def CameraRec.closeOpen (c : CameraRec) : CameraRec :=
  match c.filling with
  | some _ => { c.freeFilling with aborts := countUp c.aborts, goodRun := 0 }
  | none => if c.frameOpen then { c with goodRun := 0 } else c

/-- The slot a frame start chooses, if any: the lowest FREE slot, or else the oldest READY slot that no monitor holds
and that is not the newest (R123). -/
def CameraRec.candidate (c : CameraRec) : Option (Fin 6) :=
  match ringIndices.find? fun i => (c.slot i).state == .free with
  | some i => some i
  | none => c.ready.find? fun i => some i != c.newest && (c.slot i).readers == 0

/-- A frame start at sample `now` from an enabled camera (R123). -/
def CameraRec.start (now : Nat) (c : CameraRec) : CameraRec :=
  let c := { c.closeOpen with frameOpen := true, lastStart := now }
  match c.candidate with
  | some i =>
    { c.setSlot i { c.slot i with state := .filling, captured := now, mark := .none } with
      ready := c.ready.filter fun j => j != i }
  | none => { c with drops := countUp c.drops }

/-- The mark that the entries removed from a queue give a slot (R127). -/
def markOf (removed : List MarkEntry) : MarkKind :=
  if removed = [] then .none else if removed.any (·.downbeat) then .downbeat else .beat

/-- A complete frame counts toward the recovery of a LOST camera (R129). -/
def CameraRec.countGood (c : CameraRec) : CameraRec :=
  match c.state with
  | .lost => if 2 ≤ c.goodRun + 1 then { c with state := .ok, goodRun := 0 } else { c with goodRun := c.goodRun + 1 }
  | _ => c

/-- The slot being written receives its complete frame (R124, R127). -/
def CameraRec.store (c : CameraRec) : CameraRec :=
  match c.filling with
  | some i =>
    let counter := (c.counter + 1) % 65536
    let f := c.slot i
    let removed := c.marks.filter fun m => m.onset ≤ f.captured
    { c.setSlot i { f with state := .ready, sequence := counter, mark := markOf removed } with
      counter := counter
      ready := c.ready ++ [i]
      marks := c.marks.filter fun m => !(m.onset ≤ f.captured) }
  | none => c

/-- A frame end from an enabled camera whose frame open flag is set (R124). -/
def CameraRec.finish (c : CameraRec) : CameraRec := { c with frameOpen := false }.store.countGood

/-- A frame abort from an enabled camera whose frame open flag is set (R125). -/
def CameraRec.abort (c : CameraRec) : CameraRec :=
  { c with frameOpen := false, goodRun := 0, aborts := countUp c.aborts }.freeFilling

/-- The integer part of three frame periods (R128). -/
def expiryInterval (periodQ16 : Nat) : Nat := q16Sample (3 * periodQ16)

/-- An expiry of an OK camera (R128). -/
def CameraRec.expire (c : CameraRec) : CameraRec :=
  let c := match c.filling with
    | some _ => { c.freeFilling with aborts := countUp c.aborts }
    | none => c
  { c with state := .lost, goodRun := 0, frameOpen := false }

/-- The frame period of a video rate, in Q16 (TABLE 1-2). -/
def VideoRate.period : VideoRate → Nat
  | .fps50 => 62914560
  | .fps5994 => 52480819
  | .fps60 => 52428800

/-- A camera is enabled (R122). -/
def CameraRec.enable (c : CameraRec) : CameraRec :=
  { c with enabled := true, state := .lost, goodRun := 0, frameOpen := false }

/-- A READY slot that no monitor holds becomes FREE and leaves the ready list (R122, R134). -/
def CameraRec.freeUnheld (c : CameraRec) (i : Fin 6) : CameraRec :=
  if (c.slot i).state = .ready ∧ (c.slot i).readers = 0 then
    { c.setSlot i { c.slot i with state := .free } with ready := c.ready.filter fun j => j != i }
  else c

/-- A camera is disabled (R122). -/
def CameraRec.disable (c : CameraRec) : CameraRec :=
  let c := { c.freeFilling with enabled := false, state := .off, frameOpen := false, marks := [] }
  ringIndices.foldl CameraRec.freeUnheld c

/-- An entry joins an enabled camera's mark queue at a commit; a full queue loses its oldest entry first (R126). -/
def CameraRec.addMark (b : Beat) (c : CameraRec) : CameraRec :=
  if c.enabled then
    let q := if Config.markCapacity ≤ c.marks.length then c.marks.drop 1 else c.marks
    { c with marks := q ++ [{ beat := b.onset, onset := q16Sample b.onset, downbeat := b.downbeat }] }
  else c

/-- A discarded beat's entry leaves the mark queue (R126). -/
def CameraRec.dropMark (beat : Nat) (c : CameraRec) : CameraRec :=
  { c with marks := c.marks.filter fun m => m.beat != beat }

/-- A commit's entry joins every mark queue (R126). -/
def Picture.addMarks (b : Beat) (p : Picture) : Picture := { p with camA := p.camA.addMark b, camB := p.camB.addMark b }

/-- A discarded beat's entry leaves every mark queue (R126). -/
def Picture.dropMarks (beat : Nat) (p : Picture) : Picture :=
  { p with camA := p.camA.dropMark beat, camB := p.camB.dropMark beat }

/-- Is at least one camera enabled and LOST? (R130) -/
def Picture.anyLost (p : Picture) : Bool :=
  (p.camA.enabled && p.camA.state == .lost) || (p.camB.enabled && p.camB.state == .lost)

/-! ## Monitors -/

/-- A monitor's record. -/
def Picture.monitor (p : Picture) (m : Fin 6) : Monitor := tget p.monitors m

/-- The pictures with one monitor's record replaced. -/
def Picture.setMonitor (p : Picture) (m : Fin 6) (r : Monitor) : Picture := { p with monitors := tput p.monitors m r }

/-- The camera of a monitor (7.6). -/
def Picture.cameraOf (p : Picture) (r : Monitor) : Option Camera :=
  match r.source with
  | .camA => some .a
  | .camB => some .b
  | .auto => some p.auto
  | .off => none

/-- A monitor releases the slot it holds, if any (R133, R134). -/
def Picture.releaseSlot (p : Picture) (m : Fin 6) : Picture :=
  match (p.monitor m).held with
  | none => p
  | some id =>
    let c := p.cam id.camera
    let c := c.setSlot id.index { c.slot id.index with readers := (c.slot id.index).readers - 1 }
    let c := if c.enabled then c else c.freeUnheld id.index
    (p.setCam id.camera c).setMonitor m { p.monitor m with held := none }

/-- A monitor holds a slot (R133). -/
def Picture.holdSlot (p : Picture) (m : Fin 6) (id : SlotId) : Picture :=
  let c := p.cam id.camera
  let c := c.setSlot id.index { c.slot id.index with readers := (c.slot id.index).readers + 1 }
  (p.setCam id.camera c).setMonitor m { p.monitor m with held := some id }

/-- The visit of a monitor that is not frozen, whose camera is `k` and which holds no slot of another ring (R133). -/
def Picture.visitCamera (p : Picture) (m : Fin 6) (k : Camera) : Picture :=
  match (p.cam k).state with
  | .off => p.releaseSlot m
  | .lost => p
  | .ok =>
    match (p.cam k).newest with
    | none => p
    | some i =>
      let id : SlotId := ⟨k, i⟩
      if (p.monitor m).held = some id then p else (p.releaseSlot m).holdSlot m id

/-- The visit of a monitor at a tick (R133). -/
def Picture.visit (p : Picture) (m : Fin 6) : Picture :=
  if (p.monitor m).frozen then p
  else
    match p.cameraOf (p.monitor m) with
    | none => p.releaseSlot m
    | some k =>
      match (p.monitor m).held with
      | some id => if id.camera = k then p.visitCamera m k else (p.releaseSlot m).visitCamera m k
      | none => p.visitCamera m k

/-- The visits of a tick (R133). -/
def Picture.visitAll (p : Picture) : Picture := allMonitors.foldl Picture.visit p

/-- The mark of the slot a monitor has come to hold at a tick, where its visit has made it hold another slot (R145). -/
def newMark (before after : Picture) (m : Fin 6) : MarkKind :=
  match (after.monitor m).held with
  | some id =>
    if (before.monitor m).held = some id then .none else ((after.cam id.camera).slot id.index).mark
  | none => .none

/-- Every monitor is frozen, or unfrozen (R135). -/
def Picture.freezeAll (b : Bool) (p : Picture) : Picture :=
  { p with monitors := tmap (fun r => { r with frozen := b }) p.monitors }

/-- Does any monitor's frozen field differ from `b`? -/
def Picture.anyFrozenNot (b : Bool) (p : Picture) : Bool := allMonitors.any fun m => (p.monitor m).frozen != b

/-- The monitors are frozen or unfrozen, with the CAMERA kind made pending where a frozen field changes (R135). -/
def setFrozen (b : Bool) (s : State) : State :=
  notifyIf (s.picture.anyFrozenNot b) .camera { s with picture := s.picture.freezeAll b }

end Sys2Proof.Machine
end

