-- ==== Sys2Proof/Machine/Chase.lean ====
section
/-!
DEFINITION. The cue list as an order of cues (R61), its pool (R62), and the chase of a cue (R71, R72).
-/

namespace Sys2Proof.Machine

/-- The settings of a slot. -/
def Tables.setting (t : Tables) (k : Slot) : SlotSettings := tget t.settings k

/-- The cue with a number. -/
def Tables.find (t : Tables) (n : Nat) : Option Cue := t.cues.find? fun c => c.number == n

/-- The first cue whose number is greater than `n` (R61, R68). -/
def Tables.after (t : Tables) (n : Nat) : Option Cue := t.cues.find? fun c => n < c.number

/-- The last cue whose number is less than `n` (R61). -/
def Tables.before (t : Tables) (n : Nat) : Option Cue := (t.cues.filter fun c => c.number < n).getLast?

/-- The change entries of a cue list in use. -/
def poolUsed (cues : List Cue) : Nat := (cues.map fun c => c.changes.length).sum

/-- The free count of the change pool (R62). -/
def Tables.freeCount (t : Tables) : Nat := Config.poolCapacity - poolUsed t.cues

/-- Where a chase is taken: at a cue, or at the position before the first cue (4.6). -/
inductive ChaseAt where
  | first
  | cue (number : Nat)
  deriving DecidableEq, Repr

/-- The cues a chase reads, in ascending order. -/
def Tables.upTo (t : Tables) : ChaseAt → List Cue
  | .first => []
  | .cue n => t.cues.filter fun c => c.number ≤ n

/-- The change entry of a cue for a slot. -/
def Cue.entry (c : Cue) (k : Slot) : Option ChangeEntry := c.changes.find? fun e => e.slot == k.val

/-- The patch chase for one slot: the pair and the number of the cue it comes from, absent for OPENING (R71). -/
def Tables.patchChase (t : Tables) (a : ChaseAt) (k : Slot) : PatchPair × Option Nat :=
  match ((t.upTo a).filterMap fun c => (c.entry k).map fun e => (e.pair, c.number)).getLast? with
  | some (pair, n) => (pair, some n)
  | none => ((t.setting k).opening, none)

/-- The tempo spec a tempo chase gives (R72). -/
def chasedTempo : TempoSpec → Option TempoSpec
  | .keep => none
  | .fixed v => some (.fixed v)
  | .live => some .live
  | .ramp v _ => some (.fixed v)

/-- The tempo chase (R72). -/
def Tables.tempoChase (t : Tables) (a : ChaseAt) : TempoSpec :=
  (((t.upTo a).filterMap fun c => chasedTempo c.tempo).getLast?).getD (.fixed Config.tempoDefault)

/-- The meter chase (R72). -/
def Tables.meterChase (t : Tables) (a : ChaseAt) : Nat := (((t.upTo a).filterMap (·.meter)).getLast?).getD 4

/-- The bar chase (R72). -/
def Tables.barChase (t : Tables) (a : ChaseAt) : Nat := (((t.upTo a).filterMap (·.scoreBar)).getLast?).getD 1

/-- The single patch a pair selects on a slot, by the slot's cover flag (R69, R103). -/
def Tables.resolve (t : Tables) (k : Slot) (p : PatchPair) : Patch :=
  if (t.setting k).cover then p.cover.getD p.main else p.main

/-- The chase of a CHASE READ reply (TABLE 12-4). -/
def Tables.chaseBytes (t : Tables) (a : ChaseAt) : List Byte :=
  (allSlots.flatMap fun k =>
    let (pair, origin) := t.patchChase a k
    patchBytes pair.main ++ optPatchBytes pair.cover ++ beBytes 4 (origin.getD 0)) ++
  (match t.tempoChase a with
    | .fixed v => 0 :: beBytes 2 v
    | _ => 1 :: beBytes 2 0) ++
  beBytes 1 (t.meterChase a) ++ beBytes 2 (t.barChase a)

end Sys2Proof.Machine
end

