-- ==== Sys2Proof/Machine/Profiles.lean ====
section
/-!
DEFINITION. Stop sources and profiles (chapter 9): kinds, classes and levels, the stop level, the effective profile of a
stack, and the setting of flags, of the hold-off count and of the stop state's neighbours.
-/

namespace Sys2Proof.Machine

/-- Is a source raised by a command? (TABLE 9-1) -/
def StopSource.isCommand : StopSource → Bool
  | .smStop | .mdStop | .fohStop => true
  | _ => false

/-- Is a source hard? (TABLE 9-1) -/
def StopSource.isHard : StopSource → Bool
  | .relay | .smStop | .mdStop => true
  | _ => false

/-- A source's level, profile and raised flag (R152). -/
def Stops.level (x : Stops) (i : StopSource) : Nat := tget x.levels i.index
def Stops.profile (x : Stops) (i : StopSource) : Profile := tget x.profiles i.index
def Stops.isRaised (x : Stops) (i : StopSource) : Bool := tget x.raised i.index

/-- The stop level L (R156). -/
def Stops.stopLevel (x : Stops) : Nat :=
  match x.stack with
  | [] => 0
  | r :: _ => r.level

/-- Has a source a record on the stop stack? -/
def Stops.onStack (x : Stops) (i : StopSource) : Bool := x.stack.any fun r => r.source == i

/-- The strength of each component value, the weakest 0 (TABLE 9-2). -/
def ClickProfile.rank : ClickProfile → Nat
  | .cut => 2
  | .bar => 1
  | .continued => 0

def RigsProfile.rank : RigsProfile → Nat
  | .safe => 1
  | .none => 0

def VideoProfile.rank : VideoProfile → Nat
  | .freeze => 2
  | .banner => 1
  | .none => 0

/-- The stronger of two values of a component. -/
def ClickProfile.strongest (a b : ClickProfile) : ClickProfile := if a.rank < b.rank then b else a
def RigsProfile.strongest (a b : RigsProfile) : RigsProfile := if a.rank < b.rank then b else a
def VideoProfile.strongest (a b : VideoProfile) : VideoProfile := if a.rank < b.rank then b else a

/-- The profile of an empty stack, CONTINUE / NONE / NONE (R162). -/
def Profile.none : Profile := { click := .continued, rigs := .none, video := .none }

/-- The strongest value of each component of two profiles. -/
def Profile.strongest (a b : Profile) : Profile :=
  { click := a.click.strongest b.click, rigs := a.rigs.strongest b.rigs, video := a.video.strongest b.video }

/-- The effective profile of the stop stack (R162). -/
def Stops.effective (x : Stops) : Profile :=
  x.stack.foldr (fun r acc => (x.profile r.source).strongest acc) Profile.none

/-- Is a profile advisory? (R162) -/
def Profile.advisory (p : Profile) : Bool := p.click == .continued && p.rigs == .none

/-- A stop banner is in force (R147). -/
def Stops.bannerInForce (x : Stops) : Bool :=
  match x.stack with
  | [] => x.state == .awaitResume || x.state == .restoring || x.state == .resumeArmed
  | _ :: _ => x.effective.video != .none

/-- A raised flag is set or cleared, with the STOP kind made pending where it changes (R152). -/
def setRaised (i : StopSource) (b : Bool) (s : State) : State :=
  notifyIf (s.stops.isRaised i != b) .stop { s with stops := { s.stops with raised := tput s.stops.raised i.index b } }

/-- The command sources are lowered (R79, R170, R182). -/
def lowerCommands (s : State) : State := setRaised .fohStop false (setRaised .mdStop false (setRaised .smStop false s))

/-- The hold-off count is set, with the STOP kind made pending where it leaves 0 or reaches it (R166). -/
def setHoldOff (n : Nat) (s : State) : State :=
  notifyIf ((s.stops.holdOff == 0) != (n == 0)) .stop { s with stops := { s.stops with holdOff := n } }

/-- The session is SHOW. -/
def State.inShow (s : State) : Bool := s.tables.session == .inShow

/-- The stop state is CLEAR. -/
def State.isClear (s : State) : Bool := s.stops.state == .clear

end Sys2Proof.Machine
end

