-- ==== Sys2Proof/Machine/RigOps.lean ====
section
/-!
DEFINITION. The Rig Controller's operations (chapter 6): records, the placing and sending of changes, what a stop state's
entry does to pending changes, the settled test, bindings and losses.
-/

namespace Sys2Proof.Machine

/-- A rig record and a port record. -/
def State.rig (s : State) (k : Slot) : Rig := tget s.rigs.slots k
def State.rigPort (s : State) (p : RigPort) : RigPortRec := tget s.rigs.ports p

/-- Does a rig record change in what makes the RIG kind pending: state, bound port, applied patch or fault reason? (R102) -/
def Rig.differs (a b : Rig) : Bool :=
  a.state != b.state || a.boundPort != b.boundPort || a.applied != b.applied || a.fault != b.fault

/-- Does a port record change in what makes the RIG kind pending: link, bound slot or port fault? (R96) -/
def RigPortRec.differs (a b : RigPortRec) : Bool :=
  a.linkUp != b.linkUp || a.boundSlot != b.boundSlot || a.duplicate != b.duplicate

/-- A rig record is replaced (R102). -/
def setRig (k : Slot) (r : Rig) (s : State) : State :=
  notifyIf ((s.rig k).differs r) .rig { s with rigs := { s.rigs with slots := tput s.rigs.slots k r } }

/-- A port record is replaced (R96). -/
def setRigPort (p : RigPort) (r : RigPortRec) (s : State) : State :=
  notifyIf ((s.rigPort p).differs r) .rig { s with rigs := { s.rigs with ports := tput s.rigs.ports p r } }

/-! ## Sending and placing -/

/-- A change is sent to a slot (R107): the port's sequence bit toggles, the SELECT goes out, and the slot is CHANGING. -/
def sendChange (k : Slot) (patch : Patch) (kind : ChangeKind) (s : State) : State :=
  match (s.rig k).boundPort with
  | none => s
  | some p =>
    let bit := !(s.rigPort p).bit
    let s := setRigPort p { s.rigPort p with bit, lastSelect := some (patch, bit) } s
    setRig k { s.rig k with
      inFlight := some { patch, kind, bit, sent := s.now, resent := false }, pendingChange := none, state := .changing } s

/-- A change handed to the Rig Controller, its patch resolved (R103). -/
structure Handed where
  patch : Patch
  kind : ChangeKind
  sustainSafe : Bool
  forceLimit : Nat
  deriving DecidableEq, Repr

/-- When a handed change is due if it becomes pending (R104, R105). -/
def Handed.due (h : Handed) (sustain : Sustain) : Due :=
  if h.sustainSafe && sustain == .down then .atRelease h.forceLimit else .now

/-- The pending change is removed and counted as superseded (R119). -/
def Rig.supersede (r : Rig) : Rig :=
  match r.pendingChange with
  | some _ => { r with pendingChange := none, superseded := countUp r.superseded }
  | none => r

/-- A handed change becomes the pending change. -/
def Rig.hold (r : Rig) (h : Handed) : Rig :=
  { r with pendingChange := some { patch := h.patch, kind := h.kind, due := h.due r.sustain } }

/-- The rank of a change kind in the contest for the pending place: SAFE above RESTORE above CUE (6.4). -/
def ChangeKind.rank : ChangeKind → Nat
  | .safe => 2
  | .restore => 1
  | .cue => 0

/-- The contest for the pending place of a CHANGING slot (R105): a change of lower rank than the pending one is discarded
and counted; any other takes the place. -/
def Rig.contest (r : Rig) (h : Handed) : Rig :=
  match r.pendingChange with
  | some c =>
    if h.kind.rank < c.kind.rank then { r with superseded := countUp r.superseded } else r.supersede.hold h
  | none => r.hold h

/-- Is a change placed on a READY slot sent at once? (R104) -/
def sendsNow (h : Handed) (r : Rig) (s : State) : Bool :=
  match h.kind with
  | .cue => s.isClear && h.due r.sustain == .now
  | _ => true

/-- A change is placed at its issue (R104, R105). -/
def placeChange (k : Slot) (h : Handed) (s : State) : State :=
  let r := s.rig k
  match r.state with
  | .absent | .fault => s
  | .changing => setRig k (r.contest h) s
  | .ready =>
    let s := setRig k r.supersede s
    if sendsNow h r s then sendChange k h.patch h.kind s else setRig k (r.supersede.hold h) s

/-- A SAFE change for a slot (R103). -/
def safeFor (k : Slot) (s : State) : Handed :=
  { patch := (s.tables.setting k).safe, kind := .safe, sustainSafe := false, forceLimit := 0 }

/-- A RESTORE change carrying a pair, for a slot (R103). -/
def restoreFor (k : Slot) (pair : PatchPair) (s : State) : Handed :=
  { patch := s.tables.resolve k pair, kind := .restore, sustainSafe := false, forceLimit := 0 }

/-- The CUE change of a change entry, for a slot (R90, R103). -/
def cueFor (k : Slot) (e : ChangeEntry) (s : State) : Handed :=
  { patch := s.tables.resolve k e.pair, kind := .cue, sustainSafe := e.transition == .sustainSafe,
    forceLimit := e.forceLimit }

/-- Something is done for each slot that has a bound rig, in slot order. -/
def forBound (f : Slot → State → State) (s : State) : State :=
  allSlots.foldl (fun s k => if (s.rig k).boundPort.isSome then f k s else s) s

/-- One SAFE change is handed for each slot that has a bound rig (R164). -/
def handSafes (s : State) : State := forBound (fun k s => placeChange k (safeFor k s) s) s

/-- One RESTORE of a chase is handed for each slot that has a bound rig (R77, R90). -/
def handChase (a : ChaseAt) (s : State) : State :=
  forBound (fun k s => placeChange k (restoreFor k (s.tables.patchChase a k).1 s) s) s

/-! ## The stop state and pending changes -/

/-- A pending SAFE change is removed as superseded (R115). -/
def Rig.dropSafe (r : Rig) : Rig :=
  match r.pendingChange with
  | some c => if c.kind = .safe then r.supersede else r
  | none => r

/-- Every pending SAFE change is removed as superseded (R115). -/
def dropSafes (s : State) : State := { s with rigs := { s.rigs with slots := tmap Rig.dropSafe s.rigs.slots } }

/-- The pending CUE of a slot is sent if it is due NOW, nothing is in flight and the stop state is CLEAR (R108, R111,
R112, R114). -/
def sendIfDue (k : Slot) (s : State) : State :=
  let r := s.rig k
  match r.state, r.pendingChange with
  | .ready, some ⟨patch, .cue, .now⟩ => if s.isClear then sendChange k patch .cue s else s
  | _, _ => s

/-- The held CUE changes of READY slots are sent on the return to CLEAR (R114). -/
def releaseHeld (s : State) : State := allSlots.foldl (fun s k => sendIfDue k s) s

/-- Does entering a stop state remove the pending SAFE changes? (R115) -/
def StopState.dropsSafes : StopState → Bool
  | .awaitResume | .restoring | .clear => true
  | _ => false

/-- The stop state changes, with what its entry does to the pending changes (R114, R115, R157). -/
def setStopState (x : StopState) (s : State) : State :=
  let s := notifyIf (s.stops.state != x) .stop { s with stops := { s.stops with state := x } }
  let s := if x.dropsSafes then dropSafes s else s
  if x = .clear then releaseHeld s else s

/-! ## Settled -/

/-- A slot is settled at a patch (R116). -/
def Rig.settledAt (r : Rig) (x : Patch) : Bool :=
  r.boundPort.isSome && r.state != .fault && r.inFlight == none && r.pendingChange == none && r.applied == some x

/-- Every slot that has a bound rig and is not in FAULT is settled at its safe patch (R173). -/
def allSafe (s : State) : Bool :=
  allSlots.all fun k =>
    let r := s.rig k
    r.boundPort.isNone || r.state == .fault || r.settledAt (s.tables.setting k).safe

/-- The RIG_FAULT test (R118). -/
def rigFaultNow (s : State) : Bool :=
  s.inShow && allSlots.any fun k =>
    let r := s.rig k
    r.state == .fault && (r.boundPort.isSome || (s.tables.setting k).required)

/-! ## Bindings and losses -/

/-- A slot whose binding has ended without a fault (R100). -/
def Rig.unbound (r : Rig) : Rig :=
  { r with boundPort := none, state := .absent, applied := none, inFlight := none, pendingChange := none, fault := none }

/-- A slot that is lost (R117). -/
def Rig.lost (r : Rig) : Rig :=
  { r with
    boundPort := none, state := .fault, applied := none, inFlight := none, pendingChange := none, fault := some .lost }

/-- A slot that has just been bound to a port (R101). -/
def Rig.boundTo (r : Rig) (p : RigPort) (now : Nat) : Rig :=
  { r with
    boundPort := some p, state := .ready, applied := none, sustain := .up, held := 0, inFlight := none,
    pendingChange := none, fault := none, presentAt := now }

/-- The binding of a slot ends without a fault (R100). -/
def unbindSlot (k : Slot) (s : State) : State :=
  let s := match (s.rig k).boundPort with
    | some p => notify .rig (setRigPort p { s.rigPort p with boundSlot := none } s)
    | none => s
  setRig k (s.rig k).unbound s

/-- Any binding a port holds ends (R98, R99). -/
def unbindPort (p : RigPort) (s : State) : State :=
  match (s.rigPort p).boundSlot with
  | some k => unbindSlot k (setRigPort p { s.rigPort p with boundSlot := none } s)
  | none => s

/-- The slot a port is bound to is lost (R117). At a presence expiry the port keeps its link and its identity (log 46). -/
def loseSlot (k : Slot) (s : State) : State :=
  let s := match (s.rig k).boundPort with
    | some p => setRigPort p { s.rigPort p with boundSlot := none } s
    | none => s
  setRig k (s.rig k).lost s

/-- The records of a new binding of a port to a slot (R101). -/
def bindRecords (p : RigPort) (k : Slot) (s : State) : State :=
  let s := setRigPort p { s.rigPort p with boundSlot := some k } s
  notify .rig (setRig k ((s.rig k).boundTo p s.now) s)

/-- The chase of the current cue, or of the position before the first cue (R101). -/
def currentChase (s : State) : ChaseAt :=
  match s.pointer.current with
  | some n => .cue n
  | none => .first

/-- The chase of the resume target (R178). -/
def targetChase (s : State) : ChaseAt :=
  match s.resume.target with
  | some t => .cue t.cue
  | none => .first

/-- The first change of a newly bound slot, if any (R101). -/
def firstChange (k : Slot) (s : State) : Option Handed :=
  if s.inShow then
    match s.stops.state with
    | .halted => some (safeFor k s)
    | .stopping | .stopped =>
      if s.stops.effective.rigs = .safe then some (safeFor k s)
      else some (restoreFor k (s.tables.patchChase (currentChase s) k).1 s)
    | .restoring | .resumeArmed => some (restoreFor k (s.tables.patchChase (targetChase s) k).1 s)
    | .clear | .awaitResume => some (restoreFor k (s.tables.patchChase (currentChase s) k).1 s)
  else none

/-- A port is bound to a slot and the first change is placed; in a state of the restore the slot joins the restore set
(R101, R179). -/
def bindSlot (p : RigPort) (k : Slot) (s : State) : State :=
  let s := bindRecords p k s
  match firstChange k s with
  | none => s
  | some h =>
    let s := placeChange k h s
    if s.stops.state = .restoring ∨ s.stops.state = .resumeArmed then
      { s with resume := { s.resume with
          restoreSet := (s.resume.restoreSet.filter fun m => m.1 != k) ++ [(k, h.patch)] } }
    else s

/-- The presence timer of the slot bound to a port restarts (R117). -/
def rigPresent (p : RigPort) (s : State) : State :=
  match (s.rigPort p).boundSlot with
  | some k => setRig k { s.rig k with presentAt := s.now } s
  | none => s

/-- A valid message has been taken on a port: its link is UP, its receiver hunts again, and its slot's presence timer
restarts (R96, R117, R205). -/
def rigMessage (p : RigPort) (s : State) : State :=
  rigPresent p (setRigPort p { s.rigPort p with linkUp := true, rx := [] } s)

/-- The visit of a slot at a bar-start commit (R112). -/
def forceVisit (s : State) (k : Slot) : State :=
  let r := s.rig k
  match r.pendingChange with
  | some ⟨patch, .cue, .atRelease 0⟩ => sendIfDue k (setRig k { r with pendingChange := some ⟨patch, .cue, .now⟩ } s)
  | some ⟨patch, .cue, .atRelease (n + 1)⟩ => setRig k { r with pendingChange := some ⟨patch, .cue, .atRelease n⟩ } s
  | _ => s

/-- The visits of a bar-start commit (R112). -/
def forceVisits (s : State) : State := allSlots.foldl forceVisit s

end Sys2Proof.Machine
end

