-- ==== Sys2Proof/Machine/BeatOps.lean ====
section
/-!
DEFINITION. The Beat Scheduler's operations (chapter 2) with what the other blocks do at a discard, a CUT, an entry to
IDLE and the announcement of a beat: click states, bar starts, vamps, the fixing of a beat, flash targets and banners.
-/

namespace Sys2Proof.Machine

/-! ## Overlay state at beats -/

/-- The lead of a monitor's paired lane, 0 with no lane paired (R143). -/
def pairedLead (g : ClickGen) (m : Monitor) : Nat :=
  match m.pairedLane with
  | some l => (g.lane l).lead
  | none => 0

/-- A commit sets the flash target of each monitor in CLICK mode (R143). -/
def setTargets (b : Beat) (s : State) : State :=
  let f (m : Fin 6) (r : FlashRec) : FlashRec :=
    let mon := s.picture.monitor m
    match mon.flashMode with
    | .click =>
      { r with target := some { sample := q16Sample b.onset - pairedLead s.clicks mon, downbeat := b.downbeat,
                                beat := b.onset } }
    | _ => r
  { s with overlay := { s.overlay with flashes := tmapIdx f s.overlay.flashes } }

/-- A flash target set for a discarded beat is removed (R143). -/
def FlashRec.dropTarget (beat : Nat) (r : FlashRec) : FlashRec :=
  match r.target with
  | some t => if t.beat = beat then { r with target := none } else r
  | none => r

/-- The cue banner at a bar-start commit (R146); the commit at the sample of the banner's own take is not counted,
and the first count-in commit of a resume GO is (log 54). -/
def countBanner (now : Nat) : Option CueBanner → Option CueBanner
  | some b => if b.takenAt = now then some b else if b.bars ≤ 1 then none else some { b with bars := b.bars - 1 }
  | none => none

/-! ## Discards, IDLE and CUT -/

/-- A committed beat is discarded: its starts, its marks and its flash targets go with it (R21, R48, R126, R143). -/
def discardBeat (b : Beat) (s : State) : State :=
  { s with
    clicks := s.clicks.dropBeat b.onset
    picture := s.picture.dropMarks b.onset
    overlay := { s.overlay with flashes := tmap (FlashRec.dropTarget b.onset) s.overlay.flashes } }

/-- A beat record that may be absent is discarded. -/
def discardOpt (b : Option Beat) (s : State) : State :=
  match b with
  | some b => discardBeat b s
  | none => s

/-- The click state changes, with the CUE kind made pending where it does (2.3); on leaving COUNT_IN for FINISHING or IDLE
the COUNT entries leave the start lists (R48). -/
def setClick (c : ClickState) (s : State) : State :=
  let drop := s.beats.click == .countIn && (c == .finishing || c == .idle)
  let s := notifyIf (s.beats.click != c) .cue { s with beats := { s.beats with click := c } }
  if drop then { s with clicks := s.clicks.dropCounts } else s

/-- The vamp stack and the pending push list are emptied (R38). -/
def emptyVamps (s : State) : State :=
  notifyIf (s.beats.vamps != []) .cue { s with beats := { s.beats with vamps := [], pushes := [] } }

/-- The count-in remaining becomes 0, as SHOW RESET and END SHOW leave it (R40). -/
def clearCountIn (s : State) : State := { s with beats := { s.beats with countInLeft := 0 } }

/-- The click enters IDLE (R20, R38, R48, R166): no beat record stands, the vamps and the start lists are emptied, and the
hold-off count becomes 0. The sampling that the entry makes is made by those who call this. -/
def enterIdle (s : State) : State :=
  let s := setClick .idle s
  let s := { s with
    beats := { s.beats with current := none, next := none, nextOnset := none, firstBarDue := false,
                            lastBarToBegin := false }
    clicks := s.clicks.emptyStarts }
  setHoldOff 0 (emptyVamps s)

/-- The armed cue is made absent without being taken (R84). -/
def clearArmed (s : State) : State :=
  notifyIf s.pointer.armed.isSome .cue { s with pointer := { s.pointer with armed := none } }

/-- The flashes are cut: no target, nothing shown (R144). -/
def cutFlashes (s : State) : State :=
  { s with overlay := { s.overlay with flashes := tmap (fun _ => FlashRec.reset) s.overlay.flashes } }

/-- What a click CUT does to the beats, when the click is running (R28). -/
def cutBeats (s : State) : State :=
  match s.beats.click with
  | .idle => s
  | _ =>
    let s := discardOpt s.beats.next (discardOpt s.beats.current s)
    enterIdle { s with beats := { s.beats with countInLeft := 0 } }

/-- A click CUT (R28, R51, R84, R144), without the sampling that an entry to IDLE makes. -/
def cutClick (s : State) : State :=
  let s := cutBeats s
  clearArmed (cutFlashes { s with clicks := s.clicks.silence })

/-! ## Bar starts -/

/-- The latest committed beat (R30). -/
def BeatState.latest (b : BeatState) : Option Beat := b.next <|> b.current

/-- Will the next commit be a bar start? (R30) -/
def BeatState.barStartNext (b : BeatState) : Bool :=
  match b.latest with
  | none => true
  | some p => b.meter ≤ p.beat

/-- The show clock has reached the commit of the next onset (R22). -/
def State.commitDue (s : State) : Bool :=
  match s.beats.nextOnset with
  | some o => q16Sample o ≤ s.now + Config.horizon
  | none => false

/-- A click action STOP or BAR (R26): a click in COUNT_IN or RUNNING enters FINISHING; the last bar is the one a bar-start
commit of this very sample begins, or else the bar in progress. -/
def finishClick (s : State) : State :=
  match s.beats.click with
  | .countIn | .running =>
    let s := setClick .finishing s
    { s with beats := { s.beats with lastBarToBegin := s.commitDue && s.beats.barStartNext } }
  | _ => s

/-! ## Vamps -/

/-- Does a vamp whose pass has ended loop? (R35) -/
def Vamp.loops (v : Vamp) : Bool :=
  match v.kind with
  | .opened => !v.released
  | .repeated => match v.passes with
    | some n => v.pass < n
    | none => false

/-- A vamp at the start of its next pass (R35). -/
def Vamp.again (v : Vamp) : Vamp := { v with pass := min (v.pass + 1) Config.passMax }

/-- Is a vamp's pass the last of a REPEAT? (R35) -/
def Vamp.onLastPass (v : Vamp) : Bool := v.kind == .repeated && v.passes == some v.pass

/-- The outcome of the vamp test: the stack after it; the bar it gives, unless the stack is empty; and whether a record
looped, and into its last pass. -/
structure VampOutcome where
  stack : List Vamp
  bar : Option Nat
  loop : Bool
  lastPass : Bool
  deriving DecidableEq, Repr

/-- The vamp test at a bar start of a music bar, against the bar just ended, innermost record first (R35, R36). -/
def vampTest (ended : Nat) : List Vamp → VampOutcome
  | [] => { stack := [], bar := none, loop := false, lastPass := false }
  | v :: outer =>
    if ended < v.last then { stack := v :: outer, bar := some (ended + 1), loop := false, lastPass := false }
    else if v.loops then
      { stack := v.again :: outer, bar := some v.start, loop := true, lastPass := v.again.onLastPass }
    else vampTest ended outer

/-- The record a push makes at a bar (R34, TABLE 2-3). -/
def VampSpec.record (v : VampSpec) (bar : Nat) : Vamp :=
  { kind := v.kind, start := bar, length := v.length, last := min (bar + v.length - 1) Config.barMax,
    passes := v.passes, pass := 1, released := false }

/-- VAMP_OVERFLOW is set, with the FAULT kind made pending where it was clear (R34). -/
def vampOverflow (s : State) : State :=
  notifyIf (!s.beats.overflow) .fault { s with beats := { s.beats with overflow := true } }

/-- A vamp is pushed at a bar; a push onto a full stack is an overflow (R34). -/
def pushVamp (bar : Nat) (s : State) (v : VampSpec) : State :=
  if s.beats.vamps.length < Config.vampCapacity then
    notify .cue { s with beats := { s.beats with vamps := v.record bar :: s.beats.vamps } }
  else vampOverflow s

/-- The pushes on the pending push list are made in order (R34). -/
def pushAll (bar : Nat) (s : State) : State :=
  s.beats.pushes.foldl (pushVamp bar) { s with beats := { s.beats with pushes := [] } }

/-- A taken cue's vamp joins the pending push list; a full list is an overflow (R34). -/
def addPush (v : VampSpec) (s : State) : State :=
  if s.beats.pushes.length < Config.pushCapacity then
    { s with beats := { s.beats with pushes := s.beats.pushes ++ [v] } }
  else vampOverflow s

/-! ## The fixing of a beat -/

/-- What a bar-start commit decides: the bar number and the flags of its first beat (R31, R32, R35). -/
structure BarStart where
  bar : Int
  countIn : Bool
  vampLoop : Bool
  lastPass : Bool
  deriving DecidableEq, Repr

/-- A pending meter becomes the meter at a bar-start commit (R29). -/
def BeatState.takeMeter (b : BeatState) : BeatState :=
  match b.pendingMeter with
  | some m => { b with meter := m, pendingMeter := none }
  | none => b

/-- A bar-start commit begins a count-in bar (R31). -/
def beginCountInBar (s : State) : BarStart × State :=
  ({ bar := -(s.beats.countInLeft : Int), countIn := true, vampLoop := false, lastPass := false },
   { s with beats := { s.beats with countInLeft := s.beats.countInLeft - 1 } })

/-- A bar-start commit begins the first music bar (R31). -/
def beginFirstBar (s : State) : BarStart × State :=
  let bar := s.beats.pendingBar.getD s.beats.startBar
  let s := if s.beats.click = .countIn then setClick .running s else s
  let s := { s with beats := { s.beats with pendingBar := none, firstBarDue := false } }
  ({ bar, countIn := false, vampLoop := false, lastPass := false }, pushAll bar s)

/-- A bar-start commit begins another music bar after the bar `ended` (R32 to R36). -/
def beginMusicBar (ended : Nat) (s : State) : BarStart × State :=
  let v := vampTest ended s.beats.vamps
  let s := notifyIf (v.loop || v.stack != s.beats.vamps) .cue { s with beats := { s.beats with vamps := v.stack } }
  match v.bar with
  | some bar => ({ bar, countIn := false, vampLoop := v.loop, lastPass := v.lastPass }, pushAll bar s)
  | none =>
    let bar := s.beats.pendingBar.getD (min (ended + 1) Config.barMax)
    ({ bar, countIn := false, vampLoop := false, lastPass := false },
     pushAll bar { s with beats := { s.beats with pendingBar := none } })

/-- A bar-start commit (R29, R31, R32). With count-in remaining it begins a count-in bar, also where the click is FINISHING
already (log 52). -/
def beginBar (prev : Option Beat) (s : State) : BarStart × State :=
  let s := { s with beats := s.beats.takeMeter }
  if s.beats.firstBarDue then
    if 0 < s.beats.countInLeft then beginCountInBar s else beginFirstBar s
  else beginMusicBar ((prev.map fun b => b.bar.toNat).getD 0) s

/-- The tempo of a commit is fixed, with the TEMPO kind made pending where current_tempo changes (R16, R18). -/
def fixTempo (s : State) : Nat × State :=
  let (v, t) := s.tempo.commit
  (v, notifyIf (s.tempo.current != t.current) .tempo { s with tempo := t })

/-- An onset: the NEXT record moves into CURRENT (R24). -/
def BeatState.takeOnset (b : BeatState) : BeatState :=
  match b.next with
  | some n => { b with current := some n, next := none }
  | none => b

/-- The next beat is fixed into NEXT (R22, R30): the beat and the state, before the announcement. A NEXT whose onset
event is overdue is moved first (log 2). -/
def fixBeat (onset : Nat) (s : State) : Beat × State :=
  let prev := s.beats.latest
  let barStart := s.beats.barStartNext
  let s := { s with beats := s.beats.takeOnset }
  let (tempo, s) := fixTempo s
  let (bs, s) :=
    if barStart then beginBar prev s
    else ({ bar := (prev.map (·.bar)).getD 1, countIn := (prev.map (·.countIn)).getD false, vampLoop := false,
            lastPass := false }, s)
  let n := if barStart then 1 else (prev.map (·.beat)).getD 0 + 1
  let b : Beat :=
    { onset, period := periodOf tempo, tempo, bar := bs.bar, beat := n, downbeat := n == 1, countIn := bs.countIn,
      vampLoop := bs.vampLoop, lastPass := bs.lastPass }
  (b, { s with beats := { s.beats with
    next := some b, nextOnset := some (onset + b.period), lastBarToBegin := s.beats.lastBarToBegin && !barStart } })

/-- What the Click Generator, the Picture Controller and the Overlay Generator do at the announcement of a beat (R46,
R126, R143, R146). -/
def announceOutputs (b : Beat) (s : State) : State :=
  let s := setTargets b { s with clicks := s.clicks.schedule b, picture := s.picture.addMarks b }
  if b.downbeat then { s with overlay := { s.overlay with banner := countBanner s.now s.overlay.banner } } else s

end Sys2Proof.Machine
end

