-- ==== Sys2Proof/Machine/StopOps.lean ====
section
/-!
DEFINITION. The taking of stops (chapter 9): the sampling, the take with its profile actions, conflict and HALTED, the
raising of sources; and the announcement of a beat with its commit sampling, and the start of the click (chapter 2).
-/

namespace Sys2Proof.Machine

/-! ## Sampling and taking -/

/-- Is a source eligible at a sampling? (R159) -/
def eligible (commitSampling : Bool) (s : State) (i : StopSource) : Bool :=
  s.stops.isRaised i && 1 ≤ s.stops.level i && s.stops.stopLevel < s.stops.level i &&
  (i.isHard || s.beats.click == .idle || commitSampling) && (7 ≤ s.stops.level i || s.stops.holdOff == 0)

/-- The better of the source chosen so far and another: the higher level, and the earlier index among equals (R159). -/
def better (x : Stops) (best : Option StopSource) (i : StopSource) : Option StopSource :=
  match best with
  | none => some i
  | some j => if x.level j < x.level i then some i else some j

/-- The source a sampling takes, if any (R159). -/
def chosen (commitSampling : Bool) (s : State) : Option StopSource :=
  (allSources.filter (eligible commitSampling s)).foldl (better s.stops) none

/-- Is the stop state one of the resume? (R183) -/
def StopState.ofResume : StopState → Bool
  | .awaitResume | .restoring | .resumeArmed => true
  | _ => false

/-- The stop stack with a source pushed; a full stack loses its bottom record first (R160, R161). -/
def Stops.push (i : StopSource) (x : Stops) : Stops :=
  let full := Config.stackCapacity ≤ x.stack.length
  let record : StopRecord := { source := i, level := x.level i, acked := false }
  { x with
    stack := record :: (if full then x.stack.dropLast else x.stack)
    displaced := if full then countUp x.displaced else x.displaced
    runAdvisory := (x.stack.isEmpty || x.runAdvisory) && (x.profile i).advisory && !x.state.ofResume
    topTicked := false
    topReported := false }

/-- The components of the effective profile that have risen are handed (R162 to R165). -/
def handProfile (before after : Profile) (s : State) : State :=
  let s :=
    if before.click.rank < after.click.rank then
      match after.click with
      | .cut => cutClick s
      | .bar => finishClick s
      | .continued => s
    else s
  let s := if before.rigs.rank < after.rigs.rank then handSafes s else s
  if before.video.rank < after.video.rank ∧ after.video = .freeze then setFrozen true s else s

/-- md_ready is cleared and the restore set emptied by a take in a state of the resume (R183). -/
def suspendResume (s : State) : State :=
  if s.stops.state.ofResume then { s with resume := { s.resume with mdReady := false, restoreSet := [] } } else s

/-- A source is taken (R160, R183). -/
def takeStop (i : StopSource) (s : State) : State :=
  let before := s.stops.effective
  let s := suspendResume s
  let s := notify .stop { s with stops := s.stops.push i }
  let s := if i.isCommand then setRaised i false s else s
  let s := setStopState .stopping (setHoldOff 0 s)
  handProfile before s.stops.effective s

/-- One sampling, without the sampling that an entry to IDLE made by its take calls for. -/
def sampleOnce (commitSampling : Bool) (s : State) : State :=
  if s.inShow && s.stops.state != .halted then
    match chosen commitSampling s with
    | some i => takeStop i s
    | none => s
  else s

/-- A sampling (R158): where its take cuts a running click, the entry to IDLE makes a sampling of its own. The take of
that second sampling finds the click IDLE, so it makes no third. -/
def sample (commitSampling : Bool) (s : State) : State :=
  let t := sampleOnce commitSampling s
  if s.beats.click ≠ .idle ∧ t.beats.click = .idle then sampleOnce false t else t

/-! ## Raising, conflict and HALTED -/

/-- A raising of a source is a conflict (R169). -/
def isConflict (i : StopSource) (s : State) : Bool :=
  i.isHard && s.stops.state == .stopping && !s.stops.onStack i &&
  (match s.stops.stack with
    | r :: _ => r.source.isHard && s.stops.level i < r.level
    | [] => false)

/-- The source of the top record. -/
def Stops.topSource (x : Stops) (otherwise : StopSource) : StopSource :=
  match x.stack with
  | r :: _ => r.source
  | [] => otherwise

/-- The part enters HALTED at a conflict that the raising of a source makes (R169, R170). -/
def halt (i : StopSource) (s : State) : State :=
  let s := { s with stops := { s.stops with
    halt := some { raisedSource := i, topSource := s.stops.topSource i }, stack := [], runAdvisory := false,
    topTicked := false, topReported := false } }
  let s := notify .stop s
  let s := cutClick (setHoldOff 0 (lowerCommands s))
  setStopState .halted (setFrozen true (handSafes s))

/-- What follows the raising of a source in SHOW: a conflict halts the show, or else a sampling is made (R154, R155). A
source whose record is on the stack is ignored. -/
def afterRaising (i : StopSource) (s : State) : State :=
  if !s.inShow || s.stops.onStack i then s
  else if isConflict i s then halt i s
  else sample false s

/-- A condition source is raised by its owner (R155). -/
def raiseCondition (i : StopSource) (s : State) : State :=
  if s.stops.isRaised i then s else afterRaising i (setRaised i true s)

/-! ## The announcement of a beat, and the start of the click -/

/-- A committed beat is announced (R22): the output blocks act on it, the Stop Controller lowers the hold-off count and
makes its commit sampling (R166), and the Rig Controller makes its visits (R112). -/
def announceBeat (commitSampling : Bool) (b : Beat) (s : State) : State :=
  let s := announceOutputs b s
  let s := if s.stops.holdOff = 0 then s else setHoldOff (s.stops.holdOff - 1) s
  let s := if commitSampling then sample true s else s
  if b.downbeat then forceVisits s else s

/-- The next beat is committed: fixed and announced (R22). -/
def commitBeat (commitSampling : Bool) (s : State) : State :=
  match s.beats.nextOnset with
  | none => s
  | some o =>
    let (b, s) := fixBeat o s
    announceBeat commitSampling b s

/-- A START of an IDLE click: the first beat is committed at once (R25). A START of a click that is not IDLE is KEEP. -/
def startClick (commitSampling : Bool) (countIn startBar : Nat) (s : State) : State :=
  match s.beats.click with
  | .idle =>
    let s := setClick (if countIn = 0 then .running else .countIn) s
    commitBeat commitSampling { s with beats := { s.beats with
      nextOnset := some (q16OfSample (s.now + Config.horizon)), countInLeft := countIn, countInLength := countIn,
      firstBarDue := true, startBar := startBar, lastBarToBegin := false } }
  | _ => s

end Sys2Proof.Machine
end

