-- ==== Sys2Proof/Machine/CueOps.lean ====
section
/-!
DEFINITION. The taking of a cue (R86 to R91), and the beat-commit event, which takes an armed cue whose boundary it meets
(R82) and discards the bar start after the last bar (R27).
-/

namespace Sys2Proof.Machine

/-- The cue pointer is replaced, with the CUE kind made pending where it changes (R75). -/
def setPointer (p : Pointer) (s : State) : State := notifyIf (s.pointer != p) .cue { s with pointer := p }

/-- The standing cue after a cue: the next one, or END (R75). -/
def Tables.standingAfter (t : Tables) (n : Nat) : Standing :=
  match t.after n with
  | some c => .cue c.number
  | none => .ended

/-- A take updates the pointer (R86); chase-pending stays until the take's changes have been handed. -/
def takePointer (c : Cue) (s : State) : State :=
  setPointer { s.pointer with
    current := some c.number, standing := s.tables.standingAfter c.number, armed := none } s

/-- A cue's meter and score bar become pending (R87). -/
def takeMeterAndBar (c : Cue) (s : State) : State :=
  { s with beats := { s.beats with
    pendingMeter := c.meter <|> s.beats.pendingMeter, pendingBar := c.scoreBar <|> s.beats.pendingBar } }

/-- START_IGNORED is set, with the FAULT kind made pending where it was clear (R88). -/
def startIgnored (s : State) : State :=
  notifyIf (!s.pointer.startIgnored) .fault { s with pointer := { s.pointer with startIgnored := true } }

/-- A cue's click action CUT, with the sampling that an entry to IDLE makes (R28, R158): here, before the vamp, the changes and
the video action of the same take (log 45). -/
def cueCut (s : State) : State :=
  let t := cutClick s
  if s.beats.click = .idle then t else sample false t

/-- A cue's click action (R88). -/
def takeClick (a : ClickAction) (s : State) : State :=
  match a with
  | .keep => s
  | .start n => if s.beats.click = .finishing then startIgnored s else startClick true n 1 s
  | .stop => finishClick s
  | .cut => cueCut s

/-- The bar at which a take's own START has begun the first music bar, so that the cue's vamp is pushed there (R34). Where the
sampling of that first commit has cut the click, there is none (log 43). -/
def startedBar (c : Cue) (before after : State) : Option Nat :=
  if c.click = .start 0 ∧ before.beats.click = .idle then after.beats.next.map fun b => b.bar.toNat else none

/-- A cue's vamp (R34, R89). Without a bar that the take itself has begun, it waits on the pending push list (log 43). -/
def takeVamp (c : Cue) (started : Option Nat) (s : State) : State :=
  match c.vamp with
  | none => s
  | some v =>
    match started with
    | some bar => pushVamp bar s v
    | none => addPush v s

/-- A change entry of a taken cue is handed as a CUE change (R90). -/
def handEntry (s : State) (e : ChangeEntry) : State :=
  match idx? 8 e.slot with
  | some k => placeChange k (cueFor k e s) s
  | none => s

/-- A cue's change list, or its patch chase where chase-pending is set (R90). -/
def takeChanges (c : Cue) (s : State) : State :=
  if s.pointer.chasePending then
    setPointer { s.pointer with chasePending := false } (handChase (.cue c.number) s)
  else c.changes.foldl handEntry s

/-- The AUTO camera is set, with the CAMERA kind made pending where it changes (R132). -/
def setAuto (k : Camera) (s : State) : State :=
  notifyIf (s.picture.auto != k) .camera { s with picture := { s.picture with auto := k } }

/-- A cue's video action (R91, R132, R146). -/
def takeVideo (c : Cue) (s : State) : State :=
  match c.video with
  | none => s
  | some v =>
    let s := match v.camera with
      | some k => setAuto k s
      | none => s
    match v.banner with
    | some b =>
      { s with overlay := { s.overlay with banner := some { text := b.text, bars := b.duration, takenAt := s.now } } }
    | none => s

/-- A cue is taken (R86): the pointer, then the actions of TABLE 5-2 in their order. -/
def takeCue (c : Cue) (s : State) : State :=
  let s := setTempoState (s.tempo.apply c.tempo) (takePointer c s)
  let s := takeMeterAndBar c s
  let t := takeClick c.click s
  takeVideo c (takeChanges c (takeVamp c (startedBar c s t) t))

/-- The armed cue, where one is armed. -/
def armedCue (s : State) : Option Cue := s.pointer.armed.bind s.tables.find

/-- The armed cue is taken where the click is IDLE and the stop state is CLEAR (R83). -/
def takeArmedIfIdle (s : State) : State :=
  if s.beats.click = .idle ∧ s.stops.state = .clear then
    match armedCue s with
    | some c => takeCue c s
    | none => s
  else s

/-- Does a commit meet a cue's boundary? (R81) -/
def Boundary.metBy (b : Boundary) (barStart : Bool) : Bool :=
  match b with
  | .nextBar => barStart
  | _ => true

/-- The armed cue is taken at a commit that meets its boundary, in CLEAR (R82). -/
def takeArmedAtCommit (barStart : Bool) (s : State) : State :=
  match armedCue s with
  | some c => if s.stops.state = .clear ∧ c.boundary.metBy barStart then takeCue c s else s
  | none => s

/-- Is the next commit the bar start that FINISHING discards? (R27) -/
def BeatState.discardsNext (b : BeatState) : Bool := b.click == .finishing && !b.lastBarToBegin && b.barStartNext

/-- A beat commit (R22, R23, R27, R82), where the show clock has reached it: the bar start after the last bar is
discarded, once an overdue NEXT is moved (log 2); else the armed cue is taken if its boundary is met, and the beat is
committed unless that take has cut the click. -/
def beatCommit (s : State) : State :=
  if s.commitDue then
    if s.beats.discardsNext then { s with beats := { s.beats.takeOnset with nextOnset := none } }
    else commitBeat true (takeArmedAtCommit s.beats.barStartNext s)
  else s

end Sys2Proof.Machine
end

