-- ==== Sys2Proof/Machine/ResumeOps.lean ====
section
/-!
DEFINITION. What follows a stop (chapter 10): the arrival at STOPPED, the pop test and the end of a run, the restore set,
the lowering of sources, and the review of the protocols after a rig event.
-/

namespace Sys2Proof.Machine

/-! ## Restores -/

/-- md_ready is cleared (R177); in RESUME_ARMED that returns the state to RESTORING (R179). -/
def clearMdReady (s : State) : State :=
  let s := notifyIf s.resume.mdReady .stop { s with resume := { s.resume with mdReady := false } }
  if s.stops.state = .resumeArmed then setStopState .restoring s else s

/-- The resume state of a show with no resume under way: no target, md_ready clear, an empty restore set (R177). -/
def dropResume (s : State) : State :=
  notifyIf (s.resume.mdReady || s.resume.target != none) .stop
    { s with resume := { s.resume with target := none, mdReady := false, restoreSet := [] } }

/-- A slot is handed its restore at a RESUME AT, unless it is settled at the chased patch (R178). -/
def restoreSlot (s : State) (k : Slot) : State :=
  let r := s.rig k
  if r.boundPort.isNone || r.state == .fault then s
  else
    let h := restoreFor k (s.tables.patchChase (targetChase s) k).1 s
    if r.settledAt h.patch then s
    else
      let s := placeChange k h s
      { s with resume := { s.resume with restoreSet := s.resume.restoreSet ++ [(k, h.patch)] } }

/-- The restores of the target are handed and the state becomes RESTORING (R178). -/
def issueRestores (s : State) : State :=
  let s := setStopState .restoring { s with resume := { s.resume with restoreSet := [] } }
  allSlots.foldl restoreSlot s

/-- A member of the restore set is complete (R179). -/
def restoreComplete (s : State) (m : Slot × Patch) : Bool :=
  let r := s.rig m.1
  r.settledAt m.2 || r.state == .fault || r.boundPort.isNone

/-- The tests of R179: complete slots leave the restore set; RESTORING with an empty set and md_ready becomes
RESUME_ARMED; RESUME_ARMED without them becomes RESTORING. -/
def reviewRestore (s : State) : State :=
  let s := { s with resume := { s.resume with restoreSet := s.resume.restoreSet.filter fun m => !restoreComplete s m } }
  let ready := s.resume.restoreSet.isEmpty && s.resume.mdReady
  if s.stops.state = .restoring ∧ ready then setStopState .resumeArmed s
  else if s.stops.state = .resumeArmed ∧ !ready then setStopState .restoring s
  else s

/-! ## Arrival -/

/-- The arrival test (R173). -/
def arrivalMet (s : State) : Bool :=
  let e := s.stops.effective
  (s.beats.click == .idle || e.click == .continued) &&
  (e.rigs == .none || allSafe s) &&
  (if e.video = .none then s.stops.topTicked else s.stops.topReported)

/-- The stop state moves from STOPPING to STOPPED where the arrival test is met (R173). -/
def arrive (s : State) : State :=
  if s.stops.state = .stopping ∧ arrivalMet s then setStopState .stopped s else s

/-! ## Popping -/

/-- The stack after the pops of one sample: acknowledged top records whose sources are not raised leave in turn (R175). -/
def popped (x : Stops) : List StopRecord → List StopRecord
  | [] => []
  | r :: rest => if r.acked && !x.isRaised r.source then popped x rest else r :: rest

/-- A run has ended with its stack empty (R176). -/
def endRun (s : State) : State :=
  match s.resume.target with
  | some _ => issueRestores s
  | none => if s.stops.runAdvisory then setStopState .clear (setFrozen false s) else setStopState .awaitResume s

/-- The pop test (R175, R176): the pops of this sample, the end of the run where the stack empties, a sampling, and an
armed cue's take where the state has returned to CLEAR with the click IDLE (R83). -/
def popTest (s : State) : State :=
  let stack := popped s.stops s.stops.stack
  if stack.length = s.stops.stack.length then s
  else
    let s := notify .stop { s with stops := { s.stops with stack := stack, topTicked := false, topReported := false } }
    let s := if stack.isEmpty then endRun s else s
    let s := sample false s
    if stack.isEmpty then takeArmedIfIdle s else s

/-- A condition source is lowered by its owner (R155), and the pop test is made (R175). -/
def lowerCondition (i : StopSource) (s : State) : State :=
  if s.stops.isRaised i then popTest (setRaised i false s) else s

/-- A condition source follows its owner's condition (R155). -/
def followCondition (i : StopSource) (holdsNow : Bool) (s : State) : State :=
  if holdsNow then raiseCondition i s else lowerCondition i s

/-! ## Reviews -/

/-- What follows an event of chapter 6 that changes a rig's state or its settled answer: completions of restores (R179),
the RIG_FAULT condition (R118), and the arrival test (R173). -/
def reviewRigs (s : State) : State :=
  let s := reviewRestore s
  arrive (followCondition .rigFault (rigFaultNow s) s)

/-- What follows a change of a camera's state: the CAMERA_LOST condition (R130). -/
def reviewCameras (s : State) : State := followCondition .cameraLost s.picture.anyLost s

/-- The end of FINISHING (R27, R83): CURRENT is removed and the click enters IDLE, with the sampling, an armed cue's take
and the arrival test that follow. -/
def finishingEnd (s : State) : State :=
  match s.beats.click, s.beats.nextOnset, s.beats.current with
  | .finishing, none, some c =>
    if q16Sample (c.onset + c.period) ≤ s.now then arrive (takeArmedIfIdle (sample false (enterIdle s))) else s
  | _, _, _ => s

end Sys2Proof.Machine
end

