-- ==== Sys2Proof/Machine/OverlayOps.lean ====
section
/-!
DEFINITION. The Overlay Generator's work at a frame tick (chapter 8): the fields of TABLE 8-1, the flashes, the banners,
the printed texts, the output frames (R136) and the banner-shown report (R148).
-/

namespace Sys2Proof.Machine

/-! ## Printing -/

/-- The characters of a constant text. -/
def chars (t : String) : Text := t.toList.map fun c => BitVec.ofNat 8 c.toNat

/-- The digit characters of a number, at most `fuel` of them. -/
def digitsUpTo : Nat → Nat → Text
  | 0, _ => []
  | fuel + 1, n => (if n < 10 then [] else digitsUpTo fuel (n / 10)) ++ [BitVec.ofNat 8 (48 + n % 10)]

/-- A number in decimal; no printed number of the part has more than ten digits. -/
def decimal (n : Nat) : Text := digitsUpTo 10 n

/-- A cue number with one decimal (R141). -/
def cueText (n : Nat) : Text := decimal (n / 10) ++ chars "." ++ decimal (n % 10)

/-- A tempo in BPM with two decimals (R141). -/
def tempoText (t : Nat) : Text := decimal (t / 100) ++ chars "." ++ decimal (t / 10 % 10) ++ decimal (t % 10)

/-- A position, "bar:beat"; a count-in bar as C and its place in the count-in (R140). -/
def positionText (countInLength : Nat) (p : Position) : Text :=
  (if p.countIn then chars "C" ++ decimal ((countInLength : Int) + p.bar + 1).toNat else decimal p.bar.toNat) ++
  chars ":" ++ decimal p.beat

/-- A count field (R142). -/
def countText : CountField → Text
  | .blank => []
  | .figure n => decimal n
  | .vamp pass => chars "VAMP " ++ decimal pass
  | .last => chars "LAST"

/-! ## Field sets -/

/-- The fields of an overlay field set, by their bits (TABLE 12-6). -/
def fieldBarBeat : BitVec 8 := 0x01
def fieldCue : BitVec 8 := 0x02
def fieldTempo : BitVec 8 := 0x04
def fieldCount : BitVec 8 := 0x08
def fieldFlash : BitVec 8 := 0x10
def fieldBanner : BitVec 8 := 0x20

/-- Is a field in a monitor's overlay field set? -/
def Monitor.shows (m : Monitor) (field : BitVec 8) : Bool := m.fields &&& field != 0

/-! ## The fields of TABLE 8-1 -/

/-- The beat of the position field at a seen time (R140). -/
def seenBeat (b : BeatState) (seen : Nat) : Option Beat :=
  match b.next with
  | some n => if q16Sample n.onset ≤ seen then some n else b.current
  | none => b.current

/-- The position of a beat. -/
def Beat.position (b : Beat) : Position := { bar := b.bar, beat := b.beat, countIn := b.countIn }

/-- The current cue with its label; a cue that has been deleted has an empty label (R141). -/
def cueField (s : State) : Option (Nat × Text) :=
  s.pointer.current.map fun n => (n, ((s.tables.find n).map (·.label)).getD [])

/-- Does a vamp record's pass end in leaving it? (R142) -/
def Vamp.lastShown (v : Vamp) : Bool :=
  match v.kind with
  | .opened => v.released
  | .repeated => v.passes == some v.pass

/-- The count field that the vamp stack gives. -/
def vampCount : List Vamp → CountField
  | [] => .blank
  | v :: _ => if v.lastShown then .last else .vamp v.pass

/-- The count field (R142). -/
def countField (seen : Option Beat) (vamps : List Vamp) : CountField :=
  match seen with
  | some b => if b.countIn then .figure b.beat else vampCount vamps
  | none => vampCount vamps

/-- The stop banner texts (TABLE 8-2). -/
def StopSource.text : StopSource → Text
  | .relay => chars "SHOW STOP VENUE"
  | .smStop => chars "SHOW STOP"
  | .mdStop => chars "MD STOP"
  | .clock => chars "CLOCK ON INTERNAL"
  | .smLost => chars "SM DESK LOST"
  | .fohStop => chars "FOH STOP"
  | .mdLost => chars "MD DESK LOST"
  | .rigFault => chars "RIG FAULT"
  | .cameraLost => chars "CAMERA LOST"

/-- The resume target printed as a cue number. -/
def targetText (s : State) : Text := ((s.resume.target.map fun t => cueText t.cue).getD [])

/-- The text of the stop banner in force (R147), with one space before a printed resume target (log 50). -/
def stopBannerText (s : State) : Text :=
  match s.stops.stack with
  | r :: _ => r.source.text
  | [] =>
    match s.stops.state with
    | .restoring => chars "RESTORING " ++ targetText s
    | .resumeArmed => chars "RESUME ARMED " ++ targetText s
    | _ => chars "AWAIT RESUME"

/-- The banner field of a monitor whose field set includes BANNER (R148). -/
def bannerField (s : State) : Option Text :=
  if s.stops.state = .halted then none
  else if s.stops.bannerInForce then some (stopBannerText s)
  else s.overlay.banner.map (·.text)

/-- The no picture field (R149). -/
def noPictureField (p : Picture) (m : Monitor) : Bool :=
  match p.cameraOf m with
  | some k => (p.cam k).state != .ok
  | none => false

/-! ## The flash (R144, R145) -/

/-- Step 1: a CLICK flash starts from its target. -/
def FlashRec.startClick (m : Monitor) (now : Nat) (r : FlashRec) : FlashRec :=
  match m.flashMode, r.target with
  | .click, some t =>
    if t.sample ≤ now + m.latency then
      { target := none, kind := if t.downbeat then .downbeat else .beat, ticks := m.flashLength }
    else r
  | _, _ => r

/-- Step 1 in IMAGE mode: a flash starts from the mark of a slot that the visit has made the monitor hold (R145). -/
def FlashRec.startImage (m : Monitor) (mark : MarkKind) (r : FlashRec) : FlashRec :=
  match m.flashMode with
  | .image => if mark = .none then r else { r with kind := mark, ticks := m.flashLength }
  | _ => r

/-- Step 2: the flash is drawn and its ticks remaining fall. -/
def FlashRec.draw (r : FlashRec) : MarkKind × FlashRec :=
  if 0 < r.ticks then (r.kind, { r with ticks := r.ticks - 1 }) else (.none, { r with kind := .none })

/-- The flash of a monitor at a tick: the flash field and the flash record after it. -/
def flashTick (s : State) (before : Picture) (i : Fin 6) : MarkKind × FlashRec :=
  let m := s.picture.monitor i
  let r := (tget s.overlay.flashes i).startClick m s.now |>.startImage m (newMark before s.picture i)
  let (field, r) := r.draw
  (if m.shows fieldFlash && s.beats.click != .idle then field else .none, r)

/-! ## The build -/

/-- The overlay record of a monitor at a tick (R139). -/
def buildRecord (s : State) (before : Picture) (i : Fin 6) : OverlayRec :=
  let m := s.picture.monitor i
  let seen := seenBeat s.beats (s.now + m.latency)
  { position := if m.shows fieldBarBeat then seen.map Beat.position else none
    cue := if m.shows fieldCue then cueField s else none
    tempo := if m.shows fieldTempo then some s.tempo.current else none
    count := if m.shows fieldCount then countField seen s.beats.vamps else .blank
    flash := (flashTick s before i).1
    banner := if m.shows fieldBanner then bannerField s else none
    noPicture := noPictureField s.picture m
    showHalted := s.stops.state == .halted }

/-- The output frame that begins at a tick: the picture of the held slot, black where there is none, and the overlay
record drawn on it (R136, R139). -/
def drawFrame (s : State) (i : Fin 6) (r : OverlayRec) : OutputFrame :=
  { picture := (s.picture.monitor i).held
    positionText := (r.position.map (positionText s.beats.countInLength)).getD []
    cueText := (r.cue.map fun c => if c.2 = [] then cueText c.1 else cueText c.1 ++ chars " " ++ c.2).getD []
    tempoText := (r.tempo.map tempoText).getD []
    countText := countText r.count
    flash := r.flash
    bannerText := r.banner.getD []
    centreText := if r.showHalted then chars "SHOW HALTED" else if r.noPicture then chars "NO PICTURE" else [] }

/-- The overlays of a tick are built and drawn on the pictures (R136, R139). -/
def buildOverlays (before : Picture) (s : State) : State :=
  let records := tmapIdx (fun i (_ : OverlayRec) => buildRecord s before i) s.overlay.records
  { s with overlay := { s.overlay with
    records := records
    flashes := tmapIdx (fun i (_ : FlashRec) => (flashTick s before i).2) s.overlay.flashes
    outputs := tmapIdx (fun i (_ : OutputFrame) => drawFrame s i (tget records i)) s.overlay.outputs } }

/-- The Stop Controller's notes of a tick: a tick has fallen since the top record became top, and the banner-shown report
where a stop banner is in force (R148, R173). -/
def reportBanner (s : State) : State :=
  match s.stops.stack with
  | [] => s
  | _ :: _ =>
    { s with stops := { s.stops with
      topTicked := true, topReported := s.stops.topReported || s.stops.bannerInForce } }

/-- What a frame tick does once the accumulator has advanced (R133, R139, R148, R173). -/
def tickWork (s : State) : State :=
  arrive (reportBanner (buildOverlays s.picture { s with picture := s.picture.visitAll }))

end Sys2Proof.Machine
end

