-- ==== Sys2Proof/Machine/Items.lean ====
section
/-!
DEFINITION. The item catalogue (TABLE 12-6): every item with its number, its instances, its writers and whether it is a
flag item; and the value a READ returns, in the forms of R202.
-/

namespace Sys2Proof.Machine

/-- The items of the catalogue. -/
inductive Item where
  | showClock | clockSource | wordSeen | holdovers | videoRate
  | tempoMode | currentTempo | liveTempo | ramp | taps | tempoClamped
  | clickState | currentBeat | nextBeat | meter | pendingMeter | pendingBar | vampStack | vampOverflow
  | laneField (f : LaneField)
  | laneLevel | clipCounter | clipEntry | soundRole
  | sessionState | cueCount | freeCount
  | slotSetting (f : SlotSetting)
  | standing | currentCue | armedCue | chasePending | startIgnored
  | portLink | boundSlot | portFault | lastIdentity | slotName
  | boundPort | rigState | appliedPatch | sustain | heldNotes | inFlight | pendingChange | lastBit | faultReason
  | rigCounter (c : RigCounter)
  | frameSlot | readyList | cameraEnabled | cameraRecord
  | cameraCounter (c : CameraCounter)
  | monitorField (f : MonitorField)
  | monitorFrozen | heldSlot | autoCamera | overlayRecord
  | stopLevel | stopProfile | raisedFlag | relayState | stopStack | levelL | stopState | runAdvisory | haltRecord
  | holdOffCount | displacedCount | resumeTarget | mdReadyFlag | restoreSet | resumeCountIn
  | presence | portRole | noticeMask | pendingSet | noticeOutstanding | badFrames
  deriving DecidableEq, Repr

/-- The items from 0x0101 to 0x030A by their numbers. -/
def Item.ofLow (n : Nat) : Option Item :=
  match n with
  | 0x0101 => some .showClock
  | 0x0102 => some .clockSource
  | 0x0103 => some .wordSeen
  | 0x0104 => some .holdovers
  | 0x0105 => some .videoRate
  | 0x0201 => some .tempoMode
  | 0x0202 => some .currentTempo
  | 0x0203 => some .liveTempo
  | 0x0204 => some .ramp
  | 0x0205 => some .taps
  | 0x0206 => some .tempoClamped
  | 0x0207 => some .clickState
  | 0x0208 => some .currentBeat
  | 0x0209 => some .nextBeat
  | 0x020A => some .meter
  | 0x020B => some .pendingMeter
  | 0x020C => some .pendingBar
  | 0x020D => some .vampStack
  | 0x020E => some .vampOverflow
  | 0x0301 => some (.laneField .enabled)
  | 0x0302 => some (.laneField .subdivision)
  | 0x0303 => some (.laneField .accent)
  | 0x0304 => some (.laneField .soundSet)
  | 0x0305 => some (.laneField .lead)
  | 0x0306 => some (.laneField .countVoice)
  | 0x0307 => some .laneLevel
  | 0x0308 => some .clipCounter
  | 0x0309 => some .clipEntry
  | 0x030A => some .soundRole
  | _ => none

/-- The items from 0x0401 to 0x0512 by their numbers. -/
def Item.ofMiddle (n : Nat) : Option Item :=
  match n with
  | 0x0401 => some .sessionState
  | 0x0402 => some .cueCount
  | 0x0403 => some .freeCount
  | 0x0404 => some (.slotSetting .opening)
  | 0x0405 => some (.slotSetting .safe)
  | 0x0406 => some (.slotSetting .required)
  | 0x0407 => some (.slotSetting .cover)
  | 0x0408 => some .standing
  | 0x0409 => some .currentCue
  | 0x040A => some .armedCue
  | 0x040B => some .chasePending
  | 0x040C => some .startIgnored
  | 0x0501 => some .portLink
  | 0x0502 => some .boundSlot
  | 0x0503 => some .portFault
  | 0x0504 => some .lastIdentity
  | 0x0505 => some (.rigCounter .invalidMessage)
  | 0x0506 => some .slotName
  | 0x0507 => some .boundPort
  | 0x0508 => some .rigState
  | 0x0509 => some .appliedPatch
  | 0x050A => some .sustain
  | 0x050B => some .heldNotes
  | 0x050C => some .inFlight
  | 0x050D => some .pendingChange
  | 0x050E => some .lastBit
  | 0x050F => some .faultReason
  | 0x0510 => some (.rigCounter .superseded)
  | 0x0511 => some (.rigCounter .refusal)
  | 0x0512 => some (.rigCounter .timeout)
  | _ => none

/-- The items from 0x0601 to 0x0906 by their numbers. -/
def Item.ofHigh (n : Nat) : Option Item :=
  match n with
  | 0x0601 => some .frameSlot
  | 0x0602 => some .readyList
  | 0x0603 => some .cameraEnabled
  | 0x0604 => some .cameraRecord
  | 0x0605 => some (.cameraCounter .drop)
  | 0x0606 => some (.cameraCounter .abort)
  | 0x0607 => some (.monitorField .source)
  | 0x0608 => some (.monitorField .latency)
  | 0x0609 => some (.monitorField .pairedLane)
  | 0x060A => some (.monitorField .flashMode)
  | 0x060B => some (.monitorField .flashLength)
  | 0x060C => some (.monitorField .overlayFields)
  | 0x060D => some .monitorFrozen
  | 0x060E => some .heldSlot
  | 0x060F => some .autoCamera
  | 0x0701 => some .overlayRecord
  | 0x0801 => some .stopLevel
  | 0x0802 => some .stopProfile
  | 0x0803 => some .raisedFlag
  | 0x0804 => some .relayState
  | 0x0805 => some .stopStack
  | 0x0806 => some .levelL
  | 0x0807 => some .stopState
  | 0x0808 => some .runAdvisory
  | 0x0809 => some .haltRecord
  | 0x080A => some .holdOffCount
  | 0x080B => some .displacedCount
  | 0x080C => some .resumeTarget
  | 0x080D => some .mdReadyFlag
  | 0x080E => some .restoreSet
  | 0x080F => some .resumeCountIn
  | 0x0901 => some .presence
  | 0x0902 => some .portRole
  | 0x0903 => some .noticeMask
  | 0x0904 => some .pendingSet
  | 0x0905 => some .noticeOutstanding
  | 0x0906 => some .badFrames
  | _ => none

/-- The item with a number (TABLE 12-6). -/
def Item.ofNumber (n : Nat) : Option Item := Item.ofLow n <|> Item.ofMiddle n <|> Item.ofHigh n

/-- The number of instances of an item (TABLE 12-6, R206). -/
def Item.instances : Item → Nat
  | .laneField _ | .laneLevel | .clipCounter | .clipEntry => 16
  | .soundRole => 28
  | .slotSetting _ | .portLink | .boundSlot | .portFault | .lastIdentity | .slotName => 8
  | .boundPort | .rigState | .appliedPatch | .sustain | .heldNotes | .inFlight | .pendingChange | .lastBit => 8
  | .faultReason | .rigCounter _ => 8
  | .frameSlot => 12
  | .readyList | .cameraEnabled | .cameraRecord | .cameraCounter _ => 2
  | .monitorField _ | .monitorFrozen | .heldSlot | .overlayRecord => 6
  | .stopLevel | .stopProfile | .raisedFlag => 9
  | .presence | .portRole | .noticeMask | .pendingSet | .noticeOutstanding | .badFrames => 4
  | _ => 1

/-- Who may write an item: the listed roles, or the port whose own instance it is (TABLE 12-6). -/
inductive Writers where
  | roles (l : List Role)
  | ownPort
  deriving DecidableEq, Repr

/-- The writers of an item (TABLE 12-6). -/
def Item.writers : Item → Writers
  | .videoRate | .laneField _ | .soundRole | .slotSetting _ | .slotName | .rigCounter _ => .roles [.prog]
  | .cameraEnabled | .cameraCounter _ | .monitorField _ | .badFrames => .roles [.prog]
  | .liveTempo | .tempoClamped | .holdOffCount => .roles [.md]
  | .vampOverflow | .startIgnored => .roles [.md, .sm, .prog]
  | .laneLevel | .clipCounter => .roles [.prog, .foh]
  | .stopLevel | .stopProfile | .displacedCount | .resumeCountIn => .roles [.sm, .prog]
  | .noticeMask => .ownPort
  | _ => .roles []

/-- Is an item a flag item? (11.5, R206, log 36) -/
def Item.isFlag : Item → Bool
  | .tempoClamped | .vampOverflow | .startIgnored | .monitorField .overlayFields | .noticeMask | .pendingSet => true
  | _ => false

/-! ## Records as bytes -/

/-- A beat record (TABLE 2-1): onset, period, tempo, bar, beat and the four flags. -/
def beatBytes (b : Beat) : List Byte :=
  beBytes 8 b.onset ++ beBytes 8 b.period ++ beBytes 2 b.tempo ++ signedBytes b.bar ++ [byteOf b.beat] ++
  boolByte b.downbeat ++ boolByte b.countIn ++ boolByte b.vampLoop ++ boolByte b.lastPass

/-- A ramp record: T0, T1, R and the committed count. -/
def rampBytes (r : Ramp) : List Byte := beBytes 2 r.t0 ++ beBytes 2 r.t1 ++ [byteOf r.length, byteOf r.done]

/-- A vamp record (TABLE 2-3). -/
def vampBytes (v : Vamp) : List Byte :=
  [v.kind.code] ++ beBytes 2 v.start ++ [byteOf v.length] ++ beBytes 2 v.last ++ optBytes 1 (beBytes 1) v.passes ++
  [byteOf v.pass] ++ boolByte v.released

/-- The standing cue, a field of three forms: absent, a cue number, END. -/
def standingBytes : Standing → List Byte
  | .absent => 0 :: beBytes 4 0
  | .cue n => 1 :: beBytes 4 n
  | .ended => 2 :: beBytes 4 0

/-- An in-flight change (TABLE 6-2). -/
def inFlightBytes (f : InFlight) : List Byte :=
  patchBytes f.patch ++ [f.kind.code] ++ boolByte f.bit ++ beBytes 8 f.sent ++ boolByte f.resent

/-- When a pending change is due: NOW, or AT_RELEASE with its force bars. -/
def dueBytes : Due → List Byte
  | .now => [0, 0]
  | .atRelease n => [1, byteOf n]

/-- A pending change (TABLE 6-2). -/
def pendingBytes (c : PendingChange) : List Byte := patchBytes c.patch ++ [c.kind.code] ++ dueBytes c.due

/-- A frame slot record (TABLE 7-1). -/
def frameSlotBytes (f : FrameSlot) : List Byte :=
  [f.state.code] ++ beBytes 2 f.sequence ++ beBytes 8 f.captured ++ [byteOf f.readers, f.mark.code]

/-- The number of a frame slot, A0 to A5 and then B0 to B5 (TABLE 12-6). -/
def SlotId.number (i : SlotId) : Nat :=
  match i.camera with
  | .a => i.index.val
  | .b => 6 + i.index.val

/-- An entry of a mark queue (R126, log 20). -/
def markBytes (m : MarkEntry) : List Byte :=
  Config.beatIdentityWire m.beat ++ beBytes 8 m.onset ++ boolByte m.downbeat

/-- The other fields of a camera record (TABLE 7-2). -/
def cameraBytes (c : CameraRec) : List Byte :=
  [c.state.code] ++ boolByte c.frameOpen ++ [byteOf c.goodRun] ++ beBytes 8 c.lastStart ++ beBytes 2 c.counter ++
  listBytes markBytes c.marks

/-- The position field of an overlay record. -/
def positionBytes (p : Position) : List Byte := signedBytes p.bar ++ [byteOf p.beat] ++ boolByte p.countIn

/-- The count field of an overlay record, a field of four forms, blank first. -/
def countBytes : CountField → List Byte
  | .blank => [0, 0]
  | .figure n => [1, byteOf n]
  | .vamp pass => [2, byteOf pass]
  | .last => [3, 0]

/-- An overlay record (TABLE 8-1). The absent text of a cue or a banner is one zero length byte (log 51). -/
def overlayBytes (o : OverlayRec) : List Byte :=
  optBytes 4 positionBytes o.position ++ optBytes 5 (fun c => beBytes 4 c.1 ++ textBytes c.2) o.cue ++
  optBytes 2 (beBytes 2) o.tempo ++ countBytes o.count ++ [o.flash.code] ++ optBytes 1 textBytes o.banner ++
  boolByte o.noPicture ++ boolByte o.showHalted

/-- A stop source by its index (TABLE 9-1). -/
def StopSource.code (i : StopSource) : Byte := byteOf i.index.val

/-- A record of the stop stack (R156). -/
def stopRecordBytes (r : StopRecord) : List Byte := [r.source.code, byteOf r.level] ++ boolByte r.acked

/-- A profile (TABLE 9-2). -/
def profileBytes (p : Profile) : List Byte := [p.click.code, p.rigs.code, p.video.code]

/-- The halt record (R169). -/
def haltBytes (h : HaltRecord) : List Byte := [h.raisedSource.code, h.topSource.code]

/-- The resume target (R177). -/
def targetBytes (t : Target) : List Byte := beBytes 4 t.cue ++ [byteOf t.offset]

/-- A member of the restore set (R177). -/
def restoreBytes (m : Slot × Patch) : List Byte := byteOf m.1.val :: patchBytes m.2

/-- A lane field's value. -/
def laneFieldBytes (f : LaneField) (l : Lane) : List Byte :=
  match f with
  | .enabled => boolByte l.enabled
  | .subdivision => beBytes 1 l.subdivision
  | .accent => [l.accent.code]
  | .soundSet => beBytes 1 l.soundSet
  | .lead => beBytes 2 l.lead
  | .countVoice => boolByte l.countVoice

/-- A rig-slot setting's value (TABLE 4-4). -/
def settingBytes (f : SlotSetting) (t : SlotSettings) : List Byte :=
  match f with
  | .opening => patchBytes t.opening.main ++ optPatchBytes t.opening.cover
  | .safe => patchBytes t.safe
  | .required => boolByte t.required
  | .cover => boolByte t.cover

/-- A monitor field's value (TABLE 7-3). -/
def monitorFieldBytes (f : MonitorField) (m : Monitor) : List Byte :=
  match f with
  | .source => [m.source.code]
  | .latency => beBytes 2 m.latency
  | .pairedLane => optBytes 1 (fun l => [byteOf l.val]) m.pairedLane
  | .flashMode => [m.flashMode.code]
  | .flashLength => beBytes 1 m.flashLength
  | .overlayFields => [m.fields]

/-- A rig's counter (R119). -/
def Rig.counter (r : Rig) : RigCounter → Nat
  | .superseded => r.superseded
  | .refusal => r.refusals
  | .timeout => r.timeouts
  | .invalidMessage => 0

/-! ## The value of an item -/

/-- The camera of an instance (TABLE 12-6). -/
def cameraOfInstance (i : Nat) : Camera := if i = 0 then .a else .b

/-- The value of an instance of a table of `n` entries; no value for an instance outside it. -/
def atInstance (n i : Nat) (f : Fin n → List Byte) : List Byte :=
  match idx? n i with
  | some k => f k
  | none => []

/-- The values of the items of chapters 1 to 3. -/
def Item.lowValue (item : Item) (i : Nat) (s : State) : List Byte :=
  match item with
  | .showClock => beBytes 8 s.time.clock
  | .clockSource => [s.time.source.code]
  | .wordSeen => boolByte s.time.wordSeen
  | .holdovers => beBytes 2 s.time.holdovers
  | .videoRate => beBytes 2 s.time.rate.value
  | .tempoMode => [s.tempo.mode.code]
  | .currentTempo => beBytes 2 s.tempo.current
  | .liveTempo => beBytes 2 s.tempo.live
  | .ramp => optBytes 6 rampBytes s.tempo.ramp
  | .taps => listBytes (beBytes 8) s.tempo.taps
  | .tempoClamped => flagBytes s.tempo.clamped
  | .clickState => [s.beats.click.code]
  | .currentBeat => optBytes 25 beatBytes s.beats.current
  | .nextBeat => optBytes 25 beatBytes s.beats.next
  | .meter => beBytes 1 s.beats.meter
  | .pendingMeter => optBytes 1 (beBytes 1) s.beats.pendingMeter
  | .pendingBar => optBytes 2 (beBytes 2) s.beats.pendingBar
  | .vampStack => listBytes vampBytes s.beats.vamps
  | .vampOverflow => flagBytes s.beats.overflow
  | .laneField f => atInstance 16 i fun k => laneFieldBytes f (s.clicks.lane k)
  | .laneLevel => atInstance 16 i fun k => beBytes 1 (s.clicks.lane k).level
  | .clipCounter => atInstance 16 i fun k => beBytes 2 (s.clicks.lane k).clipCount
  | .clipEntry => atInstance 16 i fun k =>
      optBytes 4 (fun c => beBytes 2 c.start ++ beBytes 2 c.length) (tget s.clicks.directory k)
  | .soundRole => atInstance 28 i fun k => optBytes 1 (fun c => [byteOf c.val]) (tget s.clicks.roles k)
  | _ => []

/-- The values of the items of chapters 4 to 6. An absent last identity is a zero byte for the text it has not (log 51). -/
def Item.middleValue (item : Item) (i : Nat) (s : State) : List Byte :=
  match item with
  | .sessionState => [s.tables.session.code]
  | .cueCount => beBytes 2 s.tables.cues.length
  | .freeCount => beBytes 2 s.tables.freeCount
  | .slotSetting f => atInstance 8 i fun k => settingBytes f (s.tables.setting k)
  | .standing => standingBytes s.pointer.standing
  | .currentCue => optBytes 4 (beBytes 4) s.pointer.current
  | .armedCue => optBytes 4 (beBytes 4) s.pointer.armed
  | .chasePending => boolByte s.pointer.chasePending
  | .startIgnored => flagBytes s.pointer.startIgnored
  | .portLink => atInstance 8 i fun p => [if (s.rigPort p).linkUp then 0 else 1]
  | .boundSlot => atInstance 8 i fun p => optBytes 1 (fun k => [byteOf k.val]) (s.rigPort p).boundSlot
  | .portFault => atInstance 8 i fun p => [if (s.rigPort p).duplicate then 1 else 0, 0]
  | .lastIdentity => atInstance 8 i fun p => optBytes 1 textBytes (s.rigPort p).identity
  | .slotName => atInstance 8 i fun k => textBytes (s.rig k).name
  | .boundPort => atInstance 8 i fun k => optBytes 1 (fun p => [byteOf p.val]) (s.rig k).boundPort
  | .rigState => atInstance 8 i fun k => [(s.rig k).state.code]
  | .appliedPatch => atInstance 8 i fun k => optPatchBytes (s.rig k).applied
  | .sustain => atInstance 8 i fun k => [sustainCode (s.rig k).sustain]
  | .heldNotes => atInstance 8 i fun k => beBytes 1 (s.rig k).held
  | .inFlight => atInstance 8 i fun k => optBytes 14 inFlightBytes (s.rig k).inFlight
  | .pendingChange => atInstance 8 i fun k => optBytes 6 pendingBytes (s.rig k).pendingChange
  | .lastBit => atInstance 8 i fun p => boolByte (s.rigPort p).bit
  | .faultReason => atInstance 8 i fun k => optBytes 1 (fun f => [f.code]) (s.rig k).fault
  | .rigCounter .invalidMessage => atInstance 8 i fun p => beBytes 2 (s.rigPort p).invalidCount
  | .rigCounter c => atInstance 8 i fun k => beBytes 2 ((s.rig k).counter c)
  | _ => []

/-- The values of the items of chapters 7 to 11. -/
def Item.highValue (item : Item) (i : Nat) (s : State) : List Byte :=
  match item with
  | .frameSlot =>
      if i < 6 then atInstance 6 i fun k => frameSlotBytes (s.picture.camA.slot k)
      else atInstance 6 (i - 6) fun k => frameSlotBytes (s.picture.camB.slot k)
  | .readyList => listBytes (fun k => [byteOf (SlotId.number ⟨cameraOfInstance i, k⟩)])
      (s.picture.cam (cameraOfInstance i)).ready
  | .cameraEnabled => boolByte (s.picture.cam (cameraOfInstance i)).enabled
  | .cameraRecord => cameraBytes (s.picture.cam (cameraOfInstance i))
  | .cameraCounter .drop => beBytes 2 (s.picture.cam (cameraOfInstance i)).drops
  | .cameraCounter .abort => beBytes 2 (s.picture.cam (cameraOfInstance i)).aborts
  | .monitorField f => atInstance 6 i fun m => monitorFieldBytes f (s.picture.monitor m)
  | .monitorFrozen => atInstance 6 i fun m => boolByte (s.picture.monitor m).frozen
  | .heldSlot => atInstance 6 i fun m => optBytes 1 (fun k => [byteOf k.number]) (s.picture.monitor m).held
  | .autoCamera => [cameraCode s.picture.auto]
  | .overlayRecord => atInstance 6 i fun m => overlayBytes (tget s.overlay.records m)
  | .stopLevel => atInstance 9 i fun k => beBytes 1 (tget s.stops.levels k)
  | .stopProfile => atInstance 9 i fun k => profileBytes (tget s.stops.profiles k)
  | .raisedFlag => atInstance 9 i fun k => boolByte (tget s.stops.raised k)
  | .relayState => [if s.stops.relayAsserted then 0 else 1]
  | .stopStack => listBytes stopRecordBytes s.stops.stack.reverse
  | .levelL => beBytes 1 s.stops.stopLevel
  | .stopState => [s.stops.state.code]
  | .runAdvisory => boolByte s.stops.runAdvisory
  | .haltRecord => optBytes 2 haltBytes s.stops.halt
  | .holdOffCount => beBytes 1 s.stops.holdOff
  | .displacedCount => beBytes 2 s.stops.displaced
  | .resumeTarget => optBytes 5 targetBytes s.resume.target
  | .mdReadyFlag => boolByte s.resume.mdReady
  | .restoreSet => listBytes restoreBytes s.resume.restoreSet
  | .resumeCountIn => beBytes 1 s.resume.countIn
  | .presence => atInstance 4 i fun p => [if (s.port p).active then 1 else 0]
  | .portRole => atInstance 4 i fun p => optBytes 1 (fun r => [r.code]) (s.port p).role
  | .noticeMask => atInstance 4 i fun p => [(s.port p).mask]
  | .pendingSet => atInstance 4 i fun p => [(s.port p).pendingSet]
  | .noticeOutstanding => atInstance 4 i fun p => boolByte (s.port p).outstanding
  | .badFrames => atInstance 4 i fun p => beBytes 2 (s.port p).badFrames
  | _ => []

/-- The value of an instance of an item, as a READ returns it (R195, R202). The items of the three parts of the
catalogue are disjoint, and an item gives no bytes outside its own part. -/
def Item.value (item : Item) (i : Nat) (s : State) : List Byte :=
  item.lowValue i s ++ item.middleValue i s ++ item.highValue i s

end Sys2Proof.Machine
end

