-- ==== Sys2Proof/Machine/ItemWrites.lean ====
section
/-!
DEFINITION. The writes of the items: the owner's rule for each writable item (order 3 of R196), and the one operation
that carries out an item request with its checks (R190, R195, R196).
-/

namespace Sys2Proof.Machine

/-! ## Shared forms -/

/-- A write that its owner refuses FROZEN while the session is SHOW (R196). -/
def unlessShow (act : Answer) (s : State) : Answer := if s.inShow then refuse .frozen s else act

/-- A value that must decode and be in range (R196, R202). -/
def inRange {α : Type} (value : Option α) (s : State) (act : α → Answer) : Answer :=
  match value with
  | some a => act a
  | none => refuse .range s

/-- A SWAP of a count: zero resets it, any other value is refused RANGE (class reset of TABLE 12-6). -/
def resetCount (bytes : List Byte) (s t : State) : Answer :=
  match payload2 bytes with
  | some 0 => accept t
  | _ => refuse .range s

/-- An instance of a table of `n` entries; order 4 of R190 has refused any other. -/
def withInstance (n i : Nat) (s : State) (act : Fin n → Answer) : Answer :=
  match idx? n i with
  | some k => act k
  | none => refuse .range s

/-! ## Timebase and tempo -/

/-- A change of the video rate restarts the accumulator at the sample that follows the write (R8). -/
def Timebase.setRate (r : VideoRate) (t : Timebase) : Timebase :=
  if t.rate = r then t else { t with rate := r, tickPos := q16OfSample (t.clock + 1) }

/-- A write of the video rate (R7). -/
def writeVideoRate (bytes : List Byte) (s : State) : Answer :=
  unlessShow (inRange ((payload2 bytes).bind VideoRate.ofValue) s fun r =>
    accept { s with time := s.time.setRate r }) s

/-- A SWAP of live_tempo, carried out as a SET TEMPO (R206). -/
def writeLiveTempo (bytes : List Byte) (s : State) : Answer :=
  inRange (payload2 bytes) s fun v => acceptIf (outOfTempo v) (setTempoState (s.tempo.setTempo v) s)

/-- A write of a sticky flag: `cleared` is the state with the flag clear (R10). -/
def writeSticky (op : FlagOp) (bytes : List Byte) (cleared s : State) : Answer :=
  match stickyWrite op bytes with
  | .outOfRange => refuse .range s
  | .clears => accept cleared
  | .keeps => accept s

/-- A write of TEMPO_CLAMPED (R10). -/
def writeTempoClamped (op : FlagOp) (bytes : List Byte) (s : State) : Answer :=
  writeSticky op bytes (setTempoState { s.tempo with clamped := false } s) s

/-- A write of VAMP_OVERFLOW (R34). -/
def writeVampOverflow (op : FlagOp) (bytes : List Byte) (s : State) : Answer :=
  writeSticky op bytes { s with beats := { s.beats with overflow := false } } s

/-- A write of START_IGNORED (R88). -/
def writeStartIgnored (op : FlagOp) (bytes : List Byte) (s : State) : Answer :=
  writeSticky op bytes { s with pointer := { s.pointer with startIgnored := false } } s

/-! ## Lanes and sound sets -/

/-- The greatest lead and the level of MUTE (TABLE 3-1). -/
def leadMax : Nat := 4800
def levelMute : Nat := 64

/-- A lane with a field written, and whether the value was clamped; none where it is out of range (R41, R42). -/
def Lane.write (f : LaneField) (bytes : List Byte) (l : Lane) : Option (Lane × Bool) :=
  match f with
  | .enabled => (whole rdBool bytes).map fun b => ({ l with enabled := b }, false)
  | .subdivision =>
    (payload1 bytes).bind fun n => if [1, 2, 3, 4, 6].contains n then some ({ l with subdivision := n }, false) else none
  | .accent => (whole (rdEnum Accent.ofCode) bytes).map fun a => ({ l with accent := a }, false)
  | .soundSet => (payload1 bytes).bind fun n => if n ≤ 3 then some ({ l with soundSet := n }, false) else none
  | .lead => (payload2 bytes).map fun n => ({ l with lead := min n leadMax }, decide (leadMax < n))
  | .countVoice => (whole rdBool bytes).map fun b => ({ l with countVoice := b }, false)

/-- A lane's record is replaced, with the TABLE kind made pending where it changes (R41). -/
def putLane (k : LaneNo) (l : Lane) (s : State) : State :=
  notifyIf (s.clicks.lane k != l) .table { s with clicks := s.clicks.setLane k l }

/-- A write of a lane field (R41, R42). -/
def writeLaneField (f : LaneField) (k : LaneNo) (bytes : List Byte) (s : State) : Answer :=
  unlessShow (inRange ((s.clicks.lane k).write f bytes) s fun lc => acceptIf lc.2 (putLane k lc.1 s)) s

/-- A write of a lane level (R42). -/
def writeLaneLevel (k : LaneNo) (bytes : List Byte) (s : State) : Answer :=
  inRange (payload1 bytes) s fun n =>
    acceptIf (levelMute < n) (putLane k { s.clicks.lane k with level := min n levelMute } s)

/-- A reset of a clip counter (R54). -/
def writeClipCounter (k : LaneNo) (bytes : List Byte) (s : State) : Answer :=
  resetCount bytes s { s with clicks := s.clicks.setLane k { s.clicks.lane k with clipCount := 0 } }

/-- The clip of a sound-set role from a value: none where it names a clip above 15 (R45). -/
def clipChoice (bytes : List Byte) : Option (Option (Fin 16)) :=
  (whole (rdOpt rd1) bytes).bind fun c =>
    match c with
    | none => some none
    | some n => (idx? 16 n).map some

/-- A write of a role of a sound set (R45). -/
def writeSoundRole (i : Fin 28) (bytes : List Byte) (s : State) : Answer :=
  unlessShow (inRange (clipChoice bytes) s fun c =>
    accept (notifyIf (tget s.clicks.roles i != c) .table
      { s with clicks := { s.clicks with roles := tput s.clicks.roles i c } })) s

/-! ## Rig slots -/

/-- A patch in range: bank and program at most 127, scene at most 15 (R60, R69). -/
def Patch.valid (p : Patch) : Bool := p.bank ≤ 127 && p.program ≤ 127 && p.scene ≤ 15

/-- A pair whose patches are in range. -/
def PatchPair.valid (p : PatchPair) : Bool :=
  p.main.valid && (match p.cover with
    | some c => c.valid
    | none => true)

/-- A pair as an opening patch carries it (TABLE 12-6). -/
def rdPair : Reader PatchPair := fun bs => do
  let (main, bs) ← rdPatch bs
  let (cover, bs) ← rdOpt rdPatch bs
  return ({ main, cover }, bs)

/-- The settings of a slot with one written; none where the value is out of range (R69). -/
def SlotSettings.write (f : SlotSetting) (bytes : List Byte) (t : SlotSettings) : Option SlotSettings :=
  match f with
  | .opening => (whole rdPair bytes).bind fun p => if p.valid then some { t with opening := p } else none
  | .safe => (whole rdPatch bytes).bind fun p => if p.valid then some { t with safe := p } else none
  | .required => (whole rdBool bytes).map fun b => { t with required := b }
  | .cover => (whole rdBool bytes).map fun b => { t with cover := b }

/-- A write of a rig-slot setting (R69). -/
def writeSlotSetting (f : SlotSetting) (k : Slot) (bytes : List Byte) (s : State) : Answer :=
  unlessShow (inRange ((s.tables.setting k).write f bytes) s fun t =>
    accept (notifyIf (s.tables.setting k != t) .table
      { s with tables := { s.tables with settings := tput s.tables.settings k t } })) s

/-- Does another slot hold a non-empty name? (R97) -/
def nameTaken (k : Slot) (name : Text) (s : State) : Bool :=
  name != [] && allSlots.any fun j => j != k && (s.rig j).name == name

/-- A write of a slot's name (R97). -/
def writeSlotName (k : Slot) (bytes : List Byte) (s : State) : Answer :=
  unlessShow (inRange ((whole (rdText 16) bytes).bind fun t => if isDeskText t then some t else none) s fun name =>
    if nameTaken k name s then refuse .duplicate s
    else accept (notifyIf ((s.rig k).name != name) .rig
      { s with rigs := { s.rigs with slots := tput s.rigs.slots k { s.rig k with name := name } } })) s

/-- A rig's or a rig port's counter reset (R119). -/
def clearRigCounter (c : RigCounter) (k : Fin 8) (s : State) : State :=
  let slots (r : Rig) : State := { s with rigs := { s.rigs with slots := tput s.rigs.slots k r } }
  match c with
  | .superseded => slots { s.rig k with superseded := 0 }
  | .refusal => slots { s.rig k with refusals := 0 }
  | .timeout => slots { s.rig k with timeouts := 0 }
  | .invalidMessage => { s with rigs := { s.rigs with ports := tput s.rigs.ports k { s.rigPort k with invalidCount := 0 } } }

/-! ## Cameras and monitors -/

/-- A write of a camera's enabled item (R122). -/
def writeCameraEnabled (k : Camera) (bytes : List Byte) (s : State) : Answer :=
  unlessShow (inRange (whole rdBool bytes) s fun b =>
    let c := s.picture.cam k
    if c.enabled = b then accept s
    else
      let c := if b then c.enable else c.disable
      accept (reviewCameras (notify .table (notify .camera { s with picture := s.picture.setCam k c })))) s

/-- A camera's counter reset (R137). -/
def clearCameraCounter (c : CameraCounter) (k : Camera) (s : State) : State :=
  let r := s.picture.cam k
  { s with picture := s.picture.setCam k (match c with
    | .drop => { r with drops := 0 }
    | .abort => { r with aborts := 0 }) }

/-- The greatest display latency (TABLE 7-3), and the bits that name an overlay field. -/
def latencyMax : Nat := 9600
def overlayFieldBits : BitVec 8 := 0x3F

/-- The paired lane of a value: none where it names a lane above 15 (R131). -/
def laneChoice (bytes : List Byte) : Option (Option LaneNo) :=
  (whole (rdOpt rd1) bytes).bind fun c =>
    match c with
    | none => some none
    | some n => (idx? 16 n).map some

/-- A monitor with a field written, and whether the value was clamped; none where it is out of range (R131). The empty overlay
field set is in range (log 48). -/
def Monitor.write (f : MonitorField) (op : FlagOp) (bytes : List Byte) (m : Monitor) : Option (Monitor × Bool) :=
  match f with
  | .source => (whole (rdEnum MonitorSource.ofCode) bytes).map fun v => ({ m with source := v }, false)
  | .latency => (payload2 bytes).map fun n => ({ m with latency := min n latencyMax }, decide (latencyMax < n))
  | .pairedLane => (laneChoice bytes).map fun v => ({ m with pairedLane := v }, false)
  | .flashMode => (whole (rdEnum FlashMode.ofCode) bytes).map fun v => ({ m with flashMode := v }, false)
  | .flashLength =>
    (payload1 bytes).bind fun n => if 1 ≤ n ∧ n ≤ 4 then some ({ m with flashLength := n }, false) else none
  | .overlayFields => (flagWrite overlayFieldBits m.fields op bytes).map fun v => ({ m with fields := v }, false)

/-- A write of a flash mode to OFF, or a change of it, removes the flash target and ends the flash (R144). -/
def Overlay.modeWritten (i : Fin 6) (old new : FlashMode) (o : Overlay) : Overlay :=
  if new = .off ∨ old ≠ new then
    { o with flashes := tput o.flashes i { tget o.flashes i with target := none, ticks := 0 } }
  else o

/-- A write of a monitor field (R131, R144). -/
def writeMonitor (f : MonitorField) (op : FlagOp) (i : Fin 6) (bytes : List Byte) (s : State) : Answer :=
  inRange ((s.picture.monitor i).write f op bytes) s fun mc =>
    let overlay := match f with
      | .flashMode => s.overlay.modeWritten i (s.picture.monitor i).flashMode mc.1.flashMode
      | _ => s.overlay
    acceptIf mc.2 (notifyIf (s.picture.monitor i != mc.1) .table
      { s with picture := s.picture.setMonitor i mc.1, overlay := overlay })

/-! ## Stops -/

/-- A write of a stop level (R153). -/
def writeStopLevel (i : Fin 9) (bytes : List Byte) (s : State) : Answer :=
  if i.val ≤ 4 then refuse .readOnly s
  else unlessShow (inRange (payload1 bytes) s fun n =>
    let level := min n Config.stopLevelMax
    acceptIf (Config.stopLevelMax < n) (notifyIf (tget s.stops.levels i != level) .table
      { s with stops := { s.stops with levels := tput s.stops.levels i level } })) s

/-- A profile as its item carries it. -/
def rdProfile : Reader Profile := fun bs => do
  let (click, bs) ← rdEnum ClickProfile.ofCode bs
  let (rigs, bs) ← rdEnum RigsProfile.ofCode bs
  let (video, bs) ← rdEnum VideoProfile.ofCode bs
  return ({ click, rigs, video }, bs)

/-- A write of a stop profile, whole (R153). -/
def writeStopProfile (i : Fin 9) (bytes : List Byte) (s : State) : Answer :=
  if i.val ≤ 2 then refuse .readOnly s
  else unlessShow (inRange (whole rdProfile bytes) s fun p =>
    accept (notifyIf (tget s.stops.profiles i != p) .table
      { s with stops := { s.stops with profiles := tput s.stops.profiles i p } })) s

/-- A write of the hold-off item (R168); a write that makes the count 0 is followed by a sampling (R158). -/
def writeHoldOff (bytes : List Byte) (s : State) : Answer :=
  inRange (payload1 bytes) s fun n =>
    if n = 0 then accept (sample false (setHoldOff 0 s))
    else if s.stops.holdOff = 0 then refuse .inactive s
    else acceptIf (Config.holdOffMax < n) (setHoldOff (min n Config.holdOffMax) s)

/-- A reset of the displaced count (R161). -/
def writeDisplaced (bytes : List Byte) (s : State) : Answer :=
  resetCount bytes s { s with stops := { s.stops with displaced := 0 } }

/-- A write of the resume count-in (R184). -/
def writeResumeCountIn (bytes : List Byte) (s : State) : Answer :=
  inRange ((payload1 bytes).bind fun n => if n = 1 ∨ n = 2 then some n else none) s fun n =>
    accept (notifyIf (s.resume.countIn != n) .table { s with resume := { s.resume with countIn := n } })

/-! ## Desk ports -/

/-- A port with its notice mask written: the kinds that leave the mask leave the pending set (R197). -/
def DeskPortRec.setMask (m : BitVec 8) (d : DeskPortRec) : DeskPortRec :=
  { d with mask := m, pendingSet := d.pendingSet &&& m }

/-- A write of a port's notice mask (R197). -/
def writeNoticeMask (op : FlagOp) (p : DeskPort) (bytes : List Byte) (s : State) : Answer :=
  inRange (flagWrite allKinds (s.port p).mask op bytes) s fun m => accept (s.setPort p ((s.port p).setMask m))

/-- A reset of a port's bad-frame count (R199). -/
def writeBadFrames (p : DeskPort) (bytes : List Byte) (s : State) : Answer :=
  resetCount bytes s (s.setPort p { s.port p with badFrames := 0 })

/-! ## Item requests -/

/-- The owner's rule for a write of an instance of an item (order 3 of R196). -/
def Item.store (item : Item) (op : FlagOp) (i : Nat) (bytes : List Byte) (s : State) : Answer :=
  match item with
  | .videoRate => writeVideoRate bytes s
  | .liveTempo => writeLiveTempo bytes s
  | .tempoClamped => writeTempoClamped op bytes s
  | .vampOverflow => writeVampOverflow op bytes s
  | .startIgnored => writeStartIgnored op bytes s
  | .laneField f => withInstance 16 i s fun k => writeLaneField f k bytes s
  | .laneLevel => withInstance 16 i s fun k => writeLaneLevel k bytes s
  | .clipCounter => withInstance 16 i s fun k => writeClipCounter k bytes s
  | .soundRole => withInstance 28 i s fun k => writeSoundRole k bytes s
  | .slotSetting f => withInstance 8 i s fun k => writeSlotSetting f k bytes s
  | .slotName => withInstance 8 i s fun k => writeSlotName k bytes s
  | .rigCounter c => withInstance 8 i s fun k => resetCount bytes s (clearRigCounter c k s)
  | .cameraEnabled => writeCameraEnabled (cameraOfInstance i) bytes s
  | .cameraCounter c => resetCount bytes s (clearCameraCounter c (cameraOfInstance i) s)
  | .monitorField f => withInstance 6 i s fun k => writeMonitor f op k bytes s
  | .stopLevel => withInstance 9 i s fun k => writeStopLevel k bytes s
  | .stopProfile => withInstance 9 i s fun k => writeStopProfile k bytes s
  | .holdOffCount => writeHoldOff bytes s
  | .displacedCount => writeDisplaced bytes s
  | .resumeCountIn => writeResumeCountIn bytes s
  | .noticeMask => withInstance 4 i s fun k => writeNoticeMask op k bytes s
  | .badFrames => withInstance 4 i s fun k => writeBadFrames k bytes s
  | _ => refuse .readOnly s

/-- Does the rest of an item request have the form its operation requires? (TABLE 12-2) -/
def opFormOk : ItemOp → List Byte → Bool
  | .read, rest => rest == []
  | .swap, _ => true
  | .set, rest => rest.length == 1
  | .clear, rest => rest.length == 1

/-- Is an operation a SET or a CLEAR? -/
def opIsMask : ItemOp → Bool
  | .set | .clear => true
  | _ => false

/-- The write that an operation makes; none for a READ and for a SET or CLEAR with a zero mask (R195). -/
def opWrite : ItemOp → List Byte → Option FlagOp
  | .read, _ => none
  | .swap, _ => some .swap
  | .set, rest => if rest = [0] then none else some .set
  | .clear, rest => if rest = [0] then none else some .clear

/-- The operation of a write. -/
def opOfFlag : FlagOp → ItemOp
  | .swap => .swap
  | .set => .set
  | .clear => .clear

/-- May a port write an instance of an item? (order 2 of R196) -/
def Item.mayWrite (item : Item) (port : DeskPort) (i : Nat) (s : State) : Bool :=
  match item.writers with
  | .roles l => holds l (s.port port)
  | .ownPort => port.val == i

/-- The reply of a write: an accepted or clamped write returns the old value, a refused one returns none (R196). -/
def Answer.withOld (old : List Byte) (a : Answer) : Answer :=
  match a.reply.code with
  | .ok | .clamped => ⟨⟨a.reply.code, old⟩, a.state⟩
  | _ => a

/-- An item request of an existing item, from order 2 of R190 on: the form, the instance, a SET or CLEAR of an item that
is no flag item, then the value of a pure read or the checks of a write (R195, R196). -/
def Item.operate (item : Item) (op : ItemOp) (port : DeskPort) (i : Nat) (rest : List Byte) (s : State) : Answer :=
  if !opFormOk op rest then refuse .range s
  else if item.instances ≤ i ∨ (opIsMask op && !item.isFlag) then refuse .range s
  else
    match opWrite op rest with
    | none => acceptWith (item.value i s) s
    | some w =>
      if item.writers = Writers.roles [] then refuse .readOnly s
      else if !item.mayWrite port i s then refuse .noRight s
      else (item.store w i rest s).withOld (item.value i s)

/-- An item request on a port (R189, R195). -/
def itemRequest (item : Item) (op : ItemOp) (r : Req) (i : Byte) (rest : List Byte) (s : State) : State :=
  request r (fun s => item.operate op r.port i.toNat rest s) s

/-- The outcome of an item request whose item is named by its payload (R190): a payload too short for an item and an
instance, or of another form than its operation's, is refused at order 2, and an unknown item number at order 3. -/
def operatePayload (op : ItemOp) (port : DeskPort) (payload : List Byte) (s : State) : Answer :=
  match payload with
  | n₁ :: n₀ :: i :: rest =>
    if !opFormOk op rest then refuse .range s
    else
      match Item.ofNumber (n₁.toNat * 256 + n₀.toNat) with
      | some item => item.operate op port i.toNat rest s
      | none => refuse .unknownCode s
  | _ => refuse .range s

end Sys2Proof.Machine
end

