-- ==== Sys2Proof/Machine/Beats.lean ====
section
/-!
DEFINITION. The commands of the Beat Scheduler (chapter 2): the commit, its outcomes that have rows of their own, the
onset, the end of FINISHING, RELEASE and the clearing of VAMP_OVERFLOW.
-/

namespace Sys2Proof.Machine

/-- Is a slot's pending change a CUE due AT_RELEASE with no force bars remaining? (R112) -/
def Rig.forceNext (r : Rig) : Bool :=
  match r.pendingChange with
  | some ⟨_, .cue, .atRelease 0⟩ => true
  | _ => false

/-- The show clock has reached a bar-start commit that is announced (R22, R27). -/
def State.barStartDue (s : State) : Bool := s.commitDue && s.beats.barStartNext && !s.beats.discardsNext

/-- The owner's decision of a RELEASE (R37). -/
def ownRelease (s : State) : Answer :=
  match s.beats.vamps with
  | [] => refuse .noVamp s
  | v :: outer =>
    match v.kind with
    | .repeated => refuse .noVamp s
    | .opened =>
      if v.released then accept s
      else accept (notify .cue { s with beats := { s.beats with vamps := { v with released := true } :: outer } })

/-- BEAT_COMMIT (R22, R23, R27). -/
def execBeatCommit (s : State) : Result := .next (beatCommit s)

/-- FORCE_DUE (R112): the bar-start commit at which the deferred CUE change of a slot becomes due NOW. It is that commit,
taken where the slot has such a change (log 4). -/
def execForceDue (slot : Slot) (s : State) : Result :=
  if s.barStartDue && (s.rig slot).forceNext then .next (beatCommit s) else .next s

/-- CUE_BANNER_EXPIRY (R146): the bar-start commit at which the cue banner becomes absent. It is that commit, taken where
it has that outcome (log 4). -/
def execCueBannerExpiry (s : State) : Result :=
  let t := beatCommit s
  if s.overlay.banner.isSome ∧ t.overlay.banner = none then .next t else .next s

/-- BEAT_ONSET (R24): the show clock has reached NEXT's onset. -/
def execBeatOnset (s : State) : Result :=
  match s.beats.next with
  | some n => if q16Sample n.onset ≤ s.now then .next { s with beats := s.beats.takeOnset } else .next s
  | none => .next s

/-- FINISHING_END (R27, R83). -/
def execFinishingEnd (s : State) : Result := .next (finishingEnd s)

/-- RELEASE (R37). -/
def execRelease (r : Req) (payload : List Byte) (s : State) : Result :=
  .next (command r [.md] payloadNone payload (fun _ => ownRelease) s)

/-- VAMP_OVERFLOW_CLEAR (R34). -/
def execVampOverflowClear (r : Req) (op : FlagOp) (inst : Byte) (value : List Byte) (s : State) : Result :=
  .next (itemRequest .vampOverflow (opOfFlag op) r inst value s)

end Sys2Proof.Machine
end

