-- ==== Sys2Proof/Machine/Cameras.lean ====
section
/-!
DEFINITION. The commands of the Picture Controller (chapter 7): the frame events of a camera, its expiry, the writes of a
camera and of a monitor.
-/

namespace Sys2Proof.Machine

/-- A camera's record is replaced; where its state changes, the CAMERA kind becomes pending and CAMERA_LOST follows (R122,
R130). -/
def putCamera (k : Camera) (c : CameraRec) (s : State) : State :=
  let changed := (s.picture.cam k).state != c.state
  let s := notifyIf changed .camera { s with picture := s.picture.setCam k c }
  if changed then reviewCameras s else s

/-- Is a frame open on an enabled camera? (R124, R125) -/
def CameraRec.inFrame (c : CameraRec) : Bool := c.enabled && c.frameOpen

/-- Has an OK camera's expiry come? (R128) -/
def CameraRec.expired (rate : VideoRate) (now : Nat) (c : CameraRec) : Bool :=
  c.state == .ok && c.lastStart + expiryInterval rate.period ≤ now

/-- FRAME_START (R123). -/
def execFrameStart (camera : Camera) (s : State) : Result :=
  let c := s.picture.cam camera
  .next (if c.enabled then putCamera camera (c.start s.now) s else s)

/-- FRAME_END (R124, R127, R129). -/
def execFrameEnd (camera : Camera) (s : State) : Result :=
  let c := s.picture.cam camera
  .next (if c.inFrame then putCamera camera c.finish s else s)

/-- FRAME_ABORT (R125). -/
def execFrameAbort (camera : Camera) (s : State) : Result :=
  let c := s.picture.cam camera
  .next (if c.inFrame then putCamera camera c.abort s else s)

/-- CAMERA_EXPIRY (R128, R130). -/
def execCameraExpiry (camera : Camera) (s : State) : Result :=
  let c := s.picture.cam camera
  .next (if c.expired s.time.rate s.now then putCamera camera c.expire s else s)

/-- CAMERA_ENABLE_WRITE (R122). -/
def execCameraEnableWrite (r : Req) (inst : Byte) (value : List Byte) (s : State) : Result :=
  .next (itemRequest .cameraEnabled .swap r inst value s)

/-- CAMERA_COUNTER_RESET (R137). -/
def execCameraCounterReset (r : Req) (counter : CameraCounter) (inst : Byte) (value : List Byte) (s : State) : Result :=
  .next (itemRequest (.cameraCounter counter) .swap r inst value s)

/-- MONITOR_WRITE (R131). -/
def execMonitorWrite (r : Req) (field : MonitorField) (op : FlagOp) (inst : Byte) (value : List Byte) (s : State) :
    Result :=
  .next (itemRequest (.monitorField field) (opOfFlag op) r inst value s)

end Sys2Proof.Machine
end

