-- ==== Sys2Proof/Machine/CueList.lean ====
section
/-!
DEFINITION. The commands over the cue list and the rig-slot settings (chapter 4): insert, replace, delete, clear, the
reads of a cue and of a chase, and the settings of a slot.
-/

namespace Sys2Proof.Machine

/-! ## The checks of R59 and R60 -/

/-- Does an optional number lie between bounds, where it is present? -/
def optWithin (low high : Nat) : Option Nat → Bool
  | none => true
  | some n => low ≤ n && n ≤ high

/-- A tempo of a cue, 2,000 to 30,000 (TABLE 4-1). -/
def cueTempo (t : Nat) : Bool := Config.tempoMin ≤ t && t ≤ Config.tempoMax

/-- A tempo spec in range. -/
def TempoSpec.valid : TempoSpec → Bool
  | .keep | .live => true
  | .fixed t => cueTempo t
  | .ramp t n => cueTempo t && 1 ≤ n && n ≤ 64

/-- A click action in range. -/
def ClickAction.valid : ClickAction → Bool
  | .start n => n ≤ 2
  | _ => true

/-- A vamp in range. -/
def VampSpec.valid (v : VampSpec) : Bool :=
  1 ≤ v.length && v.length ≤ 16 &&
  (match v.kind, v.passes with
    | .opened, none => true
    | .repeated, some n => 2 ≤ n && n ≤ 8
    | _, _ => false)

/-- A change entry in range (R60). -/
def ChangeEntry.valid (e : ChangeEntry) : Bool := e.slot ≤ 7 && e.pair.valid && e.forceLimit ≤ 4

/-- No two entries name the same slot. -/
def distinctSlots : List ChangeEntry → Bool
  | [] => true
  | e :: l => l.all (fun f => f.slot != e.slot) && distinctSlots l

/-- A banner in range. -/
def BannerSpec.valid (b : BannerSpec) : Bool :=
  1 ≤ b.duration && b.duration ≤ 8 && b.text.length ≤ 24 && isDeskText b.text

/-- A video action in range. -/
def VideoAction.valid (v : VideoAction) : Bool :=
  (v.camera.isSome || v.banner.isSome) &&
  (match v.banner with
    | some b => b.valid
    | none => true)

/-- Every field of a cue record lies within TABLE 4-1 (R59). -/
def Cue.valid (c : Cue) : Bool :=
  1 ≤ c.number && c.number ≤ Config.cueNumberMax &&
  c.label.length ≤ 12 && isDeskText c.label &&
  optWithin 1 Config.barMax c.scoreBar && c.tempo.valid && optWithin 1 15 c.meter && c.click.valid &&
  (match c.vamp with
    | some v => v.valid
    | none => true) &&
  c.changes.length ≤ 8 && c.changes.all ChangeEntry.valid && distinctSlots c.changes &&
  (match c.video with
    | some v => v.valid
    | none => true)

/-! ## The edits -/

/-- An entry joins a change list in ascending slot order (R59). -/
def insertChange (e : ChangeEntry) : List ChangeEntry → List ChangeEntry
  | [] => [e]
  | f :: l => if e.slot ≤ f.slot then e :: f :: l else f :: insertChange e l

/-- A cue as it is stored: its change list in ascending slot order (R59). -/
def Cue.stored (c : Cue) : Cue := { c with changes := c.changes.foldr insertChange [] }

/-- A cue joins the list at the place its number gives (R61). -/
def insertCue (c : Cue) : List Cue → List Cue
  | [] => [c]
  | d :: l => if c.number < d.number then c :: d :: l else d :: insertCue c l

/-- The cue list is replaced, with the TABLE kind made pending (R63). -/
def setCues (cues : List Cue) (s : State) : State := notify .table { s with tables := { s.tables with cues := cues } }

/-- The owner's decision of a CUE INSERT (TABLE 4-3, R64). -/
def ownCueInsert (c : Cue) (s : State) : Answer :=
  if s.inShow then refuse .frozen s
  else if !c.valid then refuse .range s
  else if (s.tables.find c.number).isSome then refuse .duplicate s
  else if Config.cueCapacity ≤ s.tables.cues.length then refuse .full s
  else if s.tables.freeCount < c.changes.length then refuse .poolFull s
  else accept (setCues (insertCue c.stored s.tables.cues) s)

/-- The owner's decision of a CUE REPLACE (TABLE 4-3, R65). -/
def ownCueReplace (c : Cue) (s : State) : Answer :=
  if s.inShow then refuse .frozen s
  else if !c.valid then refuse .range s
  else
    match s.tables.find c.number with
    | none => refuse .noCue s
    | some old =>
      if s.tables.freeCount + old.changes.length < c.changes.length then refuse .poolFull s
      else accept (setCues (s.tables.cues.map fun d => if d.number = c.number then c.stored else d) s)

/-- The owner's decision of a CUE DELETE (TABLE 4-3, R66). -/
def ownCueDelete (n : Nat) (s : State) : Answer :=
  if s.inShow then refuse .frozen s
  else if (s.tables.find n).isNone then refuse .noCue s
  else accept (setCues (s.tables.cues.filter fun d => d.number != n) s)

/-- The owner's decision of a TABLE CLEAR (R67). -/
def ownTableClear (s : State) : Answer := if s.inShow then refuse .frozen s else accept (setCues [] s)

/-- The owner's decision of a CUE READ (R68). -/
def ownCueRead (q : Nat × ReadDirection) (s : State) : Answer :=
  if Config.cueNumberMax < q.1 then refuse .range s
  else
    match (match q.2 with
      | .at => s.tables.find q.1
      | .after => s.tables.after q.1) with
    | some c => acceptWith (cueBytes c) s
    | none => refuse .noCue s

/-- The owner's decision of a CHASE READ (R73). -/
def ownChaseRead (n : Nat) (s : State) : Answer :=
  if Config.cueNumberMax < n then refuse .range s
  else if n = 0 then acceptWith (s.tables.chaseBytes .first) s
  else if (s.tables.find n).isSome then acceptWith (s.tables.chaseBytes (.cue n)) s
  else refuse .noCue s

/-! ## The commands -/

/-- CUE_INSERT (R64). -/
def execCueInsert (r : Req) (payload : List Byte) (s : State) : Result :=
  .next (command r [.prog] payloadCue payload ownCueInsert s)

/-- CUE_REPLACE (R65). -/
def execCueReplace (r : Req) (payload : List Byte) (s : State) : Result :=
  .next (command r [.prog] payloadCue payload ownCueReplace s)

/-- CUE_DELETE (R66). -/
def execCueDelete (r : Req) (payload : List Byte) (s : State) : Result :=
  .next (command r [.prog] payload4 payload ownCueDelete s)

/-- TABLE_CLEAR (R67). -/
def execTableClear (r : Req) (payload : List Byte) (s : State) : Result :=
  .next (command r [.prog] payloadNone payload (fun _ => ownTableClear) s)

/-- CUE_READ (R68). -/
def execCueRead (r : Req) (payload : List Byte) (s : State) : Result :=
  .next (openCommand r payloadCueRead payload ownCueRead s)

/-- CHASE_READ (R73). -/
def execChaseRead (r : Req) (payload : List Byte) (s : State) : Result :=
  .next (openCommand r payload4 payload ownChaseRead s)

/-- RIG_SLOT_SETTING_WRITE (R69). -/
def execRigSlotSettingWrite (r : Req) (setting : SlotSetting) (inst : Byte) (value : List Byte) (s : State) : Result :=
  .next (itemRequest (.slotSetting setting) .swap r inst value s)

end Sys2Proof.Machine
end

