-- ==== Sys2Proof/Machine/Desk.lean ====
section
/-!
DEFINITION. The commands of the Desk Interface (chapter 11): frames that are no requests, requests turned away, replies
and notices sent, roles, resets and losses of a port, and READ.
-/

namespace Sys2Proof.Machine

/-! ## Roles and losses -/

/-- The condition source of a role that is lost (R193). -/
def lossSource : Role → Option StopSource
  | .sm => some .smLost
  | .md => some .mdLost
  | _ => none

/-- The role table changes (R191). -/
def setRole (p : DeskPort) (role : Option Role) (s : State) : State :=
  notify .table (s.setPort p { s.port p with role := role })

/-- The role of a port that is lost is released, with the condition and the clearing of md_ready that follow (R192, R193).
-/
def loseRole (p : DeskPort) (s : State) : State :=
  match (s.port p).role with
  | none => s
  | some role =>
    let s := setRole p none s
    let s := if s.inShow then
        (match lossSource role with
          | some i => raiseCondition i s
          | none => s)
      else s
    if role = .md then clearMdReady s else s

/-- A port's record after a loss (R192). -/
def DeskPortRec.lost (d : DeskPortRec) : DeskPortRec :=
  { d with
    active := false, inProgress := none, waitingBusy := none, pendingSet := 0, outstanding := false }

/-- A port is lost (R192). -/
def losePort (p : DeskPort) (s : State) : State :=
  let s := loseRole p s
  s.setPort p (s.port p).lost

/-- The owner's decision of a CLAIM ROLE (R191, R193). -/
def ownClaim (p : DeskPort) (role : Role) (s : State) : Answer :=
  if (holderOf role s).isSome || (s.port p).role.isSome then refuse .held s
  else
    let s := setRole p (some role) s
    accept (match lossSource role with
      | some i => lowerCondition i s
      | none => s)

/-- The owner's decision of a RELEASE ROLE (R191). -/
def ownReleaseRole (p : DeskPort) (s : State) : Answer :=
  match (s.port p).role with
  | none => accept s
  | some role =>
    let s := setRole p none s
    accept (if role = .md then clearMdReady s else s)

/-- The owner's decision of a RESET PORT (R194). -/
def ownResetPort (p : DeskPort) (s : State) : Answer :=
  let s := losePort p s
  accept (s.setPort p { s.port p with mask := allKinds, active := true, presentAt := s.now })

/-- A port after a line break (R188): a frame whose sending the break interrupts is discarded, a frame being received is
lost, and the mask is restored. -/
def DeskPortRec.broken (d : DeskPortRec) : DeskPortRec := { d with tx := none, rx := [], mask := allKinds, active := false }

/-! ## Frames sent -/

/-- A port after the last character of a reply (R189). -/
def DeskPortRec.replyDone (d : DeskPortRec) : DeskPortRec :=
  match d.tx with
  | some ⟨.reply, _⟩ =>
    { d with tx := none, inProgress := d.inProgress.bind fun q => if q.begun then none else some q }
  | some ⟨.busy, _⟩ => { d with tx := none }
  | _ => d

/-- A port after the last character of a NOTICE (R189). -/
def DeskPortRec.noticeDone (d : DeskPortRec) : DeskPortRec :=
  match d.tx with
  | some ⟨.notice, _⟩ => { d with tx := none }
  | _ => d

/-- May a port begin a NOTICE? (R198): its transmitter is free, and no reply waits for it. -/
def DeskPortRec.mayNotice (d : DeskPortRec) : Bool :=
  d.active && d.pendingSet != 0 && !d.outstanding && d.choose.tx == none

/-- A port that has begun a NOTICE (R198). -/
def DeskPortRec.beginNotice (d : DeskPortRec) : DeskPortRec :=
  { d with outstanding := true, tx := some ⟨.notice, noticeFrame d.pendingSet⟩ }

/-- A port after a NOTICE ACK of a set of kinds (R198). -/
def DeskPortRec.ackNotice (kinds : BitVec 8) (d : DeskPortRec) : DeskPortRec :=
  { d with pendingSet := d.pendingSet &&& ~~~kinds, outstanding := false }

/-! ## The commands -/

/-- DESK_STRAY_FRAME (R187): a valid REPLY or NOTICE from a station. -/
def execDeskStrayFrame (port : DeskPort) (frame : Frame) (s : State) : Result :=
  match frame.kind with
  | .request => .next s
  | _ => .next (validFrame port s)

/-- REQUEST_WHILE_BUSY (R189): a request, of whatever code, that finds another in progress on its port. -/
def execRequestWhileBusy (r : Req) (_code : Byte) (_payload : List Byte) (s : State) : Result :=
  match (s.port r.port).inProgress with
  | some _ => .next (request r (refuse .busy) s)
  | none => .next s

/-- UNKNOWN_CODE (order 1 of R190): a code that names a command is no such command. -/
def execUnknownCode (r : Req) (code : Byte) (_payload : List Byte) (s : State) : Result :=
  if commandCodes.contains code then .next s else .next (request r (refuse .unknownCode) s)

/-- REPLY_SENT (R189). -/
def execReplySent (port : DeskPort) (s : State) : Result :=
  .next (chooseFrame port (s.setPort port (s.port port).replyDone))

/-- NOTICE (R198). -/
def execNotice (port : DeskPort) (s : State) : Result :=
  .next (if (s.port port).mayNotice then s.setPort port (s.port port).beginNotice else s)

/-- NOTICE_ACK (R198). -/
def execNoticeAck (r : Req) (payload : List Byte) (s : State) : Result :=
  .next (openCommand r payloadKinds payload
    (fun kinds s => accept (s.setPort r.port ((s.port r.port).ackNotice kinds))) s)

/-- NOTICE_MASK_WRITE (R197). -/
def execNoticeMaskWrite (r : Req) (op : FlagOp) (inst : Byte) (value : List Byte) (s : State) : Result :=
  .next (itemRequest .noticeMask (opOfFlag op) r inst value s)

/-- CLAIM_ROLE (R191). -/
def execClaimRole (r : Req) (payload : List Byte) (s : State) : Result :=
  .next (openCommand r payloadRole payload (ownClaim r.port) s)

/-- RELEASE_ROLE (R191). -/
def execReleaseRole (r : Req) (payload : List Byte) (s : State) : Result :=
  .next (openCommand r payloadNone payload (fun _ => ownReleaseRole r.port) s)

/-- RESET_PORT (R194). -/
def execResetPort (r : Req) (payload : List Byte) (s : State) : Result :=
  .next (openCommand r payloadNone payload (fun _ => ownResetPort r.port) s)

/-- DESK_LINE_BREAK (R188). -/
def execDeskLineBreak (port : DeskPort) (s : State) : Result :=
  let s := losePort port s
  .next (s.setPort port (s.port port).broken)

/-- DESK_PRESENCE_EXPIRY (R192). -/
def execDeskPresenceExpiry (port : DeskPort) (s : State) : Result :=
  if (s.port port).active && (s.port port).presentAt + Config.deskPresence ≤ s.now then .next (losePort port s)
  else .next s

/-- BAD_FRAME_COUNT_RESET (R199). -/
def execBadFrameCountReset (r : Req) (inst : Byte) (value : List Byte) (s : State) : Result :=
  .next (itemRequest .badFrames .swap r inst value s)

/-- READ (R195): the item request that the payload spells, a READ or a SET or CLEAR with a zero mask; a SWAP or a mask
that a payload spells here is the write of its item, READ_ONLY where the item has no writer (R196). -/
def execRead (r : Req) (op : ItemOp) (payload : List Byte) (s : State) : Result :=
  .next (request r (fun s => operatePayload op r.port payload s) s)

/-- NOTICE_SENT (R189). -/
def execNoticeSent (port : DeskPort) (s : State) : Result :=
  .next (chooseFrame port (s.setPort port (s.port port).noticeDone))

end Sys2Proof.Machine
end

