-- ==== Sys2Proof/Machine/Timebase.lean ====
section
/-!
DEFINITION. The commands of the Timebase (R1 to R8): power-on reset, the show-clock sample, the word clock, holdover, the
frame tick and the video rate.
-/

namespace Sys2Proof.Machine

/-! ## Shared operations -/

/-- The show-relay input seen at a sample: a level other than the relay state's is timed (R155, log 9). -/
def Stops.observeRelay (closed : Bool) (x : Stops) : Stops :=
  { x with relayRun :=
      if closed = x.relayAsserted then none
      else match x.relayRun with
        | none => some 0
        | some n => some (min (n + 1) Config.relayHold) }

/-- One show-clock sample (R1): the sample in progress is mixed, the clock advances, and the relay input is seen. -/
def countSample (closed : Bool) (s : State) : State :=
  { s with
    clicks := s.clicks.mix
    time := { s.time with clock := s.time.clock + 1 }
    stops := s.stops.observeRelay closed }

/-- The reference periods without a counted edge after one more has ended, while the source is WORD (R4). -/
def Timebase.missPeriod (t : Timebase) : Timebase :=
  match t.source with
  | .word => { t with missed := min (t.missed + 1) Config.holdoverPeriods }
  | .internal => t

/-- Is the interval of an edge within the good-edge window? (1.2) -/
def goodInterval (interval : Nat) : Bool := Config.goodEdgeMin ≤ interval && interval ≤ Config.goodEdgeMax

/-- Is an edge at an interval the good edge that qualifies the word clock? (R3) -/
def Timebase.qualifies (interval : Nat) (t : Timebase) : Bool :=
  t.source == .internal && t.edgeSeen && goodInterval interval && Config.qualifyEdges ≤ t.goodEdges + 1

/-- The Timebase after the switch to WORD (R3). -/
def Timebase.toWord (t : Timebase) : Timebase :=
  { t with source := .word, wordSeen := true, goodEdges := 0, missed := 0 }

/-- The Timebase after the switch to INTERNAL (R4). The next edge has no interval of its own, whatever glitch came before the
switch (log 53). -/
def Timebase.toInternal (t : Timebase) : Timebase :=
  { t with source := .internal, holdovers := countUp t.holdovers, goodEdges := 0, edgeSeen := false }

/-- A good-edge count after an edge that does not qualify, while the source is INTERNAL (R2). -/
def Timebase.countEdge (interval : Nat) (t : Timebase) : Timebase :=
  if t.edgeSeen then { t with goodEdges := if goodInterval interval then t.goodEdges + 1 else 0 }
  else { t with edgeSeen := true }

/-- The word clock qualifies (R3, R5): the edge completes the sample in progress, and CLOCK is lowered. -/
def qualifyWord (closed : Bool) (s : State) : State :=
  let s := countSample closed s
  lowerCondition .clock (notify .clock { s with time := s.time.toWord })

/-! ## The commands -/

/-- POWER_ON_RESET (R1): every block takes its power-on values. The commands that wait stay. -/
def execPowerOnReset (s : State) : Result := .next { State.reset with pending := s.pending }

/-- SHOW_CLOCK_SAMPLE (R1, R4, R52 to R55, R155): a sample counted from the internal reference. -/
def execShowClockSample (relayClosed : Bool) (s : State) : Result :=
  let s := countSample relayClosed s
  .next { s with time := s.time.missPeriod }

/-- WORD_CLOCK_EDGE (R2, R3, TABLE 1-1). An edge after the fourth uncounted period that comes before its HOLDOVER still counts
as a WORD edge and clears the count of periods (log 42). -/
def execWordClockEdge (interval : Nat) (relayClosed : Bool) (s : State) : Result :=
  match s.time.source with
  | .internal =>
    if s.time.qualifies interval then .next (qualifyWord relayClosed s)
    else .next { s with time := s.time.countEdge interval }
  | .word =>
    if interval < Config.glitchLimit then .next s
    else
      let s := countSample relayClosed s
      .next { s with time := { s.time with missed := 0 } }

/-- WORD_CLOCK_QUALIFIED (R3): the edge that brings the good-edge count to 48,000; any other edge is no such command and
changes nothing (log 4). -/
def execWordClockQualified (interval : Nat) (relayClosed : Bool) (s : State) : Result :=
  if s.time.qualifies interval then .next (qualifyWord relayClosed s) else .next s

/-- WORD_CLOCK_SILENCE (R2): while the source is INTERNAL, no edge has come for four nominal intervals. -/
def execWordClockSilence (s : State) : Result :=
  match s.time.source with
  | .internal => .next { s with time := { s.time with goodEdges := 0, edgeSeen := false } }
  | .word => .next s

/-- HOLDOVER (R4, R5): four reference periods have ended with no counted edge, and CLOCK is raised. -/
def execHoldover (s : State) : Result :=
  match s.time.source with
  | .word =>
    if Config.holdoverPeriods ≤ s.time.missed then
      .next (raiseCondition .clock (notify .clock { s with time := s.time.toInternal }))
    else .next s
  | .internal => .next s

/-- FRAME_TICK (R8, R133, R139): the show clock has reached the tick position. -/
def execFrameTick (s : State) : Result :=
  if q16Sample s.time.tickPos ≤ s.now then
    .next (tickWork { s with time := { s.time with tickPos := s.time.tickPos + s.time.rate.period } })
  else .next s

/-- VIDEO_RATE_WRITE (R7). -/
def execVideoRateWrite (r : Req) (inst : Byte) (value : List Byte) (s : State) : Result :=
  .next (itemRequest .videoRate .swap r inst value s)

end Sys2Proof.Machine
end

