-- ==== Sys2Proof/Machine/Lanes.lean ====
section
/-!
DEFINITION. The commands of the Click Generator (chapter 3): starts and ends of voices, lane fields and levels, the clip
counter, the clip memory and directory, and the sound sets.
-/

namespace Sys2Proof.Machine

/-- Does an entry that has come due start its voice? (R48) -/
def startsVoice (c : ClickState) (e : StartEntry) : Bool := c != .idle && (e.voice != .count || c == .countIn)

/-- A lane whose first entry has been removed, and started where R48 lets it. An entry that R48 does not let start, such as a
COUNT entry that a beat of a count-in bar has added in FINISHING (R47), is removed at its sample all the same (log 55). -/
def Lane.takeStart (c : ClickState) (e : StartEntry) (rest : List StartEntry) (l : Lane) : Lane :=
  let l := { l with starts := rest }
  if startsVoice c e then l.begin e else l

/-- Is a voice at the last sample of its clip? (R49) -/
def lastSample : Option Playing → Bool
  | some p => p.length ≤ p.pos + 1
  | none => false

/-- The owner's decision of a CLIP WRITE (R43), FROZEN before RANGE (log 44). -/
def ownClipWrite (w : Nat × List Sample) (s : State) : Answer :=
  unlessShow (if Config.clipMemorySize < w.1 + w.2.length then refuse .range s
    else accept { s with clicks := { s.clicks with memory := ClipMem.writeRun s.clicks.memory w.1 w.2 } }) s

/-- A directory entry is replaced, with the TABLE kind made pending where the directory changes (R44). -/
def putClip (n : Fin 16) (c : Option Clip) (s : State) : State :=
  notifyIf (tget s.clicks.directory n != c) .table
    { s with clicks := { s.clicks with directory := tput s.clicks.directory n c } }

/-- The owner's decision of a CLIP DEFINE: clip, start and length (R44); FROZEN, then RANGE, then OVERLAP (log 44). -/
def ownClipDefine (d : Nat × Nat × Nat) (s : State) : Answer :=
  unlessShow
    (match idx? 16 d.1 with
    | none => refuse .range s
    | some n =>
      if d.2.2 = 0 then accept (putClip n none s)
      else if Config.clipLengthMax < d.2.2 ∨ Config.clipMemorySize < d.2.1 + d.2.2 then refuse .range s
      else
        let c : Clip := { start := d.2.1, length := d.2.2 }
        if s.clicks.overlaps n c then refuse .overlap s else accept (putClip n (some c) s)) s

/-- VOICE_START (R48 to R50): the show clock has reached the first entry of a lane's start list. -/
def execVoiceStart (lane : LaneNo) (s : State) : Result :=
  match (s.clicks.lane lane).starts with
  | e :: rest =>
    if e.sample ≤ s.now then
      .next { s with clicks := s.clicks.setLane lane ((s.clicks.lane lane).takeStart s.beats.click e rest) }
    else .next s
  | [] => .next s

/-- VOICE_END (R49): the show-clock sample at which a voice gives the last sample of its clip. It is that sample, taken
where the voice is at its last sample (log 4). -/
def execVoiceEnd (lane : LaneNo) (voice : VoiceKind) (relayClosed : Bool) (s : State) : Result :=
  if lastSample ((s.clicks.lane lane).voice voice) then .next (countSample relayClosed s) else .next s

/-- LANE_FIELD_WRITE (R41, R42). -/
def execLaneFieldWrite (r : Req) (field : LaneField) (inst : Byte) (value : List Byte) (s : State) : Result :=
  .next (itemRequest (.laneField field) .swap r inst value s)

/-- LANE_LEVEL_WRITE (R42). -/
def execLaneLevelWrite (r : Req) (inst : Byte) (value : List Byte) (s : State) : Result :=
  .next (itemRequest .laneLevel .swap r inst value s)

/-- CLIP_COUNTER_RESET (R54). -/
def execClipCounterReset (r : Req) (inst : Byte) (value : List Byte) (s : State) : Result :=
  .next (itemRequest .clipCounter .swap r inst value s)

/-- CLIP_WRITE (R43). -/
def execClipWrite (r : Req) (payload : List Byte) (s : State) : Result :=
  .next (command r [.prog] payloadClipWrite payload ownClipWrite s)

/-- CLIP_DEFINE (R44). -/
def execClipDefine (r : Req) (payload : List Byte) (s : State) : Result :=
  .next (command r [.prog] payloadClipDefine payload ownClipDefine s)

/-- SOUND_SET_WRITE (R45). -/
def execSoundSetWrite (r : Req) (inst : Byte) (value : List Byte) (s : State) : Result :=
  .next (itemRequest .soundRole .swap r inst value s)

end Sys2Proof.Machine
end

