-- ==== Sys2Proof/Machine/ResumeCommands.lean ====
section
/-!
DEFINITION. The commands of chapter 10: ACK, ACK OVERRIDE, RESUME AT, MD READY, RESUME GO, SHOW RESET and the resume
count-in.
-/

namespace Sys2Proof.Machine

/-! ## Acknowledgement -/

/-- The owner's decision of an acknowledgement (orders 3 to 5 of R174). -/
def ownAcknowledge (s : State) : Answer :=
  match s.stops.state, s.stops.stack with
  | .stopped, r :: rest =>
    if r.acked then refuse .noStop s
    else accept (popTest (notify .stop { s with stops := { s.stops with stack := { r with acked := true } :: rest } }))
  | _, _ => refuse .noStop s

/-- The owner's decision of an ACK OVERRIDE (R174). -/
def ownAckOverride (s : State) : Answer := if (holderOf .md s).isSome then refuse .held s else ownAcknowledge s

/-! ## RESUME AT and MD READY -/

/-- The effects of an accepted RESUME AT (R178). -/
def resumeAt (t : Target) (s : State) : State :=
  let s := notifyIf (s.resume.target != some t) .stop { s with resume := { s.resume with target := some t } }
  issueRestores (clearMdReady s)

/-- The owner's decision of a RESUME AT: a cue and an offset (R178). -/
def ownResumeAt (q : Nat × Nat) (s : State) : Answer :=
  if !s.inShow then refuse .setup s
  else if s.stops.state = .clear then refuse .noStop s
  else if !s.stops.state.ofResume then refuse .stopped s
  else if Config.cueNumberMax < q.1 ∨ 255 < q.2 then refuse .range s
  else if (s.tables.find q.1).isNone then refuse .noCue s
  else accept (resumeAt { cue := q.1, offset := q.2 } s)

/-- The owner's decision of an MD READY (R180). -/
def ownMdReady (s : State) : Answer :=
  if !s.inShow || !s.stops.state.ofResume then refuse .noStop s
  else if s.resume.mdReady then accept s
  else accept (reviewRestore (notify .stop { s with resume := { s.resume with mdReady := true } }))

/-! ## RESUME GO -/

/-- The Beat Scheduler's part of a resume GO (R39). Its CUT reaches the lanes and the flashes whatever the click state
(R51; the flashes of R144, log 16). -/
def restart (a : ChaseAt) (offset : Nat) (s : State) : State :=
  let s := emptyVamps (cutClick s)
  let s := { s with beats := { s.beats with
    pendingBar := none, pendingMeter := none, meter := s.tables.meterChase a } }
  let s := setTempoState (s.tempo.apply (s.tables.tempoChase a)) s
  startClick false s.resume.countIn (min (s.tables.barChase a + offset) Config.barMax) s

/-- The Cue Sequencer's part of a resume GO (R94). -/
def resumePointer (n : Nat) (s : State) : State :=
  setPointer { s.pointer with
    current := some n, standing := s.tables.standingAfter n, armed := none, chasePending := false } s

/-- The effects of an accepted RESUME GO (R181). -/
def resumeGo (t : Target) (s : State) : State :=
  let s := resumePointer t.cue (restart (.cue t.cue) t.offset s)
  sample false (setStopState .clear (dropResume (setFrozen false s)))

/-- The owner's decision of a RESUME GO (R181); in RESUME_ARMED a target is present. -/
def ownResumeGo (s : State) : Answer :=
  if !s.inShow then refuse .setup s
  else if s.stops.state = .clear then refuse .noStop s
  else
    match s.stops.state, s.resume.target with
    | .resumeArmed, some t => accept (resumeGo t s)
    | _, _ => refuse .stopped s

/-! ## SHOW RESET -/

/-- Is the stop state one that refuses a SHOW RESET? (R182) -/
def StopState.refusesReset : StopState → Bool
  | .stopping | .restoring | .resumeArmed => true
  | _ => false

/-- The effects of an accepted SHOW RESET (R182). -/
def showReset (s : State) : State :=
  let s := notify .stop { s with stops := { s.stops with stack := [], topTicked := false, topReported := false } }
  let s := clearCountIn (emptyVamps (cutClick (setHoldOff 0 (lowerCommands s))))
  sample false (setStopState .awaitResume (dropResume s))

/-- The owner's decision of a SHOW RESET (R182). -/
def ownShowReset (s : State) : Answer :=
  if !s.inShow then refuse .setup s
  else if s.stops.state = .clear then refuse .noStop s
  else if s.stops.state.refusesReset then refuse .busy s
  else if s.stops.relayAsserted then refuse .relay s
  else accept (showReset s)

/-! ## The commands -/

/-- ACK (R174). -/
def execAck (r : Req) (payload : List Byte) (s : State) : Result :=
  .next (command r [.md] payloadNone payload (fun _ => ownAcknowledge) s)

/-- ACK_OVERRIDE (R174). -/
def execAckOverride (r : Req) (payload : List Byte) (s : State) : Result :=
  .next (command r [.sm] payloadNone payload (fun _ => ownAckOverride) s)

/-- RESUME_AT (R178). -/
def execResumeAt (r : Req) (payload : List Byte) (s : State) : Result :=
  .next (command r [.sm] payloadResumeAt payload ownResumeAt s)

/-- MD_READY (R180). -/
def execMdReady (r : Req) (payload : List Byte) (s : State) : Result :=
  .next (command r [.md] payloadNone payload (fun _ => ownMdReady) s)

/-- RESUME_GO (R181). -/
def execResumeGo (r : Req) (payload : List Byte) (s : State) : Result :=
  .next (command r [.sm] payloadNone payload (fun _ => ownResumeGo) s)

/-- SHOW_RESET (R182). -/
def execShowReset (r : Req) (payload : List Byte) (s : State) : Result :=
  .next (command r [.sm] payloadNone payload (fun _ => ownShowReset) s)

/-- RESUME_COUNT_IN_WRITE (R184). -/
def execResumeCountInWrite (r : Req) (inst : Byte) (value : List Byte) (s : State) : Result :=
  .next (itemRequest .resumeCountIn .swap r inst value s)

end Sys2Proof.Machine
end

