-- ==== Sys2Proof/Machine/Rigs.lean ====
section
/-!
DEFINITION. The commands of the Rig Controller (chapter 6): the messages of a rig, invalid messages and line breaks, the
timers, BIND and UNBIND, slot names and counters.
-/

namespace Sys2Proof.Machine

/-! ## Messages -/

/-- A message that is invalid is counted (R96, R205). -/
def countInvalid (p : RigPort) (s : State) : State :=
  setRigPort p { s.rigPort p with invalidCount := countUp (s.rigPort p).invalidCount } s

/-- The slot that an identity names (R98). -/
def slotNamed (identity : Text) (s : State) : Option Slot := allSlots.find? fun k => (s.rig k).name == identity

/-- Is an identity the name of a slot that another port holds? (R98) -/
def heldElsewhere (identity : Text) (s : State) : Bool :=
  match slotNamed identity s with
  | some k => (s.rig k).boundPort.isSome
  | none => false

/-- A valid ANNOUNCE (R98). The port fault is written once, so one that it clears and sets again is no change (log 47). -/
def takeAnnounce (p : RigPort) (identity : Text) (s : State) : State :=
  let s := unbindPort p (rigMessage p s)
  let duplicate := heldElsewhere identity s
  let s := setRigPort p { s.rigPort p with identity := some identity, duplicate := duplicate, bit := false } s
  match slotNamed identity s with
  | some k => reviewRigs (if duplicate then s else bindSlot p k s)
  | none => reviewRigs s

/-- The pending change after a sustain that was DOWN is reported UP (R111). -/
def PendingChange.released (c : PendingChange) : PendingChange :=
  match c.kind, c.due with
  | .cue, .atRelease _ => { c with due := .now }
  | _, _ => c

/-- The STATUS of a bound slot (R111). -/
def takeStatus (k : Slot) (sustain : Sustain) (held : Nat) (s : State) : State :=
  let r := s.rig k
  let up := r.sustain == .down && sustain == .up
  let s := setRig k { r with
    sustain := sustain, held := held,
    pendingChange := if up then r.pendingChange.map PendingChange.released else r.pendingChange } s
  if up then sendIfDue k s else s

/-- A slot after the DONE of its in-flight change, with nothing to send (R108). -/
def Rig.completed (r : Rig) (f : InFlight) : Rig := { r with applied := some f.patch, inFlight := none }

/-- A DONE that carries the in-flight bit (R108). -/
def takeDone (k : Slot) (f : InFlight) (s : State) : State :=
  let r := (s.rig k).completed f
  match r.pendingChange with
  | none => setRig k { r with state := .ready } s
  | some ⟨patch, .cue, .now⟩ =>
    if s.isClear then sendChange k patch .cue (setRig k r s) else setRig k { r with state := .ready } s
  | some ⟨_, .cue, .atRelease _⟩ => setRig k { r with state := .ready } s
  | some ⟨patch, kind, _⟩ => sendChange k patch kind (setRig k r s)

/-- A slot after the REFUSED of its in-flight change (R109). -/
def Rig.refusedNow (r : Rig) : Rig :=
  { r with
    state := .fault, fault := some .refused, inFlight := none, pendingChange := none, refusals := countUp r.refusals }

/-- A slot after the second expiry of its reply timer (R110). -/
def Rig.timedOut (r : Rig) : Rig :=
  { r with
    state := .fault, fault := some .timeout, applied := none, inFlight := none, pendingChange := none,
    timeouts := countUp r.timeouts }

/-- The in-flight change of the slot a port is bound to, where it carries a bit (R108, R109). -/
def answered (p : RigPort) (bit : Bool) (s : State) : Option (Slot × InFlight) :=
  match (s.rigPort p).boundSlot with
  | none => none
  | some k =>
    match (s.rig k).state, (s.rig k).inFlight with
    | .changing, some f => if f.bit = bit then some (k, f) else none
    | _, _ => none

/-- The SELECT of a change is sent again with its bit, and the timer restarts (R110). -/
def resend (k : Slot) (p : RigPort) (f : InFlight) (s : State) : State :=
  let s := setRigPort p { s.rigPort p with lastSelect := some (f.patch, f.bit) } s
  setRig k { s.rig k with
    inFlight := some { f with resent := true, sent := s.now }, timeouts := countUp (s.rig k).timeouts } s

/-- A line break on a rig port (R96, R117). A message being received is lost without a count (log 41). -/
def breakPort (p : RigPort) (s : State) : State :=
  let s := setRigPort p { s.rigPort p with linkUp := false, identity := none, duplicate := false, rx := [] } s
  match (s.rigPort p).boundSlot with
  | some k => loseSlot k s
  | none => s

/-- A valid STATUS (R96, R111). -/
def statusMessage (p : RigPort) (sustain : Sustain) (held : Byte) (s : State) : State :=
  let s := rigMessage p s
  match (s.rigPort p).boundSlot with
  | some k => takeStatus k sustain held.toNat s
  | none => s

/-- A valid DONE (R96, R108). -/
def doneMessage (p : RigPort) (bit : Bool) (s : State) : State :=
  let s := rigMessage p s
  match answered p bit s with
  | some (k, f) => reviewRigs (takeDone k f s)
  | none => s

/-- A valid REFUSED, whatever its reason (R96, R109). -/
def refusedMessage (p : RigPort) (bit : Bool) (s : State) : State :=
  let s := rigMessage p s
  match answered p bit s with
  | some (k, _) => reviewRigs (setRig k (s.rig k).refusedNow s)
  | none => s

/-- A valid message on a port is taken by its kind (R205). -/
def takeMessage (p : RigPort) (s : State) : RigMessage → State
  | .announce identity => takeAnnounce p identity s
  | .status sustain held => statusMessage p sustain held s
  | .done bit => doneMessage p bit s
  | .refused bit _ => refusedMessage p bit s

/-- What a port's receiver has ended: a valid message is taken, and an invalid one is counted (R205). -/
def takeRigEnd (p : RigPort) (s : State) (x : Option RigMessage) : State :=
  match x with
  | some m => takeMessage p s m
  | none => countInvalid p s

/-- A run of characters on a rig port: the messages it ends, in order, and the bytes its receiver then holds (R205). -/
def takeRigChars (p : RigPort) (r : Received RigMessage) (s : State) : State :=
  let s := r.ended.foldl (takeRigEnd p) s
  setRigPort p { s.rigPort p with rx := r.held } s

/-! ## BIND and UNBIND -/

/-- The owner's decision of a BIND of a port to a slot (R99). -/
def ownBind (b : Nat × Nat) (s : State) : Answer :=
  match idx? 8 b.1, idx? 8 b.2 with
  | some p, some k =>
    if (s.rig k).boundPort.isSome then refuse .held s
    else
      let s := unbindPort p s
      accept (reviewRigs (bindSlot p k (setRigPort p { s.rigPort p with duplicate := false } s)))
  | _, _ => refuse .range s

/-- The owner's decision of an UNBIND of a slot (R100). -/
def ownUnbind (n : Nat) (s : State) : Answer :=
  match idx? 8 n with
  | some k => if (s.rig k).state = .absent then accept s else accept (reviewRigs (unbindSlot k s))
  | none => refuse .range s

/-! ## The commands -/

/-- ANNOUNCE (R98); an identity that no rig can announce is an invalid message (R205). -/
def execAnnounce (port : RigPort) (identity : Text) (s : State) : Result :=
  .next (if isIdentity identity then takeAnnounce port identity s else countInvalid port s)

/-- STATUS (R111). -/
def execStatus (port : RigPort) (sustain : Sustain) (held : Byte) (s : State) : Result :=
  .next (statusMessage port sustain held s)

/-- DONE (R108). -/
def execDone (port : RigPort) (bit : Bool) (s : State) : Result := .next (doneMessage port bit s)

/-- REFUSED (R109), whatever its reason. -/
def execRefused (port : RigPort) (bit : Bool) (_reason : RefusedReason) (s : State) : Result :=
  .next (refusedMessage port bit s)

/-- RIG_INVALID_MESSAGE (R205): a run of characters that ends an invalid message. Every invalid message it ends is
counted, and a message found after an invalid one's sync byte is taken. A run that ends no invalid message is no such
command (log 1). -/
def execRigInvalidMessage (port : RigPort) (chars : List LineChar) (s : State) : Result :=
  let r := receiveMessages (s.rigPort port).rx chars
  if r.ended.contains none then .next (takeRigChars port r s) else .next s

/-- RIG_LINE_BREAK (R96, R117). -/
def execRigLineBreak (port : RigPort) (s : State) : Result := .next (reviewRigs (breakPort port s))

/-- REPLY_TIMEOUT (R106, R110). -/
def execReplyTimeout (slot : Slot) (s : State) : Result :=
  match (s.rig slot).inFlight, (s.rig slot).boundPort with
  | some f, some p =>
    if f.sent + Config.replyTimeout ≤ s.now then
      if f.resent then .next (reviewRigs (setRig slot (s.rig slot).timedOut s)) else .next (resend slot p f s)
    else .next s
  | _, _ => .next s

/-- RIG_PRESENCE_EXPIRY (R117). -/
def execRigPresenceExpiry (slot : Slot) (s : State) : Result :=
  if (s.rig slot).boundPort.isSome && (s.rig slot).presentAt + Config.rigPresence ≤ s.now then
    .next (reviewRigs (loseSlot slot s))
  else .next s

/-- BIND (R99). -/
def execBind (r : Req) (payload : List Byte) (s : State) : Result :=
  .next (command r [.prog] payloadBind payload ownBind s)

/-- UNBIND (R100). -/
def execUnbind (r : Req) (payload : List Byte) (s : State) : Result :=
  .next (command r [.prog] payload1 payload ownUnbind s)

/-- SLOT_NAME_WRITE (R97). -/
def execSlotNameWrite (r : Req) (inst : Byte) (value : List Byte) (s : State) : Result :=
  .next (itemRequest .slotName .swap r inst value s)

/-- RIG_COUNTER_RESET (R119). -/
def execRigCounterReset (r : Req) (counter : RigCounter) (inst : Byte) (value : List Byte) (s : State) : Result :=
  .next (itemRequest (.rigCounter counter) .swap r inst value s)

end Sys2Proof.Machine
end

