-- ==== Sys2Proof/Machine/Session.lean ====
section
/-!
DEFINITION. The commands of the show session (chapter 5): BEGIN SHOW, END SHOW, GO, BACK, JUMP and the clearing of
START_IGNORED.
-/

namespace Sys2Proof.Machine

/-! ## BEGIN SHOW and END SHOW -/

/-- Does a required slot stand in the way of BEGIN SHOW? (R76) -/
def slotNotReady (s : State) (k : Slot) : Bool := (s.tables.setting k).required && (s.rig k).state != .ready

/-- The session changes (R57). -/
def setSession (x : Session) (s : State) : State :=
  notifyIf (s.tables.session != x) .cue { s with tables := { s.tables with session := x } }

/-- The effects of an accepted BEGIN SHOW (R77), with what follows it: RIG_FAULT (R118) and the sampling (R171). -/
def beginShow (first : Nat) (s : State) : State :=
  let s := setPointer { s.pointer with standing := .cue first, current := none, armed := none, chasePending := false }
    (setSession .inShow s)
  let s := handChase .first s
  sample false (followCondition .rigFault (rigFaultNow s) s)

/-- The owner's decision of a BEGIN SHOW (R76). -/
def ownBeginShow (s : State) : Answer :=
  if s.inShow then refuse .busy s
  else
    match s.tables.cues with
    | [] => refuse .notReady s
    | c :: _ => if allSlots.any (slotNotReady s) then refuse .notReady s else accept (beginShow c.number s)

/-- Is the stop state one that refuses an END SHOW? (R78) -/
def StopState.refusesEnd : StopState → Bool
  | .stopping | .stopped | .restoring | .resumeArmed => true
  | _ => false

/-- What END SHOW does to the Beat Scheduler and the Click Generator (R79, R40, R51). -/
def endBeats (s : State) : State :=
  let s := clearCountIn (emptyVamps { s with tempo := { s.tempo with taps := [] } })
  { s with
    beats := { s.beats with pendingMeter := none, pendingBar := none }
    clicks := s.clicks.silence }

/-- What END SHOW does to the Stop Controller before the stop state becomes CLEAR (R79, R162, R118). -/
def endStops (s : State) : State :=
  let s := setRaised .rigFault false (lowerCommands s)
  let s := notifyIf (s.stops.stack != []) .stop
    { s with stops := { s.stops with stack := [], runAdvisory := true, topTicked := false, topReported := false } }
  dropResume (setHoldOff 0 s)

/-- The effects of an accepted END SHOW (R79). -/
def endShow (s : State) : State :=
  let s := setPointer { s.pointer with armed := none, chasePending := false } (setSession .setup s)
  let s := cutFlashes (endStops (endBeats s))
  setStopState .clear (setFrozen false { s with overlay := { s.overlay with banner := none } })

/-- The owner's decision of an END SHOW (R78). -/
def ownEndShow (s : State) : Answer :=
  if !s.inShow then refuse .setup s
  else if s.beats.click ≠ .idle then refuse .busy s
  else if s.stops.state.refusesEnd then refuse .busy s
  else accept (endShow s)

/-! ## GO, BACK and JUMP -/

/-- A called cue is taken at once, or armed for its boundary (R81). -/
def callCue (c : Cue) (s : State) : State :=
  if c.boundary = .immediate ∨ s.beats.click = .idle then takeCue c s
  else setPointer { s.pointer with armed := some c.number } s

/-- The standing cue is called (R80); in SHOW it is END or a cue of the list, so the last two answers do not arise. -/
def callStanding (s : State) : Answer :=
  match s.pointer.standing with
  | .ended => refuse .ended s
  | .cue n =>
    match s.tables.find n with
    | some c => accept (callCue c s)
    | none => refuse .noCue s
  | .absent => refuse .noCue s

/-- The owner's decision of a GO (R80, R85). -/
def ownGo (s : State) : Answer :=
  if !s.inShow then refuse .setup s
  else if s.stops.state ≠ .clear then refuse .stopped s
  else
    match armedCue s with
    | some c => accept (takeCue c s)
    | none => callStanding s

/-- The cue a BACK moves the standing cue to, if any (R92). -/
def backTo (s : State) : Option Nat :=
  match s.pointer.standing with
  | .cue n => (s.tables.before n).map (·.number)
  | .ended => s.tables.cues.getLast?.map (·.number)
  | .absent => none

/-- The owner's decision of a BACK (R92). -/
def ownBack (s : State) : Answer :=
  if !s.inShow then refuse .setup s
  else if s.beats.click ≠ .idle then refuse .running s
  else
    match backTo s with
    | some n => accept (setPointer { s.pointer with standing := .cue n, armed := none } s)
    | none => refuse .noCue s

/-- The owner's decision of a JUMP (R93). -/
def ownJump (n : Nat) (s : State) : Answer :=
  if !s.inShow then refuse .setup s
  else if s.beats.click ≠ .idle then refuse .running s
  else if Config.cueNumberMax < n then refuse .range s
  else if (s.tables.find n).isNone then refuse .noCue s
  else accept (setPointer { s.pointer with standing := .cue n, armed := none, chasePending := true } s)

/-! ## The commands -/

/-- BEGIN_SHOW (R76, R77). -/
def execBeginShow (r : Req) (payload : List Byte) (s : State) : Result :=
  .next (command r [.sm] payloadNone payload (fun _ => ownBeginShow) s)

/-- END_SHOW (R78, R79). -/
def execEndShow (r : Req) (payload : List Byte) (s : State) : Result :=
  .next (command r [.sm] payloadNone payload (fun _ => ownEndShow) s)

/-- GO (R80, R81, R85). -/
def execGo (r : Req) (payload : List Byte) (s : State) : Result :=
  .next (command r [.sm] payloadNone payload (fun _ => ownGo) s)

/-- BACK (R92). -/
def execBack (r : Req) (payload : List Byte) (s : State) : Result :=
  .next (command r [.sm] payloadNone payload (fun _ => ownBack) s)

/-- JUMP (R93). -/
def execJump (r : Req) (payload : List Byte) (s : State) : Result :=
  .next (command r [.sm] payload4 payload ownJump s)

/-- START_IGNORED_CLEAR (R88). -/
def execStartIgnoredClear (r : Req) (op : FlagOp) (inst : Byte) (value : List Byte) (s : State) : Result :=
  .next (itemRequest .startIgnored (opOfFlag op) r inst value s)

end Sys2Proof.Machine
end

