-- ==== Sys2Proof/Machine/StopCommands.lean ====
section
/-!
DEFINITION. The commands of the Stop Controller of chapter 9: STOP, the relay, HOLD OFF and the writes of the stop items.
-/

namespace Sys2Proof.Machine

/-- The command source that a role's STOP addresses (R154). -/
def stopSourceOf : Role → Option StopSource
  | .sm => some .smStop
  | .md => some .mdStop
  | .foh => some .fohStop
  | .prog => none

/-- The owner's decision of a STOP of a source (R154). -/
def ownStop (i : StopSource) (s : State) : Answer :=
  if !s.inShow then refuse .setup s
  else if s.stops.state = .halted then refuse .stopped s
  else if s.stops.onStack i ∨ s.stops.isRaised i then accept s
  else accept (afterRaising i (setRaised i true s))

/-- The owner's decision of a STOP from a port (R154). -/
def ownStopFrom (port : DeskPort) (s : State) : Answer :=
  match (s.port port).role.bind stopSourceOf with
  | some i => ownStop i s
  | none => refuse .noRight s

/-- The relay state changes (R155). -/
def changeRelay (s : State) : State :=
  let asserted := !s.stops.relayAsserted
  followCondition .relay asserted
    { s with stops := { s.stops with relayAsserted := asserted, relayRun := none } }

/-- Has the show-relay input held the other level long enough? (R155) -/
def Stops.relayDue (x : Stops) : Bool :=
  match x.relayRun with
  | some n => Config.relayHold ≤ n
  | none => false

/-- The number of beats a HOLD OFF is taken as (R167). -/
def holdOffBeats (n : Nat) : Nat := max 1 (min n Config.holdOffRequestMax)

/-- The owner's decision of a HOLD OFF (R167). -/
def ownHoldOff (n : Nat) (s : State) : Answer :=
  if !s.inShow then refuse .setup s
  else
    let total := s.stops.holdOff + holdOffBeats n
    acceptIf (holdOffBeats n != n || Config.holdOffMax < total) (setHoldOff (min total Config.holdOffMax) s)

/-- STOP (R154). -/
def execStop (r : Req) (payload : List Byte) (s : State) : Result :=
  .next (command r [.sm, .md, .foh] payloadNone payload (fun _ => ownStopFrom r.port) s)

/-- RELAY_STATE_CHANGE (R155). -/
def execRelayStateChange (s : State) : Result := .next (if s.stops.relayDue then changeRelay s else s)

/-- HOLD_OFF (R167). -/
def execHoldOff (r : Req) (payload : List Byte) (s : State) : Result :=
  .next (command r [.md] payload1 payload ownHoldOff s)

/-- HOLD_OFF_WRITE (R168). -/
def execHoldOffWrite (r : Req) (inst : Byte) (value : List Byte) (s : State) : Result :=
  .next (itemRequest .holdOffCount .swap r inst value s)

/-- STOP_LEVEL_WRITE (R153). -/
def execStopLevelWrite (r : Req) (inst : Byte) (value : List Byte) (s : State) : Result :=
  .next (itemRequest .stopLevel .swap r inst value s)

/-- STOP_PROFILE_WRITE (R153). -/
def execStopProfileWrite (r : Req) (inst : Byte) (value : List Byte) (s : State) : Result :=
  .next (itemRequest .stopProfile .swap r inst value s)

/-- DISPLACED_COUNT_RESET (R161). -/
def execDisplacedCountReset (r : Req) (inst : Byte) (value : List Byte) (s : State) : Result :=
  .next (itemRequest .displacedCount .swap r inst value s)

end Sys2Proof.Machine
end

