-- ==== Sys2Proof/Machine/Tempo.lean ====
section
/-!
DEFINITION. The tempo commands (R9 to R15, R206): SET TEMPO, the nudges, TAP and the writes of the tempo items.
-/

namespace Sys2Proof.Machine

/-- The owner's decision of a SET TEMPO (R12). -/
def ownSetTempo (v : Nat) (s : State) : Answer := acceptIf (outOfTempo v) (setTempoState (s.tempo.setTempo v) s)

/-- The owner's decision of a nudge of a percentage (R13). -/
def ownNudge (percent : Nat) (s : State) : Answer :=
  acceptIf (outOfTempo (nudged percent s.tempo)) (setTempoState (s.tempo.nudge percent) s)

/-- The owner's decision of a TAP (R14, R15). -/
def ownTap (s : State) : Answer :=
  match tapList s.now s.tempo.taps with
  | none => accept s
  | some taps => acceptIf (tapClamps taps) (setTempoState (s.tempo.acceptTap taps) s)

/-- SET_TEMPO (R12). -/
def execSetTempo (r : Req) (payload : List Byte) (s : State) : Result :=
  .next (command r [.md] payload2 payload ownSetTempo s)

/-- NUDGE_UP (R13). -/
def execNudgeUp (r : Req) (payload : List Byte) (s : State) : Result :=
  .next (command r [.md] payloadNone payload (fun _ => ownNudge 101) s)

/-- NUDGE_DOWN (R13). -/
def execNudgeDown (r : Req) (payload : List Byte) (s : State) : Result :=
  .next (command r [.md] payloadNone payload (fun _ => ownNudge 99) s)

/-- TAP (R14, R15). -/
def execTap (r : Req) (payload : List Byte) (s : State) : Result :=
  .next (command r [.md] payloadNone payload (fun _ => ownTap) s)

/-- LIVE_TEMPO_WRITE (R206). -/
def execLiveTempoWrite (r : Req) (inst : Byte) (value : List Byte) (s : State) : Result :=
  .next (itemRequest .liveTempo .swap r inst value s)

/-- TEMPO_CLAMPED_CLEAR (R10). -/
def execTempoClampedClear (r : Req) (op : FlagOp) (inst : Byte) (value : List Byte) (s : State) : Result :=
  .next (itemRequest .tempoClamped (opOfFlag op) r inst value s)

end Sys2Proof.Machine
end

