-- ==== Sys2Proof/Machine/Receive.lean ====
section
/-!
DEFINITION. The receivers of the desk ports (R187): from the code of a REQUEST to its command (R203, TABLE 12-2), the
taking of a valid frame, and the run of characters that holds a bad frame.
-/

namespace Sys2Proof.Machine

/-! ## From a code to its command (R203) -/

/-- The row of the opcode table that writes an item, for a write of an instance of it (TABLE 12-6); none for an item that
no row writes. -/
def itemRow (item : Item) (op : FlagOp) (r : Req) (inst : Byte) (value : List Byte) : Option Instr :=
  match item, op with
  | .videoRate, .swap => some (.videoRateWrite r inst value)
  | .liveTempo, .swap => some (.liveTempoWrite r inst value)
  | .tempoClamped, op => some (.tempoClampedClear r op inst value)
  | .vampOverflow, op => some (.vampOverflowClear r op inst value)
  | .startIgnored, op => some (.startIgnoredClear r op inst value)
  | .laneField f, .swap => some (.laneFieldWrite r f inst value)
  | .laneLevel, .swap => some (.laneLevelWrite r inst value)
  | .clipCounter, .swap => some (.clipCounterReset r inst value)
  | .soundRole, .swap => some (.soundSetWrite r inst value)
  | .slotSetting f, .swap => some (.rigSlotSettingWrite r f inst value)
  | .slotName, .swap => some (.slotNameWrite r inst value)
  | .rigCounter c, .swap => some (.rigCounterReset r c inst value)
  | .cameraEnabled, .swap => some (.cameraEnableWrite r inst value)
  | .cameraCounter c, .swap => some (.cameraCounterReset r c inst value)
  | .monitorField f, op => some (.monitorWrite r f op inst value)
  | .stopLevel, .swap => some (.stopLevelWrite r inst value)
  | .stopProfile, .swap => some (.stopProfileWrite r inst value)
  | .holdOffCount, .swap => some (.holdOffWrite r inst value)
  | .displacedCount, .swap => some (.displacedCountReset r inst value)
  | .resumeCountIn, .swap => some (.resumeCountInWrite r inst value)
  | .noticeMask, op => some (.noticeMaskWrite r op inst value)
  | .badFrames, .swap => some (.badFrameCountReset r inst value)
  | _, _ => none

/-- The command of an item request (codes 0x01 to 0x04): a write of an item that a row writes is that row, and every
other item request is the row READ (log 35). -/
def itemCommand (r : Req) (op : ItemOp) (payload : List Byte) : Instr :=
  match payload with
  | n₁ :: n₀ :: i :: rest =>
    match Item.ofNumber (n₁.toNat * 256 + n₀.toNat), opWrite op rest with
    | some item, some w => (itemRow item w r i rest).getD (.read r op payload)
    | _, _ => .read r op payload
  | _ => .read r op payload

/-- The command that the code byte of a REQUEST names (R203, TABLE 12-2). -/
def commandOf (r : Req) (code : Byte) (payload : List Byte) : Instr :=
  match code.toNat with
  | 0x01 => itemCommand r .read payload
  | 0x02 => itemCommand r .swap payload
  | 0x03 => itemCommand r .set payload
  | 0x04 => itemCommand r .clear payload
  | 0x10 => .claimRole r payload
  | 0x11 => .releaseRole r payload
  | 0x12 => .resetPort r payload
  | 0x13 => .noticeAck r payload
  | 0x20 => .setTempo r payload
  | 0x21 => .nudgeUp r payload
  | 0x22 => .nudgeDown r payload
  | 0x23 => .tap r payload
  | 0x24 => .release r payload
  | 0x25 => .holdOff r payload
  | 0x30 => .beginShow r payload
  | 0x31 => .endShow r payload
  | 0x32 => .go r payload
  | 0x33 => .back r payload
  | 0x34 => .jump r payload
  | 0x40 => .cueInsert r payload
  | 0x41 => .cueReplace r payload
  | 0x42 => .cueDelete r payload
  | 0x43 => .tableClear r payload
  | 0x44 => .cueRead r payload
  | 0x45 => .chaseRead r payload
  | 0x46 => .clipWrite r payload
  | 0x47 => .clipDefine r payload
  | 0x48 => .bind r payload
  | 0x49 => .unbind r payload
  | 0x50 => .stop r payload
  | 0x51 => .ack r payload
  | 0x52 => .ackOverride r payload
  | 0x53 => .resumeAt r payload
  | 0x54 => .mdReady r payload
  | 0x55 => .resumeGo r payload
  | 0x56 => .showReset r payload
  | _ => .unknownCode r code payload

/-- The meaning of a command that is a request; a command that is none is no request. -/
def serve (i : Instr) (s : State) : Result :=
  match i with
  | .videoRateWrite r inst value => execVideoRateWrite r inst value s
  | .setTempo r payload => execSetTempo r payload s
  | .nudgeUp r payload => execNudgeUp r payload s
  | .nudgeDown r payload => execNudgeDown r payload s
  | .tap r payload => execTap r payload s
  | .liveTempoWrite r inst value => execLiveTempoWrite r inst value s
  | .tempoClampedClear r op inst value => execTempoClampedClear r op inst value s
  | .release r payload => execRelease r payload s
  | .vampOverflowClear r op inst value => execVampOverflowClear r op inst value s
  | .laneFieldWrite r field inst value => execLaneFieldWrite r field inst value s
  | .laneLevelWrite r inst value => execLaneLevelWrite r inst value s
  | .clipCounterReset r inst value => execClipCounterReset r inst value s
  | .clipWrite r payload => execClipWrite r payload s
  | .clipDefine r payload => execClipDefine r payload s
  | .soundSetWrite r inst value => execSoundSetWrite r inst value s
  | .cueInsert r payload => execCueInsert r payload s
  | .cueReplace r payload => execCueReplace r payload s
  | .cueDelete r payload => execCueDelete r payload s
  | .tableClear r payload => execTableClear r payload s
  | .cueRead r payload => execCueRead r payload s
  | .chaseRead r payload => execChaseRead r payload s
  | .rigSlotSettingWrite r setting inst value => execRigSlotSettingWrite r setting inst value s
  | .beginShow r payload => execBeginShow r payload s
  | .endShow r payload => execEndShow r payload s
  | .go r payload => execGo r payload s
  | .back r payload => execBack r payload s
  | .jump r payload => execJump r payload s
  | .startIgnoredClear r op inst value => execStartIgnoredClear r op inst value s
  | .bind r payload => execBind r payload s
  | .unbind r payload => execUnbind r payload s
  | .slotNameWrite r inst value => execSlotNameWrite r inst value s
  | .rigCounterReset r counter inst value => execRigCounterReset r counter inst value s
  | .cameraEnableWrite r inst value => execCameraEnableWrite r inst value s
  | .cameraCounterReset r counter inst value => execCameraCounterReset r counter inst value s
  | .monitorWrite r field op inst value => execMonitorWrite r field op inst value s
  | .stop r payload => execStop r payload s
  | .holdOff r payload => execHoldOff r payload s
  | .holdOffWrite r inst value => execHoldOffWrite r inst value s
  | .stopLevelWrite r inst value => execStopLevelWrite r inst value s
  | .stopProfileWrite r inst value => execStopProfileWrite r inst value s
  | .displacedCountReset r inst value => execDisplacedCountReset r inst value s
  | .ack r payload => execAck r payload s
  | .ackOverride r payload => execAckOverride r payload s
  | .resumeAt r payload => execResumeAt r payload s
  | .mdReady r payload => execMdReady r payload s
  | .resumeGo r payload => execResumeGo r payload s
  | .showReset r payload => execShowReset r payload s
  | .resumeCountInWrite r inst value => execResumeCountInWrite r inst value s
  | .unknownCode r code payload => execUnknownCode r code payload s
  | .noticeAck r payload => execNoticeAck r payload s
  | .noticeMaskWrite r op inst value => execNoticeMaskWrite r op inst value s
  | .claimRole r payload => execClaimRole r payload s
  | .releaseRole r payload => execReleaseRole r payload s
  | .resetPort r payload => execResetPort r payload s
  | .badFrameCountReset r inst value => execBadFrameCountReset r inst value s
  | .read r op payload => execRead r op payload s
  | .requestWhileBusy r code payload => execRequestWhileBusy r code payload s
  | .powerOnReset | .showClockSample _ | .wordClockEdge _ _ | .wordClockQualified _ _ | .wordClockSilence => .next s
  | .holdover | .frameTick | .beatCommit | .forceDue _ | .cueBannerExpiry | .beatOnset | .finishingEnd => .next s
  | .voiceStart _ | .voiceEnd _ _ _ | .relayStateChange | .announce _ _ | .status _ _ _ | .done _ _ => .next s
  | .refused _ _ _ | .rigInvalidMessage _ _ | .rigLineBreak _ | .replyTimeout _ | .rigPresenceExpiry _ => .next s
  | .frameStart _ | .frameEnd _ | .frameAbort _ | .cameraExpiry _ | .deskBadFrame _ _ | .deskStrayFrame _ _ => .next s
  | .replySent _ | .notice _ | .noticeSent _ | .deskLineBreak _ | .deskPresenceExpiry _ => .next s

/-- The state a meaning answers; no meaning answers anything else. -/
def stateOf (s : State) : Result → State
  | .next t => t
  | .fault _ => s
  | .refused _ => s

/-! ## Receiving -/

/-- A valid frame is taken on a port (R187): a REQUEST is its command (R189, R203), and a REPLY or NOTICE from a station
is discarded. -/
def takeFrame (p : DeskPort) (f : Frame) (s : State) : State :=
  match f.kind with
  | .request => stateOf s (serve (commandOf ⟨p, f.tag⟩ f.code f.payload) s)
  | .reply | .notice => validFrame p s

/-- What a port's receiver has ended: a valid frame is taken, and a bad frame is counted (R187, R199). -/
def takeDeskEnd (p : DeskPort) (s : State) (x : Option Frame) : State :=
  match x with
  | some f => takeFrame p f s
  | none => s.setPort p { s.port p with badFrames := countUp (s.port p).badFrames }

/-- A run of characters on a desk port: the frames it ends, in order, and the bytes its receiver then holds (R187). -/
def takeDeskChars (p : DeskPort) (r : Received Frame) (s : State) : State :=
  let s := r.ended.foldl (takeDeskEnd p) s
  s.setPort p { s.port p with rx := r.held }

/-- DESK_BAD_FRAME (R187): a run of characters that ends a bad frame. Every bad frame it ends is counted, the start byte
that ends one in its payload begins the next, and the valid frames among them are taken. A run that ends no bad frame is
no such command (log 1). -/
def execDeskBadFrame (port : DeskPort) (chars : List LineChar) (s : State) : Result :=
  let r := receiveFrames (s.port port).rx chars
  if r.ended.contains none then .next (takeDeskChars port r s) else .next s

end Sys2Proof.Machine
end

