-- ==== Sys2Proof/Machine/Dispatch.lean ====
section
/-!
DEFINITION. The meaning of every command: one arm for each constructor of `Instr`, each a direct call of the command's own
definition.
-/

namespace Sys2Proof.Machine

open Sys2Proof

/-- The effect of a command on everything but the queue. -/
def exec (i : Instr) (s : State) : Host.Outcome State Fault Refusal :=
  match i with
  | .powerOnReset => Sys2Proof.Machine.execPowerOnReset s
  | .showClockSample relayClosed => Sys2Proof.Machine.execShowClockSample relayClosed s
  | .wordClockEdge interval relayClosed => Sys2Proof.Machine.execWordClockEdge interval relayClosed s
  | .wordClockQualified interval relayClosed => Sys2Proof.Machine.execWordClockQualified interval relayClosed s
  | .wordClockSilence => Sys2Proof.Machine.execWordClockSilence s
  | .holdover => Sys2Proof.Machine.execHoldover s
  | .frameTick => Sys2Proof.Machine.execFrameTick s
  | .videoRateWrite r inst value => Sys2Proof.Machine.execVideoRateWrite r inst value s
  | .setTempo r payload => Sys2Proof.Machine.execSetTempo r payload s
  | .nudgeUp r payload => Sys2Proof.Machine.execNudgeUp r payload s
  | .nudgeDown r payload => Sys2Proof.Machine.execNudgeDown r payload s
  | .tap r payload => Sys2Proof.Machine.execTap r payload s
  | .liveTempoWrite r inst value => Sys2Proof.Machine.execLiveTempoWrite r inst value s
  | .tempoClampedClear r op inst value => Sys2Proof.Machine.execTempoClampedClear r op inst value s
  | .beatCommit => Sys2Proof.Machine.execBeatCommit s
  | .forceDue slot => Sys2Proof.Machine.execForceDue slot s
  | .cueBannerExpiry => Sys2Proof.Machine.execCueBannerExpiry s
  | .beatOnset => Sys2Proof.Machine.execBeatOnset s
  | .finishingEnd => Sys2Proof.Machine.execFinishingEnd s
  | .release r payload => Sys2Proof.Machine.execRelease r payload s
  | .vampOverflowClear r op inst value => Sys2Proof.Machine.execVampOverflowClear r op inst value s
  | .voiceStart lane => Sys2Proof.Machine.execVoiceStart lane s
  | .voiceEnd lane voice relayClosed => Sys2Proof.Machine.execVoiceEnd lane voice relayClosed s
  | .laneFieldWrite r field inst value => Sys2Proof.Machine.execLaneFieldWrite r field inst value s
  | .laneLevelWrite r inst value => Sys2Proof.Machine.execLaneLevelWrite r inst value s
  | .clipCounterReset r inst value => Sys2Proof.Machine.execClipCounterReset r inst value s
  | .clipWrite r payload => Sys2Proof.Machine.execClipWrite r payload s
  | .clipDefine r payload => Sys2Proof.Machine.execClipDefine r payload s
  | .soundSetWrite r inst value => Sys2Proof.Machine.execSoundSetWrite r inst value s
  | .cueInsert r payload => Sys2Proof.Machine.execCueInsert r payload s
  | .cueReplace r payload => Sys2Proof.Machine.execCueReplace r payload s
  | .cueDelete r payload => Sys2Proof.Machine.execCueDelete r payload s
  | .tableClear r payload => Sys2Proof.Machine.execTableClear r payload s
  | .cueRead r payload => Sys2Proof.Machine.execCueRead r payload s
  | .chaseRead r payload => Sys2Proof.Machine.execChaseRead r payload s
  | .rigSlotSettingWrite r setting inst value => Sys2Proof.Machine.execRigSlotSettingWrite r setting inst value s
  | .beginShow r payload => Sys2Proof.Machine.execBeginShow r payload s
  | .endShow r payload => Sys2Proof.Machine.execEndShow r payload s
  | .go r payload => Sys2Proof.Machine.execGo r payload s
  | .back r payload => Sys2Proof.Machine.execBack r payload s
  | .jump r payload => Sys2Proof.Machine.execJump r payload s
  | .startIgnoredClear r op inst value => Sys2Proof.Machine.execStartIgnoredClear r op inst value s
  | .announce port identity => Sys2Proof.Machine.execAnnounce port identity s
  | .status port sustain held => Sys2Proof.Machine.execStatus port sustain held s
  | .done port bit => Sys2Proof.Machine.execDone port bit s
  | .refused port bit reason => Sys2Proof.Machine.execRefused port bit reason s
  | .rigInvalidMessage port chars => Sys2Proof.Machine.execRigInvalidMessage port chars s
  | .rigLineBreak port => Sys2Proof.Machine.execRigLineBreak port s
  | .replyTimeout slot => Sys2Proof.Machine.execReplyTimeout slot s
  | .rigPresenceExpiry slot => Sys2Proof.Machine.execRigPresenceExpiry slot s
  | .bind r payload => Sys2Proof.Machine.execBind r payload s
  | .unbind r payload => Sys2Proof.Machine.execUnbind r payload s
  | .slotNameWrite r inst value => Sys2Proof.Machine.execSlotNameWrite r inst value s
  | .rigCounterReset r counter inst value => Sys2Proof.Machine.execRigCounterReset r counter inst value s
  | .frameStart camera => Sys2Proof.Machine.execFrameStart camera s
  | .frameEnd camera => Sys2Proof.Machine.execFrameEnd camera s
  | .frameAbort camera => Sys2Proof.Machine.execFrameAbort camera s
  | .cameraExpiry camera => Sys2Proof.Machine.execCameraExpiry camera s
  | .cameraEnableWrite r inst value => Sys2Proof.Machine.execCameraEnableWrite r inst value s
  | .cameraCounterReset r counter inst value => Sys2Proof.Machine.execCameraCounterReset r counter inst value s
  | .monitorWrite r field op inst value => Sys2Proof.Machine.execMonitorWrite r field op inst value s
  | .stop r payload => Sys2Proof.Machine.execStop r payload s
  | .relayStateChange => Sys2Proof.Machine.execRelayStateChange s
  | .holdOff r payload => Sys2Proof.Machine.execHoldOff r payload s
  | .holdOffWrite r inst value => Sys2Proof.Machine.execHoldOffWrite r inst value s
  | .stopLevelWrite r inst value => Sys2Proof.Machine.execStopLevelWrite r inst value s
  | .stopProfileWrite r inst value => Sys2Proof.Machine.execStopProfileWrite r inst value s
  | .displacedCountReset r inst value => Sys2Proof.Machine.execDisplacedCountReset r inst value s
  | .ack r payload => Sys2Proof.Machine.execAck r payload s
  | .ackOverride r payload => Sys2Proof.Machine.execAckOverride r payload s
  | .resumeAt r payload => Sys2Proof.Machine.execResumeAt r payload s
  | .mdReady r payload => Sys2Proof.Machine.execMdReady r payload s
  | .resumeGo r payload => Sys2Proof.Machine.execResumeGo r payload s
  | .showReset r payload => Sys2Proof.Machine.execShowReset r payload s
  | .resumeCountInWrite r inst value => Sys2Proof.Machine.execResumeCountInWrite r inst value s
  | .deskBadFrame port chars => Sys2Proof.Machine.execDeskBadFrame port chars s
  | .deskStrayFrame port frame => Sys2Proof.Machine.execDeskStrayFrame port frame s
  | .requestWhileBusy r code payload => Sys2Proof.Machine.execRequestWhileBusy r code payload s
  | .unknownCode r code payload => Sys2Proof.Machine.execUnknownCode r code payload s
  | .replySent port => Sys2Proof.Machine.execReplySent port s
  | .notice port => Sys2Proof.Machine.execNotice port s
  | .noticeAck r payload => Sys2Proof.Machine.execNoticeAck r payload s
  | .noticeMaskWrite r op inst value => Sys2Proof.Machine.execNoticeMaskWrite r op inst value s
  | .claimRole r payload => Sys2Proof.Machine.execClaimRole r payload s
  | .releaseRole r payload => Sys2Proof.Machine.execReleaseRole r payload s
  | .resetPort r payload => Sys2Proof.Machine.execResetPort r payload s
  | .deskLineBreak port => Sys2Proof.Machine.execDeskLineBreak port s
  | .deskPresenceExpiry port => Sys2Proof.Machine.execDeskPresenceExpiry port s
  | .badFrameCountReset r inst value => Sys2Proof.Machine.execBadFrameCountReset r inst value s
  | .read r op payload => Sys2Proof.Machine.execRead r op payload s
  | .noticeSent port => Sys2Proof.Machine.execNoticeSent port s

end Sys2Proof.Machine
end

