-- ==== Sys2Proof/WellFormed.lean ====
section
/-!
DEFINITION. Which commands can reach the part: a payload or a value fits its frame, an identity is one a rig can
announce, a run of characters is not empty, a stray frame is a REPLY or a NOTICE, and an unknown code names no command. The meanings
are total: they answer a command outside these bounds too.
-/

namespace Sys2Proof

/-- A payload that fits a desk frame (R187). -/
def fitsFrame (payload : List Byte) : Bool := payload.length ≤ Config.payloadMax

/-- An item's value that fits a desk frame behind the item number and the instance (TABLE 12-2). -/
def fitsItem (value : List Byte) : Bool := value.length + 3 ≤ Config.payloadMax

/-- Is the command one that can reach the part? -/
def Instr.wf : Instr → Bool
  | .powerOnReset | .showClockSample _ | .wordClockEdge _ _ | .wordClockQualified _ _ | .wordClockSilence => true
  | .holdover | .frameTick | .beatCommit | .forceDue _ | .cueBannerExpiry | .beatOnset | .finishingEnd => true
  | .voiceStart _ | .voiceEnd _ _ _ => true
  | .status _ _ _ | .done _ _ | .refused _ _ _ | .rigLineBreak _ | .replyTimeout _ | .rigPresenceExpiry _ => true
  | .frameStart _ | .frameEnd _ | .frameAbort _ | .cameraExpiry _ | .relayStateChange => true
  | .replySent _ | .notice _ | .noticeSent _ | .deskLineBreak _ | .deskPresenceExpiry _ => true
  | .announce _ identity => isIdentity identity
  | .rigInvalidMessage _ chars => !chars.isEmpty
  | .deskBadFrame _ chars => !chars.isEmpty
  | .deskStrayFrame _ f => f.kind ≠ .request && fitsFrame f.payload
  | .unknownCode _ code payload => !commandCodes.contains code && fitsFrame payload
  | .requestWhileBusy _ _ payload => fitsFrame payload
  | .read _ _ payload => fitsFrame payload
  | .setTempo _ p | .nudgeUp _ p | .nudgeDown _ p | .tap _ p | .release _ p | .clipWrite _ p | .clipDefine _ p => fitsFrame p
  | .cueInsert _ p | .cueReplace _ p | .cueDelete _ p | .tableClear _ p | .cueRead _ p | .chaseRead _ p => fitsFrame p
  | .beginShow _ p | .endShow _ p | .go _ p | .back _ p | .jump _ p | .bind _ p | .unbind _ p | .stop _ p => fitsFrame p
  | .holdOff _ p | .ack _ p | .ackOverride _ p | .resumeAt _ p | .mdReady _ p | .resumeGo _ p | .showReset _ p => fitsFrame p
  | .noticeAck _ p | .claimRole _ p | .releaseRole _ p | .resetPort _ p => fitsFrame p
  | .videoRateWrite _ _ v | .liveTempoWrite _ _ v | .laneFieldWrite _ _ _ v | .laneLevelWrite _ _ v => fitsItem v
  | .clipCounterReset _ _ v | .soundSetWrite _ _ v | .rigSlotSettingWrite _ _ _ v | .slotNameWrite _ _ v => fitsItem v
  | .rigCounterReset _ _ _ v | .cameraEnableWrite _ _ v | .cameraCounterReset _ _ _ v | .holdOffWrite _ _ v => fitsItem v
  | .stopLevelWrite _ _ v | .stopProfileWrite _ _ v | .displacedCountReset _ _ v | .resumeCountInWrite _ _ v => fitsItem v
  | .badFrameCountReset _ _ v => fitsItem v
  | .tempoClampedClear _ _ _ v | .vampOverflowClear _ _ _ v | .startIgnoredClear _ _ _ v => fitsItem v
  | .monitorWrite _ _ _ _ v | .noticeMaskWrite _ _ _ v => fitsItem v

end Sys2Proof
end

