-- ==== Sys2Proof/Safety.lean ====
section
/-!
DEFINITION. What a safe RK-48 is, in the terms the claims use: how a request is served, and the invariants the manual
states of the whole part, each as a predicate of one state.
-/

namespace Sys2Proof.Machine

/-! ## Requests -/

/-- A port takes a request: none is in progress on it (R189). -/
def Free (r : Req) (s : State) : Prop := (s.port r.port).inProgress = none

/-- A request has been served (R187, R189, R190): the port is ACTIVE with its presence timer restarted, its receiver hunts
again, the reply is in progress and goes out at once if the transmitter is free, the kinds are pending at every port
whose mask holds them (R197), and nothing else of any port record has changed. -/
structure Served (r : Req) (code : ReplyCode) (value : List Byte) (kinds : BitVec 8) (s t : State) : Prop where
  reply : (t.port r.port).inProgress =
    some { tag := r.tag, reply := { code := code, payload := value }, begun := (s.port r.port).tx.isNone }
  sent : (t.port r.port).tx =
    ((s.port r.port).tx <|> some ⟨.reply, replyFrame r.tag { code := code, payload := value }⟩)
  active : (t.port r.port).active = true
  present : (t.port r.port).presentAt = s.now
  hunting : (t.port r.port).rx = []
  busy : (t.port r.port).waitingBusy = (s.port r.port).waitingBusy
  pending : ∀ q, (t.port q).pendingSet = (s.port q).pendingSet ||| ((s.port q).mask &&& kinds)
  others : ∀ q, (t.port q).role = (s.port q).role ∧ (t.port q).mask = (s.port q).mask ∧
    (t.port q).outstanding = (s.port q).outstanding ∧ (t.port q).badFrames = (s.port q).badFrames
  elsewhere : ∀ q, q ≠ r.port → (t.port q).active = (s.port q).active ∧ (t.port q).presentAt = (s.port q).presentAt ∧
    (t.port q).inProgress = (s.port q).inProgress ∧ (t.port q).waitingBusy = (s.port q).waitingBusy ∧
    (t.port q).tx = (s.port q).tx ∧ (t.port q).rx = (s.port q).rx

/-- The reply in progress on a port. -/
def Replied (r : Req) (code : ReplyCode) (value : List Byte) (t : State) : Prop :=
  (t.port r.port).inProgress.map (fun q => (q.tag, q.reply)) = some (r.tag, { code := code, payload := value })

/-- The kinds that a change makes pending: the kind where there is a change, none where there is none. -/
def kindIf (changed : Bool) (k : NoticeKind) : BitVec 8 := if changed then k.bit else 0

/-- The numbers that two and four payload bytes carry, most significant byte first (R202). -/
def word2 (a b : Byte) : Nat := a.toNat * 256 + b.toNat
def word4 (a b c d : Byte) : Nat := ((a.toNat * 256 + b.toNat) * 256 + c.toNat) * 256 + d.toNat

/-- The port of a request holds a role (R191). -/
def FromRole (role : Role) (r : Req) (s : State) : Prop := (s.port r.port).role = some role

/-- No stop source is raised (R152). -/
def NothingRaised (s : State) : Prop := ∀ i, s.stops.isRaised i = false

/-- The ring and the counts of a camera at a frame start, once any frame still open is closed (R123). -/
def CameraRec.Closed (c d : CameraRec) : Prop :=
  (∃ i, (c.slot i).state = .filling ∧ (∀ j, j ≠ i → (c.slot j).state ≠ .filling) ∧
    d = { c.setSlot i { c.slot i with state := .free } with aborts := countUp c.aborts, goodRun := 0 }) ∨
  ((∀ i, (c.slot i).state ≠ .filling) ∧ d = { c with goodRun := if c.frameOpen then 0 else c.goodRun })

/-- A state in which a rig event is followed by nothing outside the Rig Controller: no stop source is raised, the stop
state is CLEAR, STOPPED, AWAIT_RESUME or HALTED, and in SHOW no slot is in FAULT (R118, R173, R179). -/
structure RigsQuiet (s : State) : Prop where
  quiet : NothingRaised s
  state : s.stops.state = .clear ∨ s.stops.state = .stopped ∨ s.stops.state = .awaitResume ∨ s.stops.state = .halted
  sound : s.inShow = true → ∀ k, (s.rig k).state ≠ .fault

/-- A port and a slot are bound to each other, and to no other (R101). `BindInv` gives it of every bound slot. -/
structure BoundPair (p : RigPort) (k : Slot) (s : State) : Prop where
  slot : (s.rigPort p).boundSlot = some k
  port : (s.rig k).boundPort = some p
  ports : ∀ q, q ≠ p → (s.rigPort q).boundSlot ≠ some k
  slots : ∀ j, j ≠ k → (s.rig j).boundPort ≠ some p

/-- What a change that is sent at the show clock leaves in a rig record (R107). -/
def Rig.sent (r : Rig) (patch : Patch) (kind : ChangeKind) (bit : Bool) (now : Nat) : Rig :=
  { r with
    state := .changing, pendingChange := none,
    inFlight := some { patch := patch, kind := kind, bit := bit, sent := now, resent := false } }

/-- The three bytes of a sample, most significant byte first (TABLE 12-2). -/
def sampleBytes (x : Sample) : List Byte := [(x >>> 16).setWidth 8, (x >>> 8).setWidth 8, x.setWidth 8]

/-- The tempo that the next commit fixes, and the tempo state after it (R16, R18). -/
def committedTempo (t : TempoState) : Nat :=
  match t.mode, t.ramp with
  | .ramp, some r =>
    if r.length ≤ r.done + 1 then r.t1
    else ((r.t0 : Int) + (((r.t1 : Int) - r.t0) * (r.done + 1)).tdiv r.length).toNat
  | .live, _ => t.live
  | _, _ => t.current

def tempoAfterCommit (t : TempoState) : TempoState :=
  match t.mode, t.ramp with
  | .ramp, some r =>
    if r.length ≤ r.done + 1 then { t with mode := .fixed, current := r.t1, ramp := none }
    else { t with current := committedTempo t, ramp := some { r with done := r.done + 1 } }
  | _, _ => t

/-- A commit of the onset `o` is due at the show clock, with no cue armed and no stop source raised, after the beat `p`
(R22, R82, R158). -/
structure CommitDue (o : Nat) (s : State) : Prop where
  onset : s.beats.nextOnset = some o
  due : o / 65536 ≤ s.now + 4800
  armed : s.pointer.armed = none
  quiet : NothingRaised s

/-! ## What a commit and a review leave -/

/-- The starts that a committed beat calls for on a lane (R46, R47): for the beat itself, for each of its subdivisions at
the position of R17, and for the word of a count-in beat, where the role of the lane's sound set names a clip that the
directory holds. A sound set's roles are DOWNBEAT, BEAT, SUBDIVISION and the words ONE to FOUR, in that order. -/
def Lane.CallsFor (g : ClickGen) (b : Beat) (l : Lane) (e : StartEntry) : Prop :=
  l.enabled = true ∧ ∃ (voice : VoiceKind) (role position : Nat) (i : Fin 28) (k : Fin 16) (c : Clip),
    i.val = 7 * l.soundSet + role ∧ tget g.roles i = some k ∧ tget g.directory k = some c ∧
    e = { sample := position / 65536 - l.lead, voice := voice, clipStart := c.start, clipLength := c.length, beat := b.onset } ∧
    ((voice = .click ∧ position = b.onset ∧
        ((l.accent = .downbeat ∧ role = if b.downbeat then 0 else 1) ∨ (l.accent = .flat ∧ role = 1))) ∨
      (voice = .click ∧ role = 2 ∧
        ∃ j, 1 ≤ j ∧ j < l.subdivision ∧ position = b.onset + b.period * j / l.subdivision) ∨
      (voice = .count ∧ position = b.onset ∧ b.countIn = true ∧ l.countVoice = true ∧ 1 ≤ b.beat ∧ b.beat ≤ 4 ∧
        role = b.beat + 2))

/-- A commit adds its starts to the lists of the lanes (R46, R47). -/
def StartsAdded (b : Beat) (s t : State) : Prop :=
  ∀ i e, e ∈ (t.clicks.lane i).starts ↔ e ∈ (s.clicks.lane i).starts ∨ (s.clicks.lane i).CallsFor s.clicks b e

/-- A commit sets the flash target of each monitor in CLICK mode: the sample of the onset less the lead of the paired
lane, and the beat's kind (R143). -/
def TargetsSet (b : Beat) (s t : State) : Prop :=
  ∀ m, tget t.overlay.flashes m =
    let mon := s.picture.monitor m
    let lead := match mon.pairedLane with
      | some l => (s.clicks.lane l).lead
      | none => 0
    if mon.flashMode = .click then
      { tget s.overlay.flashes m with
        target := some { sample := b.onset / 65536 - lead, downbeat := b.downbeat, beat := b.onset } }
    else tget s.overlay.flashes m

/-- The record a push makes at a bar (TABLE 2-3, R34). -/
def VampSpec.At (bar : Nat) (v : VampSpec) : Vamp :=
  { kind := v.kind, start := bar, length := v.length, last := min (bar + v.length - 1) 9999, passes := v.passes, pass := 1,
    released := false }

/-- The pushes of a pending push list at a bar, onto the stack that `t` would have without them: in order, up to the
stack's capacity of 4, with VAMP_OVERFLOW set, and the FAULT kind pending, by one that does not fit (R34). -/
structure PushesMade (bar : Nat) (pushes : List VampSpec) (stack : List Vamp) (s t : State) : Prop where
  vamps : t.beats.vamps = ((pushes.take (4 - stack.length)).map (VampSpec.At bar)).reverse ++ stack
  overflow : t.beats.overflow = (s.beats.overflow || decide (4 - stack.length < pushes.length))
  fault : s.beats.overflow = false → 4 - stack.length < pushes.length →
    ∀ q, (s.port q).mask &&& 0x80 = 0x80 → (t.port q).pendingSet &&& 0x80 = 0x80

/-- The restore of a slot to a patch is complete (R179): it is settled there, in FAULT or without a bound port. -/
def Rig.Restored (r : Rig) (x : Patch) : Prop :=
  r.boundPort = none ∨ r.state = .fault ∨ (r.inFlight = none ∧ r.pendingChange = none ∧ r.applied = some x)

/-- A review leaves in the restore set the restores that are not complete (R179). -/
def RestoresKept (s t : State) : Prop :=
  ∀ m, m ∈ t.resume.restoreSet ↔ m ∈ s.resume.restoreSet ∧ ¬ (t.rig m.1).Restored m.2

/-- The stop state between RESTORING and RESUME_ARMED: armed exactly with no restore left and md_ready set (R179). -/
def ArmedWhenRestored (t : State) : Prop :=
  t.stops.state = if t.resume.restoreSet = [] ∧ t.resume.mdReady = true then .resumeArmed else .restoring

/-- The arrival test on the state an event leaves (R173): the click, the rigs and the banner. -/
structure ArrivalMet (t : State) : Prop where
  click : t.beats.click = .idle ∨ t.stops.effective.click = .continued
  rigs : t.stops.effective.rigs = .none ∨ ∀ k, (t.rig k).boundPort = none ∨ (t.rig k).state = .fault ∨
    (t.rig k).settledAt (t.tables.setting k).safe = true
  shown : if t.stops.effective.video = .none then t.stops.topTicked = true else t.stops.topReported = true

/-- RIG_FAULT is raised exactly where its condition holds: in SHOW with a slot in FAULT that is bound or required
(R118). -/
def RigFaultTracked (s : State) : Prop :=
  s.stops.isRaised .rigFault = true ↔ s.inShow = true ∧
    ∃ j, (s.rig j).state = .fault ∧ ((s.rig j).boundPort ≠ none ∨ (s.tables.setting j).required = true)

/-- A restore is under way in SHOW, with nothing raised and no pending SAFE, and no slot but `k` in FAULT. -/
structure Restoring (k : Slot) (s : State) : Prop where
  quiet : NothingRaised s
  inShow : s.inShow = true
  state : s.stops.state = .restoring ∨ s.stops.state = .resumeArmed
  sound : ∀ j, j ≠ k → (s.rig j).state ≠ .fault
  noSafe : ∀ j x, (s.rig j).pendingChange = some x → x.kind ≠ .safe

/-- The kind of the first change of a slot that is bound in SHOW, and its patch (R101). -/
def firstOf (k : Slot) (s : State) : Patch × ChangeKind :=
  let chase := fun a => s.tables.resolve k (s.tables.patchChase a k).1
  let current := match s.pointer.current with
    | some n => chase (.cue n)
    | none => chase .first
  match s.stops.state with
  | .halted => ((s.tables.setting k).safe, .safe)
  | .stopping | .stopped =>
    if s.stops.effective.rigs = .safe then ((s.tables.setting k).safe, .safe) else (current, .restore)
  | .restoring | .resumeArmed =>
    match s.resume.target with
    | some t => (chase (.cue t.cue), .restore)
    | none => (chase .first, .restore)
  | .clear | .awaitResume => (current, .restore)

/-! ## What a receiver takes -/

/-- The command that a valid message of a rig is (R205). -/
def messageCommand (p : RigPort) : RigMessage → Instr
  | .announce identity => .announce p identity
  | .status sustain held => .status p sustain held
  | .done bit => .done p bit
  | .refused bit reason => .refused p bit reason

/-- The command that a valid frame of a station is (R187, R203). -/
def frameCommand (p : DeskPort) (f : Frame) : Instr :=
  match f.kind with
  | .request => commandOf ⟨p, f.tag⟩ f.code f.payload
  | .reply | .notice => .deskStrayFrame p f

/-- The state in which a port has counted one more bad frame, with `held` in its receiver (R199). -/
def State.badFrame (p : DeskPort) (held : List Byte) (s : State) : State :=
  s.setPort p { s.port p with badFrames := min ((s.port p).badFrames + 1) 65535, rx := held }

/-! ## The requests of a desk -/

/-- A command of TABLE 12-2: where it comes from, the roles it is open to (absent where any port may send it), and whether
its payload decodes. -/
structure CommandRequest where
  from_ : Req
  roles : Option (List Role)
  decodes : Bool
  deriving DecidableEq, Repr

/-- The command of TABLE 12-2 that a command of the part is, if any. -/
def commandRequest : Instr → Option CommandRequest
  | .setTempo r p => some ⟨r, some [.md], (payload2 p).isSome⟩
  | .nudgeUp r p => some ⟨r, some [.md], (payloadNone p).isSome⟩
  | .nudgeDown r p => some ⟨r, some [.md], (payloadNone p).isSome⟩
  | .tap r p => some ⟨r, some [.md], (payloadNone p).isSome⟩
  | .release r p => some ⟨r, some [.md], (payloadNone p).isSome⟩
  | .clipWrite r p => some ⟨r, some [.prog], (payloadClipWrite p).isSome⟩
  | .clipDefine r p => some ⟨r, some [.prog], (payloadClipDefine p).isSome⟩
  | .cueInsert r p => some ⟨r, some [.prog], (payloadCue p).isSome⟩
  | .cueReplace r p => some ⟨r, some [.prog], (payloadCue p).isSome⟩
  | .cueDelete r p => some ⟨r, some [.prog], (payload4 p).isSome⟩
  | .tableClear r p => some ⟨r, some [.prog], (payloadNone p).isSome⟩
  | .beginShow r p => some ⟨r, some [.sm], (payloadNone p).isSome⟩
  | .endShow r p => some ⟨r, some [.sm], (payloadNone p).isSome⟩
  | .go r p => some ⟨r, some [.sm], (payloadNone p).isSome⟩
  | .back r p => some ⟨r, some [.sm], (payloadNone p).isSome⟩
  | .jump r p => some ⟨r, some [.sm], (payload4 p).isSome⟩
  | .bind r p => some ⟨r, some [.prog], (payloadBind p).isSome⟩
  | .unbind r p => some ⟨r, some [.prog], (payload1 p).isSome⟩
  | .stop r p => some ⟨r, some [.sm, .md, .foh], (payloadNone p).isSome⟩
  | .holdOff r p => some ⟨r, some [.md], (payload1 p).isSome⟩
  | .ack r p => some ⟨r, some [.md], (payloadNone p).isSome⟩
  | .ackOverride r p => some ⟨r, some [.sm], (payloadNone p).isSome⟩
  | .resumeAt r p => some ⟨r, some [.sm], (payloadResumeAt p).isSome⟩
  | .mdReady r p => some ⟨r, some [.md], (payloadNone p).isSome⟩
  | .resumeGo r p => some ⟨r, some [.sm], (payloadNone p).isSome⟩
  | .showReset r p => some ⟨r, some [.sm], (payloadNone p).isSome⟩
  | .cueRead r p => some ⟨r, none, (payloadCueRead p).isSome⟩
  | .chaseRead r p => some ⟨r, none, (payload4 p).isSome⟩
  | .noticeAck r p => some ⟨r, none, (payloadKinds p).isSome⟩
  | .claimRole r p => some ⟨r, none, (payloadRole p).isSome⟩
  | .releaseRole r p => some ⟨r, none, (payloadNone p).isSome⟩
  | .resetPort r p => some ⟨r, none, (payloadNone p).isSome⟩
  | _ => none

/-- A write of an item: where it comes from, the item, the operation, the instance and the value bytes (R195). -/
structure ItemWrite where
  from_ : Req
  item : Item
  op : FlagOp
  inst : Byte
  value : List Byte
  deriving DecidableEq, Repr

/-- The item write that a command of the part is, if any. -/
def itemWrite : Instr → Option ItemWrite
  | .videoRateWrite r i v => some ⟨r, .videoRate, .swap, i, v⟩
  | .liveTempoWrite r i v => some ⟨r, .liveTempo, .swap, i, v⟩
  | .tempoClampedClear r op i v => some ⟨r, .tempoClamped, op, i, v⟩
  | .vampOverflowClear r op i v => some ⟨r, .vampOverflow, op, i, v⟩
  | .laneFieldWrite r f i v => some ⟨r, .laneField f, .swap, i, v⟩
  | .laneLevelWrite r i v => some ⟨r, .laneLevel, .swap, i, v⟩
  | .clipCounterReset r i v => some ⟨r, .clipCounter, .swap, i, v⟩
  | .soundSetWrite r i v => some ⟨r, .soundRole, .swap, i, v⟩
  | .rigSlotSettingWrite r f i v => some ⟨r, .slotSetting f, .swap, i, v⟩
  | .startIgnoredClear r op i v => some ⟨r, .startIgnored, op, i, v⟩
  | .slotNameWrite r i v => some ⟨r, .slotName, .swap, i, v⟩
  | .rigCounterReset r f i v => some ⟨r, .rigCounter f, .swap, i, v⟩
  | .cameraEnableWrite r i v => some ⟨r, .cameraEnabled, .swap, i, v⟩
  | .cameraCounterReset r f i v => some ⟨r, .cameraCounter f, .swap, i, v⟩
  | .monitorWrite r f op i v => some ⟨r, .monitorField f, op, i, v⟩
  | .holdOffWrite r i v => some ⟨r, .holdOffCount, .swap, i, v⟩
  | .stopLevelWrite r i v => some ⟨r, .stopLevel, .swap, i, v⟩
  | .stopProfileWrite r i v => some ⟨r, .stopProfile, .swap, i, v⟩
  | .displacedCountReset r i v => some ⟨r, .displacedCount, .swap, i, v⟩
  | .resumeCountInWrite r i v => some ⟨r, .resumeCountIn, .swap, i, v⟩
  | .noticeMaskWrite r op i v => some ⟨r, .noticeMask, op, i, v⟩
  | .badFrameCountReset r i v => some ⟨r, .badFrames, .swap, i, v⟩
  | _ => none

/-- The port and tag of a command that is a request. -/
def requestFrom (c : Instr) : Option Req :=
  match c with
  | .read r _ _ | .unknownCode r _ _ | .requestWhileBusy r _ _ => some r
  | _ => (commandRequest c).map (·.from_) <|> (itemWrite c).map (·.from_)

/-! ## Invariants -/

/-- A tempo within the limits of the part (R9). -/
def TempoOk (t : Nat) : Prop := Config.tempoMin ≤ t ∧ t ≤ Config.tempoMax

/-- A ramp between two legal tempos, with beats still to commit (1.6, R18). -/
def Ramp.Ok (r : Ramp) : Prop := TempoOk r.t0 ∧ TempoOk r.t1 ∧ r.done < r.length

/-- current_tempo, live_tempo, the ramp and the tempo of every beat record lie within 2,000 to 30,000 centi-BPM (R9), and
current_tempo follows live_tempo in LIVE (TABLE 1-3). The tempos of the cue list are those a cue edit accepts (R59). -/
structure TempoInv (s : State) : Prop where
  current : TempoOk s.tempo.current
  live : TempoOk s.tempo.live
  ramp : ∀ r, s.tempo.ramp = some r → r.Ok
  follows : s.tempo.mode = .live → s.tempo.current = s.tempo.live
  currentBeat : ∀ b, s.beats.current = some b → TempoOk b.tempo
  nextBeat : ∀ b, s.beats.next = some b → TempoOk b.tempo
  cues : ∀ c ∈ s.tables.cues, c.tempo.valid = true

/-- Two clips share an address (R44). -/
def Clip.Share (a b : Clip) : Prop :=
  ∃ x, a.start ≤ x ∧ x < a.start + a.length ∧ b.start ≤ x ∧ x < b.start + b.length

/-- The clip memory holds its canonical form (every listed address exists, none twice), and the present entries of the
directory are clips of 1 to 8,192 samples inside the memory that share no address (R43, R44). -/
structure ClipInv (s : State) : Prop where
  memory : ClipMem.wf s.clicks.memory = true
  spans : ∀ n c, tget s.clicks.directory n = some c → 1 ≤ c.length ∧ c.length ≤ 8192 ∧ c.start + c.length ≤ 65536
  apart : ∀ m n c d, m ≠ n → tget s.clicks.directory m = some c → tget s.clicks.directory n = some d → ¬ c.Share d

/-- Levels that rise strictly from the top of the stack down to 0 at the bottom. -/
def levelsFall : List StopRecord → Prop
  | [] => True
  | [r] => 1 ≤ r.level
  | r :: q :: l => q.level < r.level ∧ levelsFall (q :: l)

/-- The stop stack holds at most four records, from distinct sources, with levels strictly increasing from bottom to top
(R156), and the hold-off count is never above 32 (R166). A record's level is its source's, since the levels change only in
SETUP, where the stack is empty (R58, R171). -/
structure StopInv (s : State) : Prop where
  size : s.stops.stack.length ≤ Config.stackCapacity
  levels : levelsFall s.stops.stack
  distinct : (s.stops.stack.map (·.source)).Nodup
  taken : ∀ r ∈ s.stops.stack, r.level = s.stops.level r.source
  inShow : s.stops.stack ≠ [] → s.inShow = true
  holdOff : s.stops.holdOff ≤ Config.holdOffMax

/-- The stop stack is empty in CLEAR, HALTED and the states of the resume, and holds a record in STOPPING and STOPPED
(TABLE 9-3). -/
def StackFits (s : State) : Prop :=
  s.stops.stack = [] ↔ (s.stops.state ≠ .stopping ∧ s.stops.state ≠ .stopped)

/-- Each role is held by at most one desk port (R191), and every pending set lies within its mask (R197). -/
structure DeskInv (s : State) : Prop where
  roles : ∀ p q : DeskPort, (s.port p).role = (s.port q).role → (s.port p).role ≠ none → p = q
  masked : ∀ p : DeskPort, (s.port p).pendingSet &&& ~~~(s.port p).mask = 0

/-- Numbers that rise strictly. -/
def cuesRise : List Cue → Prop
  | [] => True
  | [_] => True
  | c :: d :: l => c.number < d.number ∧ cuesRise (d :: l)

/-- The cue list ascends by number without duplicates, with at most 1,000 cues and 4,000 change entries (R61, R62). -/
structure CueInv (s : State) : Prop where
  order : cuesRise s.tables.cues
  size : s.tables.cues.length ≤ Config.cueCapacity
  pool : poolUsed s.tables.cues ≤ Config.poolCapacity

/-- The beat records are absent while the click is IDLE, a record stands only with the next onset or in FINISHING, the
vamps hold no more than their capacities, and every record's beat in bar is at least 1, with DOWNBEAT set exactly on beat
1 (R20, R27, R30, R33, R34, R38). -/
structure BeatInv (s : State) : Prop where
  idle : s.beats.click = .idle → s.beats.current = none ∧ s.beats.next = none ∧ s.beats.nextOnset = none ∧
    s.beats.vamps = []
  onset : s.beats.nextOnset = none → s.beats.click = .idle ∨ s.beats.click = .finishing
  vamps : s.beats.vamps.length ≤ Config.vampCapacity
  pushes : s.beats.pushes.length ≤ Config.pushCapacity
  currentBeat : ∀ b, s.beats.current = some b → 1 ≤ b.beat ∧ b.downbeat = (b.beat == 1)
  nextBeat : ∀ b, s.beats.next = some b → 1 ≤ b.beat ∧ b.downbeat = (b.beat == 1)

/-- The run of beats and its vamps. The next onset is the latest beat's onset plus its period, and so is NEXT's onset
CURRENT's (R21, R22); a running click has a latest beat (R20). While the vamp stack is non-empty, the bar of the latest
beat, where it is no count-in beat, lies within the innermost record's bars (R33). The rest is what these rest on: no
vamp is pushed before the first music bar (R31, R34), vamps nest, and the bar numbers that can come next are those of
TABLE 2-1, TABLE 2-3 and TABLE 4-1. -/
structure BarInv (s : State) : Prop where
  onset : ∀ p o, s.beats.latest = some p → s.beats.nextOnset = some o → o = p.onset + p.period
  follows : ∀ c n, s.beats.current = some c → s.beats.next = some n → n.onset = c.onset + c.period
  running : s.beats.click ≠ .idle → s.beats.latest ≠ none
  within : ∀ p v outer, s.beats.latest = some p → p.countIn = false → s.beats.vamps = v :: outer →
    (v.start : Int) ≤ p.bar ∧ p.bar ≤ (v.last : Int)
  fresh : s.beats.firstBarDue = true → s.beats.vamps = []
  countIn : ∀ p, s.beats.latest = some p → p.countIn = true → s.beats.firstBarDue = true
  bar : ∀ p, s.beats.latest = some p → p.countIn = false → 1 ≤ p.bar ∧ p.bar ≤ 9999
  nested : s.beats.vamps.Pairwise fun inner outer => outer.start ≤ inner.start
  spans : ∀ v ∈ s.beats.vamps, 1 ≤ v.start ∧ v.start ≤ v.last ∧ v.last ≤ 9999
  pushes : ∀ v ∈ s.beats.pushes, v.valid = true
  pendingBar : ∀ n, s.beats.pendingBar = some n → 1 ≤ n ∧ n ≤ 9999
  startBar : 1 ≤ s.beats.startBar ∧ s.beats.startBar ≤ 9999
  cues : ∀ c ∈ s.tables.cues, optWithin 1 9999 c.scoreBar = true ∧ ∀ v, c.vamp = some v → v.valid = true

/-- The binding map is one to one: a port holds a slot exactly where the slot holds the port (R98, R99, R101). -/
def BindInv (s : State) : Prop :=
  ∀ (p : RigPort) (k : Slot), (s.rigPort p).boundSlot = some k ↔ (s.rig k).boundPort = some p

/-- Each frame slot's reader count is the number of monitors that hold it, so that it lies within 0 to 6 (R134); a held
slot is READY, so that no writer takes it (R134, R136); and each ready list holds the READY slots of its ring, none
twice, and a ring at most one FILLING slot (R121). -/
structure PictureInv (s : State) : Prop where
  readers : ∀ k i, ((s.picture.cam k).slot i).readers =
    allMonitors.countP fun m => decide ((s.picture.monitor m).held = some ⟨k, i⟩)
  held : ∀ m id, (s.picture.monitor m).held = some id → ((s.picture.cam id.camera).slot id.index).state = .ready
  listed : ∀ k i, i ∈ (s.picture.cam k).ready ↔ ((s.picture.cam k).slot i).state = .ready
  once : ∀ k, (s.picture.cam k).ready.Nodup
  oneFilling : ∀ k i j, ((s.picture.cam k).slot i).state = .filling → ((s.picture.cam k).slot j).state = .filling → i = j

end Sys2Proof.Machine
end

