-- ==== Sys2Proof/Certificates/Slice0/Obligations.lean ====
section
/-!
DEFINITION. The statements for the provers, chapter by chapter. A request is stated on a port that is free (R189), from
a port that holds a role that may send it; what turns a request away is stated once for all requests. A next state is
given whole but for the desk records, whose every field `Served` gives. Where a statement rests on a choice of the model,
its docstring names the log entry.
-/

open Sys2Proof Sys2Proof.Machine

/-! ## The step -/

/-- A step carries out the command at the front of the queue on the state that holds the rest of the queue. On an
empty queue the part idles (the model's choice, log 5). -/
def Obligations.StepTakesTheFront : Prop :=
  (∀ (c : Instr) (q : List Instr) (s : State), step (s.withPending (c :: q)) = exec c (s.withPending q)) ∧
  (∀ s : State, s.pending = [] → step s = .next s)

/-- Every command answers a next state, whatever the state, and leaves the commands that wait (log 5). -/
def Obligations.CommandsComplete : Prop :=
  ∀ (c : Instr) (s : State), ∃ t, exec c s = .next t ∧ t.pending = s.pending

/-- Power-on reset puts every part of the state at its power-on value (R1), but for the commands that wait (log 5); the
parts to which the manual gives no value then have the one that log 27 names (the model's choice). The power-on values
that the manual states (R1, R2, R7, R8, R19, R40, R56, R74, R95, R120, R138, R151, R172, R185, R200); and every
receiver hunts (log 27). -/
def Obligations.PowerOnReset : Prop :=
  (∀ s : State, exec .powerOnReset s = .next { State.reset with pending := s.pending }) ∧
  (State.reset.time.clock = 0 ∧ State.reset.time.source = .internal ∧ State.reset.time.goodEdges = 0 ∧
  State.reset.time.wordSeen = false ∧ State.reset.time.holdovers = 0 ∧ State.reset.time.rate = .fps50 ∧
  State.reset.time.tickPos = 0 ∧
  State.reset.tempo.mode = .fixed ∧ State.reset.tempo.current = 12000 ∧ State.reset.tempo.live = 12000 ∧
  State.reset.tempo.ramp = none ∧ State.reset.tempo.taps = [] ∧ State.reset.tempo.clamped = false ∧
  State.reset.beats.click = .idle ∧ State.reset.beats.current = none ∧ State.reset.beats.next = none ∧
  State.reset.beats.nextOnset = none ∧ State.reset.beats.meter = 4 ∧ State.reset.beats.pendingMeter = none ∧
  State.reset.beats.pendingBar = none ∧ State.reset.beats.vamps = [] ∧ State.reset.beats.pushes = [] ∧
  State.reset.beats.overflow = false ∧
  (∀ a, ClipMem.read State.reset.clicks.memory a = 0) ∧ (∀ i, tget State.reset.clicks.directory i = none) ∧
  (∀ i, tget State.reset.clicks.roles i = none) ∧
  State.reset.tables.session = .setup ∧ State.reset.tables.cues = [] ∧ State.reset.tables.freeCount = 4000 ∧
  State.reset.pointer.standing = .absent ∧ State.reset.pointer.current = none ∧ State.reset.pointer.armed = none ∧
  State.reset.pointer.chasePending = false ∧ State.reset.pointer.startIgnored = false ∧
  (∀ k, (State.reset.rig k).state = .absent ∧ (State.reset.rig k).boundPort = none ∧ (State.reset.rig k).applied = none) ∧
  (∀ p, (State.reset.rigPort p).linkUp = false ∧ (State.reset.rigPort p).bit = false ∧ (State.reset.rigPort p).rx = []) ∧
  (∀ k, (State.reset.picture.cam k).state = .off) ∧ (∀ m, (State.reset.picture.monitor m).source = .off) ∧
  State.reset.overlay.banner = none ∧
  State.reset.stops.stack = [] ∧ State.reset.stops.state = .clear ∧ State.reset.stops.holdOff = 0 ∧
  State.reset.stops.displaced = 0 ∧ NothingRaised State.reset ∧ State.reset.stops.levels = #v[15, 14, 13, 9, 8, 6, 5, 4, 0] ∧
  State.reset.resume.target = none ∧ State.reset.resume.mdReady = false ∧ State.reset.resume.restoreSet = [] ∧
  State.reset.resume.countIn = 1 ∧
  (∀ p, (State.reset.port p).active = false ∧ (State.reset.port p).role = none ∧ (State.reset.port p).mask = 0xFF ∧
    (State.reset.port p).pendingSet = 0 ∧ (State.reset.port p).badFrames = 0 ∧ (State.reset.port p).rx = []))

/-! ## Requests turned away -/

/-- A request that finds another in progress on its port, whatever it asks (REQUEST_WHILE_BUSY), changes nothing but
its port's record: the port's presence is restarted; the request in progress stands; the BUSY reply waits for the
transmitter, or begins where it is free and then waits no longer (log 49); and where a BUSY reply already waits the
request is discarded and counted as a bad frame (R189). The receiver hunts after a request (R187, log 41). -/
def Obligations.RequestWhileBusyRefused : Prop :=
  ∀ (c : Instr) (r : Req) (q : Progress) (s : State), c.wf = true → requestFrom c = some r →
    (s.port r.port).inProgress = some q →
    ∃ t, exec c s = .next t ∧ t = { s with desk := t.desk } ∧ (∀ p, p ≠ r.port → t.port p = s.port p) ∧
      (t.port r.port).active = true ∧ (t.port r.port).presentAt = s.now ∧ (t.port r.port).rx = [] ∧
      (t.port r.port).inProgress.map (fun x => (x.tag, x.reply)) = some (q.tag, q.reply) ∧
      (t.port r.port).role = (s.port r.port).role ∧ (t.port r.port).mask = (s.port r.port).mask ∧
      (t.port r.port).pendingSet = (s.port r.port).pendingSet ∧
      (t.port r.port).outstanding = (s.port r.port).outstanding ∧
      ((s.port r.port).waitingBusy = none → (t.port r.port).badFrames = (s.port r.port).badFrames ∧
        (∀ x, (s.port r.port).tx = some x → (t.port r.port).tx = some x ∧ (t.port r.port).waitingBusy = some r.tag) ∧
        ((s.port r.port).tx = none → q.begun = true →
          (t.port r.port).tx = some ⟨.busy, replyFrame r.tag ⟨.busy, []⟩⟩ ∧ (t.port r.port).waitingBusy = none)) ∧
      (∀ w, (s.port r.port).waitingBusy = some w → (t.port r.port).badFrames = countUp (s.port r.port).badFrames ∧
        (∀ x, (s.port r.port).tx = some x → (t.port r.port).tx = some x ∧ (t.port r.port).waitingBusy = some w))

/-- A command whose payload does not decode is refused RANGE and changes nothing (order 2 of R190, R202). A command
from a port whose role may not send it is refused NO_RIGHT and changes nothing (order 5 of R190, R203). A request
whose code names no command is refused UNKNOWN_CODE and changes nothing (order 1 of R190). -/
def Obligations.RequestsTurnedAway : Prop :=
  (∀ (c : Instr) (r : Req) (roles : Option (List Role)) (s : State), commandRequest c = some ⟨r, roles, false⟩ → Free r s →
    ∃ t, exec c s = .next t ∧ t = { s with desk := t.desk } ∧ Served r .range [] 0 s t) ∧
  (∀ (c : Instr) (r : Req) (roles : List Role) (s : State), commandRequest c = some ⟨r, some roles, true⟩ → Free r s →
    (∀ role, (s.port r.port).role = some role → role ∉ roles) →
    ∃ t, exec c s = .next t ∧ t = { s with desk := t.desk } ∧ Served r .noRight [] 0 s t) ∧
  (∀ (r : Req) (code : Byte) (payload : List Byte) (s : State), Free r s → commandCodes.contains code = false →
    ∃ t, exec (.unknownCode r code payload) s = .next t ∧ t = { s with desk := t.desk } ∧
      Served r .unknownCode [] 0 s t)

/-- The checks that every item write meets before its owner's, in their order, and the pure read that a SET or CLEAR
with a zero mask is (R190, R195, R196). -/
def Obligations.ItemWriteChecks : Prop :=
  ∀ (c : Instr) (w : ItemWrite) (s : State), itemWrite c = some w → Free w.from_ s →
    ∃ t, exec c s = .next t ∧
      (opFormOk (opOfFlag w.op) w.value = false ∨ w.item.instances ≤ w.inst.toNat ∨
          (w.op ≠ .swap ∧ w.item.isFlag = false) →
        t = { s with desk := t.desk } ∧ Served w.from_ .range [] 0 s t) ∧
      (w.inst.toNat < w.item.instances → w.item.isFlag = true → w.op ≠ .swap → w.value = [0] →
        t = { s with desk := t.desk } ∧ Served w.from_ .ok (w.item.value w.inst.toNat s) 0 s t) ∧
      (opFormOk (opOfFlag w.op) w.value = true → w.inst.toNat < w.item.instances →
        (w.op = .swap ∨ (w.item.isFlag = true ∧ w.value ≠ [0])) →
        w.item.mayWrite w.from_.port w.inst.toNat s = false →
        t = { s with desk := t.desk } ∧ Served w.from_ .noRight [] 0 s t)

/-- A READ of an instance of an item returns its value, and a pure read of a flag item by a zero mask too; a write of
an item that no port may write is refused READ_ONLY, the SET and CLEAR of such a flag item included; a SET or CLEAR of
an item that is no flag item is refused RANGE (R206, log 36); an unknown item number is refused UNKNOWN_CODE, and an
instance past the item's last RANGE (R190, R195, R196). The value is the one at the request's take, with the port
ACTIVE (R187). -/
def Obligations.ReadReturnsTheValue : Prop :=
  ∀ (r : Req) (op : ItemOp) (n₁ n₀ i : Byte) (rest : List Byte) (s : State), Free r s → opFormOk op rest = true →
    ∃ t, exec (.read r op (n₁ :: n₀ :: i :: rest)) s = .next t ∧
      (Item.ofNumber (word2 n₁ n₀) = none → t = { s with desk := t.desk } ∧ Served r .unknownCode [] 0 s t) ∧
      (∀ item, Item.ofNumber (word2 n₁ n₀) = some item →
        (item.instances ≤ i.toNat → t = { s with desk := t.desk } ∧ Served r .range [] 0 s t) ∧
        (i.toNat < item.instances → op = .read →
          t = { s with desk := t.desk } ∧ Served r .ok (item.value i.toNat (validFrame r.port s)) 0 s t) ∧
        (i.toNat < item.instances → item.isFlag = true → (op = .set ∨ op = .clear) → rest = [0] →
          t = { s with desk := t.desk } ∧ Served r .ok (item.value i.toNat (validFrame r.port s)) 0 s t) ∧
        (item.isFlag = false → (op = .set ∨ op = .clear) → t = { s with desk := t.desk } ∧ Served r .range [] 0 s t) ∧
        (i.toNat < item.instances → (op = .swap ∨ (item.isFlag = true ∧ (op = .set ∨ op = .clear) ∧ rest ≠ [0])) →
          item.writers = .roles [] → t = { s with desk := t.desk } ∧ Served r .readOnly [] 0 s t)) ∧
      (∀ item : Item, item.isFlag = true ↔ item = Item.tempoClamped ∨ item = Item.vampOverflow ∨ item = Item.startIgnored ∨
        item = Item.monitorField .overlayFields ∨ item = Item.noticeMask ∨ item = Item.pendingSet)

/-! ## Timebase and tempo (chapter 1) -/

/-- A show-clock sample counted from the internal reference: the show clock advances by one (R1); each slot of the TDM
frame takes its lane's two voices, summed and saturated (R53 to R55); a saturated sum is counted (R54); each voice
advances, and is SILENT after the last sample of its clip (R49); the written level governs the next sample (R42);
while the source is WORD the period is one with no counted edge (R4); and a show-relay input at the other level than
the relay state's is timed, from 0 at the first such sample (R155, logs 3 and 9). Nothing else changes. The gain at d
dB is 32,767 × 10^(−d/20) rounded to the nearest integer, and 0 at MUTE (R52). -/
def Obligations.SampleCounted : Prop :=
  gainOf 64 = 0 ∧
  (∀ d, d ≤ 63 → (2 * gainOf d - 1) ^ 20 * 10 ^ d < (2 * 32767) ^ 20 ∧ (2 * 32767) ^ 20 < (2 * gainOf d + 1) ^ 20 * 10 ^ d) ∧
  ∀ (closed : Bool) (s : State), ∃ t, exec (.showClockSample closed) s = .next t ∧
    t = { s with
      time := { s.time with clock := s.time.clock + 1, missed := t.time.missed }
      clicks := { s.clicks with lanes := t.clicks.lanes, tdm := t.clicks.tdm }
      stops := { s.stops with relayRun := t.stops.relayRun } } ∧
    t.time.missed = (if s.time.source = .word then min (s.time.missed + 1) 4 else s.time.missed) ∧
    (∀ i : LaneNo,
      let l := s.clicks.lane i
      let sum := voiceOut s.clicks.memory (gainOf l.gainLevel) l.clickVoice +
        voiceOut s.clicks.memory (gainOf l.gainLevel) l.countVoicePlaying
      tget t.clicks.tdm i = BitVec.ofInt 24 (max (-8388608) (min 8388607 sum)) ∧
      t.clicks.lane i = { l with
        clipCount := if -8388608 ≤ sum ∧ sum ≤ 8388607 then l.clipCount else countUp l.clipCount
        clickVoice := l.clickVoice.bind fun p => if p.pos + 1 < p.length then some { p with pos := p.pos + 1 } else none
        countVoicePlaying :=
          l.countVoicePlaying.bind fun p => if p.pos + 1 < p.length then some { p with pos := p.pos + 1 } else none
        gainLevel := l.level }) ∧
    (closed = s.stops.relayAsserted → t.stops.relayRun = none) ∧
    (closed ≠ s.stops.relayAsserted → s.stops.relayRun = none → t.stops.relayRun = some 0) ∧
    (∀ n, closed ≠ s.stops.relayAsserted → s.stops.relayRun = some n → t.stops.relayRun = some (min (n + 1) 480))

/-- A voice's output is floor(clip sample × gain / 32,768), 0 for a SILENT voice; at gain 32,767 it lies between
−8,388,352 and 8,388,351, and at every level it fits the 24-bit range (R53). -/
def Obligations.VoiceOutputIsTheScaledSample : Prop :=
  ∀ (m : ClipMemory) (gain : Nat) (p : Playing), voiceOut m gain none = 0 ∧
    voiceOut m gain (some p) * 32768 ≤ (ClipMem.read m (p.start + p.pos)).toInt * gain ∧
    (ClipMem.read m (p.start + p.pos)).toInt * gain < (voiceOut m gain (some p) + 1) * 32768 ∧
    -8388352 ≤ voiceOut m 32767 (some p) ∧ voiceOut m 32767 (some p) ≤ 8388351 ∧
    (∀ level, level ≤ 64 →
      -8388608 ≤ voiceOut m (gainOf level) (some p) ∧ voiceOut m (gainOf level) (some p) ≤ 8388607)

/-- A word-clock edge while the source is INTERNAL, when it does not qualify the word clock: a first edge only becomes
the reference of the next interval; a good edge adds one to the good-edge count; an edge outside 97 % to 103 % sets it
to 0 (R2). While the source is WORD, an edge before 50 % of the nominal interval is a glitch that changes nothing, and
any other counts one sample (R3). An interval is in millionths of the nominal interval (log 6). That an edge after the
fourth period, which is late for its HOLDOVER, is taken in the same way is the model's choice (log 42). While the
source is INTERNAL, four nominal intervals with no edge set the good-edge count to 0, and the next edge starts a run
with no interval of its own (R2). In WORD it is no such event (log 1). -/
def Obligations.WordClockEdges : Prop :=
  (∀ (interval : Nat) (closed : Bool) (s : State), ∃ t, exec (.wordClockEdge interval closed) s = .next t ∧
    (s.time.source = .internal → s.time.edgeSeen = false → t = { s with time := { s.time with edgeSeen := true } }) ∧
    (s.time.source = .internal → s.time.edgeSeen = true → 970000 ≤ interval → interval ≤ 1030000 →
      s.time.goodEdges + 1 < 48000 → t = { s with time := { s.time with goodEdges := s.time.goodEdges + 1 } }) ∧
    (s.time.source = .internal → s.time.edgeSeen = true → (interval < 970000 ∨ 1030000 < interval) →
      t = { s with time := { s.time with goodEdges := 0 } }) ∧
    (s.time.source = .word → interval < 500000 → t = s) ∧
    (s.time.source = .word → 500000 ≤ interval → t.time = { s.time with clock := s.time.clock + 1, missed := 0 } ∧
      exec (.showClockSample closed) s = .next { t with time := { t.time with missed := min (s.time.missed + 1) 4 } })) ∧
  (∀ s : State,
    (s.time.source = .internal →
      exec .wordClockSilence s = .next { s with time := { s.time with goodEdges := 0, edgeSeen := false } }) ∧
    (s.time.source = .word → exec .wordClockSilence s = .next s))

/-- The good edge that brings the good-edge count to 48,000 switches the source to WORD, by its own row or as a
word-clock edge: word-seen is set, the good-edge count is 0, the sample in progress is completed, so that the show
clock advances by one (log 7), CLOCK is lowered (R5), and the CLOCK kind is pending wherever a mask holds it (R3). The
interval is in millionths of the nominal interval (log 6). Any other edge is no WORD_CLOCK_QUALIFIED (log 4).
Holdover: in WORD, after four reference periods with no counted edge, the source becomes INTERNAL, the holdover count
goes up (saturating at 65,535), the good-edge count is 0, the clock is not advanced, CLOCK is raised (R4, R5), and the
CLOCK kind is pending wherever a mask holds it; the next edge has no interval of its own (log 53). Before the fourth
period, or in INTERNAL, it is no such event (logs 1, 8). -/
def Obligations.ClockSourceSwitches : Prop :=
  (∀ (interval : Nat) (closed : Bool) (s : State),
    (s.time.source = .internal → s.time.edgeSeen = true → 970000 ≤ interval → interval ≤ 1030000 →
      48000 ≤ s.time.goodEdges + 1 →
      ∃ t, exec (.wordClockQualified interval closed) s = .next t ∧ exec (.wordClockEdge interval closed) s = .next t ∧
        t.time = { s.time with clock := s.time.clock + 1, source := .word, wordSeen := true, goodEdges := 0, missed := 0 } ∧
        t.stops.isRaised .clock = false ∧ t.tables = s.tables ∧ t.resume.countIn = s.resume.countIn ∧
        (∀ q, (s.port q).mask &&& 0x20 = 0x20 → (t.port q).pendingSet &&& 0x20 = 0x20)) ∧
    ((s.time.source = .word ∨ s.time.edgeSeen = false ∨ interval < 970000 ∨ 1030000 < interval ∨
        s.time.goodEdges + 1 < 48000) → exec (.wordClockQualified interval closed) s = .next s)) ∧
  (∀ s : State,
    (s.time.source = .word → 4 ≤ s.time.missed →
      ∃ t, exec .holdover s = .next t ∧
        t.time = { s.time with
          source := .internal, holdovers := min (s.time.holdovers + 1) 65535, goodEdges := 0, edgeSeen := false } ∧
        t.stops.isRaised .clock = true ∧ t.tables = s.tables ∧
        (∀ q, (s.port q).mask &&& 0x20 = 0x20 → (t.port q).pendingSet &&& 0x20 = 0x20)) ∧
    ((s.time.source = .internal ∨ s.time.missed < 4) → exec .holdover s = .next s))

/-- A write of the video rate in SETUP: a value other than 5,000, 5,994 and 6,000 is refused RANGE; the rate held
already is accepted and leaves the accumulator; another rate sets the accumulator to the sample that follows. The
reply of an accepted write carries the old rate. In SHOW it is refused FROZEN, whatever the value (R7, R8, R196; that
FROZEN comes before RANGE is log 21). A frame tick falls at the integer part of the accumulator's position, which then
goes on by one frame period (R8); before it there is no tick (log 1), and a late one does the same (log 2). Every
unfrozen monitor then holds the newest READY slot of an enabled OK camera; one with source OFF holds none; one whose
camera is LOST keeps the slot it holds of that camera; a frozen monitor is not visited; the picture of each output
frame is the held slot (R133, R135, R136). A tick in STOPPING under a profile CONTINUE / NONE ends the arrival, and
the stop state becomes STOPPED (R173). -/
def Obligations.FrameTickVisitsMonitors : Prop :=
  (∀ (r : Req) (a b : Byte) (s : State), Free r s → FromRole .prog r s →
    ∃ t, exec (.videoRateWrite r 0 [a, b]) s = .next t ∧
      (s.inShow = true → t = { s with desk := t.desk } ∧ Served r .frozen [] 0 s t) ∧
      (s.inShow = false → word2 a b ≠ 5000 → word2 a b ≠ 5994 → word2 a b ≠ 6000 →
        t = { s with desk := t.desk } ∧ Served r .range [] 0 s t) ∧
      (∀ rate : VideoRate, s.inShow = false → word2 a b = rate.value →
        Served r .ok (beBytes 2 s.time.rate.value) 0 s t ∧
        (rate = s.time.rate → t = { s with desk := t.desk }) ∧
        (rate ≠ s.time.rate → t = { s with
          time := { s.time with rate := rate, tickPos := 65536 * (s.time.clock + 1) }, desk := t.desk }))) ∧
  (∀ s : State,
    (s.now < s.time.tickPos / 65536 → exec .frameTick s = .next s) ∧
    (s.time.tickPos / 65536 ≤ s.now → ∃ t, exec .frameTick s = .next t ∧
      t = { s with
        time := { s.time with tickPos := s.time.tickPos + (match s.time.rate with
          | .fps50 => 62914560
          | .fps5994 => 52480819
          | .fps60 => 52428800) }
        picture := t.picture
        overlay := { s.overlay with flashes := t.overlay.flashes, records := t.overlay.records, outputs := t.overlay.outputs }
        stops := { s.stops with state := t.stops.state, topTicked := t.stops.topTicked, topReported := t.stops.topReported }
        desk := t.desk } ∧
      (∀ m, t.picture.monitor m = { s.picture.monitor m with held := (t.picture.monitor m).held }) ∧
      (∀ m, (s.picture.monitor m).frozen = true → (t.picture.monitor m).held = (s.picture.monitor m).held) ∧
      (∀ m, (s.picture.monitor m).frozen = false →
        ((s.picture.monitor m).source = .off → (t.picture.monitor m).held = none) ∧
        (∀ k i, s.picture.cameraOf (s.picture.monitor m) = some k → (s.picture.cam k).enabled = true →
          (s.picture.cam k).state = .ok → (s.picture.cam k).newest = some i →
          (t.picture.monitor m).held = some ⟨k, i⟩) ∧
        (∀ k i, s.picture.cameraOf (s.picture.monitor m) = some k → (s.picture.cam k).state = .lost →
          (s.picture.monitor m).held = some ⟨k, i⟩ → (t.picture.monitor m).held = some ⟨k, i⟩)) ∧
      (∀ m, (tget t.overlay.outputs m).picture = (t.picture.monitor m).held) ∧
      (∀ x rest, s.stops.state = .stopping → s.stops.stack = x :: rest → s.stops.effective.click = .continued →
        s.stops.effective.rigs = .none → t.stops.state = .stopped)))

/-- SET TEMPO, and a SWAP of live_tempo which is carried out as one: the mode becomes LIVE, live_tempo and
current_tempo take the value clamped to 2,000 to 30,000, any ramp record of a FIXED or RAMP mode goes, the tap list is
emptied, a clamp sets TEMPO_CLAMPED, and the TEMPO kind is pending where the mode, a tempo or the flag changes (R9,
R10, R12, R206). -/
def Obligations.TempoSet : Prop :=
  ∀ (r : Req) (a b : Byte) (s : State), Free r s → FromRole .md r s →
    let v := max 2000 (min 30000 (word2 a b))
    let clamp := v ≠ word2 a b
    let tempo : TempoState :=
      { mode := .live, current := v, live := v, clamped := s.tempo.clamped || decide clamp,
        ramp := if s.tempo.mode = .live then s.tempo.ramp else none, taps := [] }
    let changed := decide (s.tempo.mode ≠ .live ∨ s.tempo.current ≠ v ∨ s.tempo.live ≠ v ∨
      (clamp ∧ s.tempo.clamped = false))
    (∃ t, exec (.setTempo r [a, b]) s = .next t ∧ t = { s with tempo := tempo, desk := t.desk } ∧
      Served r (if clamp then .clamped else .ok) [] (kindIf changed .tempo) s t) ∧
    (∃ t, exec (.liveTempoWrite r 0 [a, b]) s = .next t ∧ t = { s with tempo := tempo, desk := t.desk } ∧
      Served r (if clamp then .clamped else .ok) (beBytes 2 s.tempo.live) (kindIf changed .tempo) s t)

/-- NUDGE UP sets live_tempo to floor(live_tempo × 101 / 100) and NUDGE DOWN to floor(live_tempo × 99 / 100),
live_tempo being current_tempo where the mode is not LIVE (R12), and the result clamped; the tap list stays (R13). -/
def Obligations.TempoNudged : Prop :=
  ∀ (r : Req) (up : Bool) (s : State), Free r s → FromRole .md r s →
    let old := if s.tempo.mode = .live then s.tempo.live else s.tempo.current
    let raw := old * (if up then 101 else 99) / 100
    let v := max 2000 (min 30000 raw)
    let tempo : TempoState :=
      { mode := .live, current := v, live := v, clamped := s.tempo.clamped || decide (v ≠ raw),
        ramp := if s.tempo.mode = .live then s.tempo.ramp else none, taps := s.tempo.taps }
    let changed := decide (s.tempo.mode ≠ .live ∨ s.tempo.current ≠ v ∨ s.tempo.live ≠ v ∨
      (v ≠ raw ∧ s.tempo.clamped = false))
    ∃ t, exec (if up then .nudgeUp r [] else .nudgeDown r []) s = .next t ∧
      t = { s with tempo := tempo, desk := t.desk } ∧
      Served r (if v ≠ raw then .clamped else .ok) [] (kindIf changed .tempo) s t

/-- TAP (R14, R15). An empty list, or one whose newest entry is more than 144,000 samples old, becomes the tap alone,
at the tempo being played; a tap within 5,760 samples is a bounce that changes nothing; any other tap is appended, the
oldest of six entries goes, and live_tempo becomes 288,000,000 / avg rounded to nearest, clamped. -/
def Obligations.TempoTapped : Prop :=
  ∀ (r : Req) (s : State), Free r s → FromRole .md r s →
    let played := if s.tempo.mode = .live then s.tempo.live else s.tempo.current
    let ramp := if s.tempo.mode = .live then s.tempo.ramp else none
    ∃ t, exec (.tap r []) s = .next t ∧ t = { s with tempo := t.tempo, desk := t.desk } ∧
      ((s.tempo.taps = [] ∨ (∃ newest, s.tempo.taps.getLast? = some newest ∧ 144000 < s.now - newest)) →
        t.tempo = { s.tempo with mode := .live, live := played, ramp := ramp, taps := [s.now] } ∧
        Served r .ok [] (kindIf (decide (s.tempo.mode ≠ .live ∨ s.tempo.live ≠ played)) .tempo) s t) ∧
      (∀ newest, s.tempo.taps.getLast? = some newest → s.now - newest < 5760 →
        t.tempo = s.tempo ∧ Served r .ok [] 0 s t) ∧
      (∀ newest, s.tempo.taps.getLast? = some newest → 5760 ≤ s.now - newest → s.now - newest ≤ 144000 →
        let all := s.tempo.taps ++ [s.now]
        let taps := if 5 < all.length then all.tail else all
        let avg := (s.now - taps.headD 0) / (taps.length - 1)
        let raw := (288000000 + avg / 2) / avg
        let v := max 2000 (min 30000 raw)
        t.tempo =
          { mode := .live, current := v, live := v, ramp := ramp, taps := taps,
            clamped := s.tempo.clamped || decide (v ≠ raw) } ∧
        Served r (if v ≠ raw then .clamped else .ok) []
          (kindIf (decide (s.tempo.mode ≠ .live ∨ s.tempo.current ≠ v ∨ s.tempo.live ≠ v ∨
            (v ≠ raw ∧ s.tempo.clamped = false))) .tempo) s t)

/-- The sticky flags TEMPO_CLAMPED, VAMP_OVERFLOW and START_IGNORED, written from a port that holds MD: a SWAP of zero
and a CLEAR of the flag clear it, a SWAP of another value and a SET of the flag are refused RANGE with no change, and
the reply of an accepted write carries the flag as it was (R10, R34, R88, R195). Clearing TEMPO_CLAMPED makes the
TEMPO kind pending where it was set (R10); the others make none pending (log 33). -/
def Obligations.StickyFlagsCleared : Prop :=
  ∀ (r : Req) (op : FlagOp) (v : Byte) (s : State), Free r s → FromRole .md r s →
    (((op = .swap ∧ v = 0) ∨ (op = .clear ∧ v = 1)) →
      (∃ t, exec (.tempoClampedClear r op 0 [v]) s = .next t ∧
        t = { s with tempo := { s.tempo with clamped := false }, desk := t.desk } ∧
        Served r .ok (boolByte s.tempo.clamped) (kindIf s.tempo.clamped .tempo) s t) ∧
      (∃ t, exec (.vampOverflowClear r op 0 [v]) s = .next t ∧
        t = { s with beats := { s.beats with overflow := false }, desk := t.desk } ∧
        Served r .ok (boolByte s.beats.overflow) 0 s t) ∧
      (∃ t, exec (.startIgnoredClear r op 0 [v]) s = .next t ∧
        t = { s with pointer := { s.pointer with startIgnored := false }, desk := t.desk } ∧
        Served r .ok (boolByte s.pointer.startIgnored) 0 s t)) ∧
    (((op = .swap ∧ v ≠ 0) ∨ (op = .set ∧ v ≠ 0) ∨ (op = .clear ∧ v ≠ 0 ∧ v ≠ 1)) →
      ∀ c, (c = .tempoClampedClear r op 0 [v] ∨ c = .vampOverflowClear r op 0 [v] ∨
        c = .startIgnoredClear r op 0 [v]) →
        ∃ t, exec c s = .next t ∧ t = { s with desk := t.desk } ∧ Served r .range [] 0 s t)

/-! ## Beats (chapter 2) -/

/-- A commit inside a bar: NEXT is the beat after the one before it, at the next onset. Its tempo T is current_tempo in
FIXED, live_tempo in LIVE, and T0 + trunc((T1 − T0) × (i + 1) / R) at ramp beat i of R in RAMP, which the commit counts,
the last one ending the ramp in FIXED at T1; its period is floor(18,874,368,000,000 / T), and the next onset goes on by
the period (R16, R18, R22, R30). The starts of R46 and R47 are scheduled on every lane; the mark queues are fed (R126);
the flash target of each monitor in CLICK mode is set to the onset less its paired lane's lead, with kind BEAT (R143);
and a hold-off count falls by one (R166). A NEXT that still stands, its onset overdue, is moved into CURRENT first
(log 2). -/
def Obligations.BeatCommittedInBar : Prop :=
  ∀ (o : Nat) (p : Beat) (s : State), CommitDue o s → s.beats.latest = some p → 1 ≤ p.beat → p.beat < s.beats.meter →
    (∀ r, s.tempo.ramp = some r → r.done < r.length) →
    let T := match s.tempo.mode, s.tempo.ramp with
      | .ramp, some r => ((r.t0 : Int) + (((r.t1 : Int) - r.t0) * (r.done + 1)).tdiv r.length).toNat
      | .live, _ => s.tempo.live
      | _, _ => s.tempo.current
    let b : Beat :=
      { onset := o, period := 18874368000000 / T, tempo := T, bar := p.bar, beat := p.beat + 1, downbeat := false,
        countIn := p.countIn, vampLoop := false, lastPass := false }
    ∃ t, exec .beatCommit s = .next t ∧
      t = { s with
        tempo := match s.tempo.mode, s.tempo.ramp with
          | .ramp, some r =>
            if r.done + 1 = r.length then { s.tempo with mode := .fixed, current := r.t1, ramp := none }
            else { s.tempo with current := T, ramp := some { r with done := r.done + 1 } }
          | _, _ => s.tempo
        beats := { s.beats with
          current := s.beats.next <|> s.beats.current, next := some b, nextOnset := some (o + b.period) }
        clicks := { s.clicks with lanes := t.clicks.lanes }
        picture := s.picture.addMarks b
        overlay := { s.overlay with flashes := t.overlay.flashes }
        stops := { s.stops with holdOff := s.stops.holdOff - 1 }
        desk := t.desk } ∧
      StartsAdded b s t ∧ TargetsSet b s t ∧
      (∀ i, t.clicks.lane i = { s.clicks.lane i with starts := (t.clicks.lane i).starts })

/-- A commit that begins a music bar other than the first: a pending meter becomes the meter (R29); with an empty vamp
stack the bar is a pending score bar, consumed, or else the bar just ended plus one, held at 9,999 (R32); below the
innermost record's last bar counting goes on; at it the record loops, if it is OPEN and not released or REPEAT below
its passes, to its start bar with the pass number up by one, held at 255 (R35); and a record that does not loop is
popped, the test being made again on what it leaves (R36). The bars after a START: with count-in remaining, a count-in
bar numbered minus the count-in remaining, which falls by one; with none remaining, the first music bar, numbered by a
pending score bar, consumed, or else the start bar, with a click in COUNT_IN becoming RUNNING and every pending push
made at that bar, in order, up to the stack's capacity (R31, R34). A bar start of any other music bar makes the
pending pushes too, after its vamp test; one that does not fit sets VAMP_OVERFLOW, with the FAULT kind (R34). A bar
start with count-in remaining begins a count-in bar in FINISHING too (log 52). Every bar start schedules its starts,
its first beat a DOWNBEAT, and sets its flash targets (R46, R47, R143). -/
def Obligations.BarStartsCommitted : Prop :=
  (∀ (o : Nat) (p : Beat) (s : State), CommitDue o s → s.beats.latest = some p → s.beats.meter ≤ p.beat →
    s.beats.discardsNext = false → s.beats.firstBarDue = false → s.beats.pushes = [] →
    let T := committedTempo s.tempo
    let ended := p.bar.toNat
    ∃ t, exec .beatCommit s = .next t ∧ t.tempo = tempoAfterCommit s.tempo ∧ t.tables = s.tables ∧
      t.pointer = s.pointer ∧ t.time = s.time ∧ t.resume = s.resume ∧
      (∀ n, t.beats.next = some n → StartsAdded n s t ∧ TargetsSet n s t) ∧
      (∀ n, t.beats.next = some n →
        t.beats = { s.beats with
          current := s.beats.next <|> s.beats.current, next := some n, nextOnset := some (o + n.period),
          meter := s.beats.pendingMeter.getD s.beats.meter, pendingMeter := none, pendingBar := t.beats.pendingBar,
          vamps := t.beats.vamps, lastBarToBegin := false } ∧
        n = { onset := o, period := 18874368000000 / T, tempo := T, bar := n.bar, beat := 1, downbeat := true,
              countIn := false, vampLoop := n.vampLoop, lastPass := n.lastPass }) ∧
      (s.beats.vamps = [] → ∃ n, t.beats.next = some n ∧ n.vampLoop = false ∧ n.lastPass = false ∧
        n.bar = (s.beats.pendingBar.getD (min (ended + 1) 9999) : Nat) ∧ t.beats.pendingBar = none ∧ t.beats.vamps = []) ∧
      (∀ v outer, s.beats.vamps = v :: outer →
        (ended < v.last → ∃ n, t.beats.next = some n ∧ n.bar = (ended + 1 : Nat) ∧ n.vampLoop = false ∧
          n.lastPass = false ∧ t.beats.vamps = s.beats.vamps ∧ t.beats.pendingBar = s.beats.pendingBar) ∧
        (v.last ≤ ended →
          ((v.kind = .opened ∧ v.released = false) ∨ (v.kind = .repeated ∧ ∃ k, v.passes = some k ∧ v.pass < k)) →
          ∃ n, t.beats.next = some n ∧ n.bar = (v.start : Nat) ∧ n.vampLoop = true ∧
            (n.lastPass = true ↔ v.kind = .repeated ∧ v.passes = some (min (v.pass + 1) 255)) ∧
            t.beats.vamps = { v with pass := min (v.pass + 1) 255 } :: outer ∧
            t.beats.pendingBar = s.beats.pendingBar) ∧
        (v.last ≤ ended →
          ((v.kind = .opened ∧ v.released = true) ∨ (v.kind = .repeated ∧ ∀ k, v.passes = some k → k ≤ v.pass)) →
          ∃ u, exec .beatCommit { s with beats := { s.beats with vamps := outer } } = .next u ∧ t.beats = u.beats))) ∧
  (∀ (o : Nat) (s : State), CommitDue o s → (s.beats.latest = none ∨ ∃ p, s.beats.latest = some p ∧ s.beats.meter ≤ p.beat) →
    s.beats.discardsNext = false → s.beats.firstBarDue = true →
    ∃ t n, exec .beatCommit s = .next t ∧ t.beats.next = some n ∧ n.onset = o ∧ n.beat = 1 ∧ n.downbeat = true ∧
      n.tempo = committedTempo s.tempo ∧ n.period = 18874368000000 / committedTempo s.tempo ∧
      t.beats.nextOnset = some (o + n.period) ∧ t.beats.meter = s.beats.pendingMeter.getD s.beats.meter ∧
      t.tables = s.tables ∧ t.pointer = s.pointer ∧ t.time = s.time ∧ StartsAdded n s t ∧ TargetsSet n s t ∧
      (0 < s.beats.countInLeft → n.bar = -(s.beats.countInLeft : Int) ∧ n.countIn = true ∧
        t.beats.countInLeft = s.beats.countInLeft - 1 ∧ t.beats.click = s.beats.click ∧ t.beats.firstBarDue = true ∧
        t.beats.vamps = s.beats.vamps ∧ t.beats.pushes = s.beats.pushes ∧ t.beats.pendingBar = s.beats.pendingBar) ∧
      (s.beats.countInLeft = 0 → n.bar = (s.beats.pendingBar.getD s.beats.startBar : Nat) ∧ n.countIn = false ∧
        t.beats.click = (if s.beats.click = .countIn then .running else s.beats.click) ∧ t.beats.firstBarDue = false ∧
        t.beats.pendingBar = none ∧ t.beats.pushes = [] ∧ PushesMade n.bar.toNat s.beats.pushes s.beats.vamps s t ∧
        (s.beats.vamps.length + s.beats.pushes.length ≤ 4 →
          t.beats.vamps = (s.beats.pushes.map fun v => v.record n.bar.toNat).reverse ++ s.beats.vamps))) ∧
  (∀ (o : Nat) (p : Beat) (s : State), CommitDue o s → s.beats.latest = some p → s.beats.meter ≤ p.beat →
    s.beats.discardsNext = false → s.beats.firstBarDue = false →
    ∃ t u n, exec .beatCommit s = .next t ∧
      exec .beatCommit { s with beats := { s.beats with pushes := [] } } = .next u ∧ u.beats.next = some n ∧
      t.beats = { u.beats with vamps := t.beats.vamps, overflow := t.beats.overflow } ∧
      PushesMade n.bar.toNat s.beats.pushes u.beats.vamps s t)

/-- The onset event: at NEXT's onset NEXT moves into CURRENT, and NEXT is absent (R24). Before it, or with no NEXT, it
is no such event (log 1). In FINISHING, the commit that would begin the bar after the last bar discards that beat: the
next onset goes absent, a NEXT that still stands, its onset overdue, is moved into CURRENT (log 2), and nothing else
changes (R27). The end of FINISHING: at the integer part of CURRENT's onset plus its period the click is IDLE, no beat
record stands, the vamps, the pushes and every start list are empty, and the hold-off count is 0 (R27, R38, R48,
R166). Where the click is not FINISHING, a beat is still to be committed, or that sample has not come, it is no such
event (log 1). -/
def Obligations.RunOfBeatsEnds : Prop :=
  (∀ s : State,
    (∀ n, s.beats.next = some n → n.onset / 65536 ≤ s.now →
      exec .beatOnset s = .next { s with beats := { s.beats with current := some n, next := none } }) ∧
    ((∀ n, s.beats.next = some n → s.now < n.onset / 65536) → exec .beatOnset s = .next s)) ∧
  (∀ (o : Nat) (s : State), s.beats.nextOnset = some o → o / 65536 ≤ s.now + 4800 → s.beats.click = .finishing →
    s.beats.lastBarToBegin = false → (s.beats.latest = none ∨ ∃ p, s.beats.latest = some p ∧ s.beats.meter ≤ p.beat) →
    exec .beatCommit s = .next { s with beats := { s.beats with
      current := s.beats.next <|> s.beats.current, next := none, nextOnset := none } }) ∧
  (∀ (c : Beat) (s : State),
    (s.beats.click = .finishing → s.beats.nextOnset = none → s.beats.current = some c →
      (c.onset + c.period) / 65536 ≤ s.now → s.pointer.armed = none → NothingRaised s →
      ∃ t, exec .finishingEnd s = .next t ∧
        t = { s with
          beats := { s.beats with
            click := .idle, current := none, next := none, nextOnset := none, firstBarDue := false,
            lastBarToBegin := false, vamps := [], pushes := [] }
          clicks := s.clicks.emptyStarts
          stops := { s.stops with holdOff := 0, state := t.stops.state }
          desk := t.desk } ∧
        (t.stops.state = s.stops.state ∨ (s.stops.state = .stopping ∧ t.stops.state = .stopped))) ∧
    ((s.beats.click ≠ .finishing ∨ s.beats.nextOnset ≠ none ∨
        (∀ c, s.beats.current = some c → s.now < (c.onset + c.period) / 65536)) →
      exec .finishingEnd s = .next s))

/-- RELEASE from the port holding MD releases the innermost vamp where it is OPEN, with reply OK, and changes nothing
where it is released already; on an empty stack and on a REPEAT it is refused NO_VAMP; from any other port NO_RIGHT,
in any session and stop state (R37). A release makes the CUE kind pending (R33). -/
def Obligations.ReleaseEndsAnOpenVamp : Prop :=
  ∀ (r : Req) (s : State), Free r s →
    ∃ t, exec (.release r []) s = .next t ∧
      (¬ FromRole .md r s → t = { s with desk := t.desk } ∧ Served r .noRight [] 0 s t) ∧
      (FromRole .md r s → s.beats.vamps = [] → t = { s with desk := t.desk } ∧ Served r .noVamp [] 0 s t) ∧
      (∀ v outer, FromRole .md r s → s.beats.vamps = v :: outer →
        (v.kind = .repeated → t = { s with desk := t.desk } ∧ Served r .noVamp [] 0 s t) ∧
        (v.kind = .opened → v.released = true → t = { s with desk := t.desk } ∧ Served r .ok [] 0 s t) ∧
        (v.kind = .opened → v.released = false →
          t = { s with beats := { s.beats with vamps := { v with released := true } :: outer }, desk := t.desk } ∧
          Served r .ok [] 0x01 s t))

/-- The bar-start commit at which the deferred CUE change of a READY slot has no force bars left: in CLEAR the change
is sent, with the port's sequence bit toggled, and the slot is CHANGING (R107, R112). The slot's port is no other
slot's, as R98 and R99 keep it. Without such a change, before the commit's sample, at a commit inside a bar, and at
the bar start that FINISHING discards, FORCE_DUE is no such event (log 4). The bar-start commit at which the cue
banner's bars remaining reach 0 makes the banner absent; a commit that leaves more only lowers them; and the commit at
the sample of the banner's own take is not counted (R146). Without a banner, without a commit or at one without that
outcome it is no CUE_BANNER_EXPIRY (log 4); a commit inside a bar is one whose latest beat has a number in its bar, as
`BeatInv` keeps it. -/
def Obligations.BarStartOutcomes : Prop :=
  (∀ (o : Nat) (k : Slot) (s : State),
    (∀ (port : RigPort) (patch : Patch), CommitDue o s → s.beats.barStartNext = true → s.beats.discardsNext = false →
      s.stops.state = .clear → (s.rig k).state = .ready →
      (s.rig k).boundPort = some port → (∀ j, j ≠ k → (s.rig j).boundPort ≠ some port) →
      (s.rig k).pendingChange = some ⟨patch, .cue, .atRelease 0⟩ →
      ∃ t, exec (.forceDue k) s = .next t ∧ exec .beatCommit s = .next t ∧
        t.rig k = { s.rig k with
          state := .changing, pendingChange := none,
          inFlight :=
            some { patch := patch, kind := .cue, bit := !(s.rigPort port).bit, sent := s.now, resent := false } } ∧
        t.rigPort port = { s.rigPort port with
          bit := !(s.rigPort port).bit, lastSelect := some (patch, !(s.rigPort port).bit) }) ∧
    ((∀ patch, (s.rig k).pendingChange ≠ some ⟨patch, .cue, .atRelease 0⟩) → exec (.forceDue k) s = .next s) ∧
    (((∀ o, s.beats.nextOnset = some o → s.now + 4800 < o / 65536) ∨ s.beats.barStartNext = false ∨
      s.beats.discardsNext = true) → exec (.forceDue k) s = .next s)) ∧
  (∀ (o : Nat) (b : CueBanner) (s : State), CommitDue o s → s.beats.barStartNext = true → s.beats.discardsNext = false →
    s.overlay.banner = some b →
    ∃ t, exec .beatCommit s = .next t ∧
      (b.takenAt ≠ s.now → b.bars ≤ 1 → t.overlay.banner = none ∧ exec .cueBannerExpiry s = .next t) ∧
      (b.takenAt ≠ s.now → 1 < b.bars →
        t.overlay.banner = some { b with bars := b.bars - 1 } ∧ exec .cueBannerExpiry s = .next s) ∧
      (b.takenAt = s.now → t.overlay.banner = some b ∧ exec .cueBannerExpiry s = .next s)) ∧
  (∀ s : State, (s.overlay.banner = none ∨ (∀ o, s.beats.nextOnset = some o → s.now + 4800 < o / 65536) ∨
      s.beats.discardsNext = true ∨ (s.beats.barStartNext = false ∧ (∀ p, s.beats.latest = some p → 1 ≤ p.beat) ∧
        s.pointer.armed = none ∧ NothingRaised s)) →
    exec .cueBannerExpiry s = .next s)

/-! ## Click lanes (chapter 3) -/

/-- A start that has come due: the entry leaves its lane's list, and its voice plays the entry's clip from position 0,
cutting what it played; no voice starts in IDLE, and no COUNT voice outside COUNT_IN (R48, R49). That an entry which
starts no voice leaves the list at its sample is the model's choice (log 55). Before the first entry's sample, or with
an empty list, it is no such event (log 1). The sample at which a voice gives the last sample of its clip: the voice
becomes SILENT, and the sample is counted as any other (R49). A voice that is SILENT or has more to give makes no such
event (log 4). -/
def Obligations.VoicesStartAndEnd : Prop :=
  (∀ (k : LaneNo) (s : State),
    (∀ e rest, (s.clicks.lane k).starts = e :: rest → e.sample ≤ s.now →
      ∃ l, exec (.voiceStart k) s = .next { s with clicks := s.clicks.setLane k l } ∧
        ((s.beats.click = .idle ∨ (e.voice = .count ∧ s.beats.click ≠ .countIn)) →
          l = { s.clicks.lane k with starts := rest }) ∧
        (s.beats.click ≠ .idle → e.voice = .click → l = { s.clicks.lane k with
          starts := rest, clickVoice := some { start := e.clipStart, length := e.clipLength, pos := 0 } }) ∧
        (s.beats.click = .countIn → e.voice = .count → l = { s.clicks.lane k with
          starts := rest, countVoicePlaying := some { start := e.clipStart, length := e.clipLength, pos := 0 } })) ∧
    ((∀ e rest, (s.clicks.lane k).starts = e :: rest → s.now < e.sample) → exec (.voiceStart k) s = .next s)) ∧
  (∀ (k : LaneNo) (v : VoiceKind) (closed : Bool) (s : State),
    (∀ p, (s.clicks.lane k).voice v = some p → p.length ≤ p.pos + 1 →
      ∃ t u, exec (.voiceEnd k v closed) s = .next t ∧ exec (.showClockSample closed) s = .next u ∧
        (t.clicks.lane k).voice v = none ∧ t = { u with time := { s.time with clock := s.time.clock + 1 } }) ∧
    ((∀ p, (s.clicks.lane k).voice v = some p → p.pos + 1 < p.length) → exec (.voiceEnd k v closed) s = .next s))

/-- A write of a lane field by PROG: refused FROZEN in SHOW, whatever the value (that FROZEN comes before RANGE is log
21, here and at the sound sets); in SETUP a value of the field's set is stored, any other
is refused RANGE, and a lead above 4,800 is stored as 4,800 with reply CLAMPED. The reply carries the old value, and
the TABLE kind is pending where the field changes (R41, R42, R196). A lane level written by PROG or FOH, in either
session and every stop state: 0 to 63 dB or 64 for MUTE, a value above 64 stored as 64 with reply CLAMPED; the reply
carries the old level, and the TABLE kind is pending where it changes (R42). The gain follows at the next sample
(`SampleCounted`). A role of a sound set written by PROG: FROZEN in SHOW; absent, or a clip 0 to 15; a clip above 15
is refused RANGE. The reply carries the old role, and the TABLE kind is pending where it changes (R45). -/
def Obligations.LaneItemsWritten : Prop :=
  (∀ (r : Req) (f : LaneField) (k : LaneNo) (v : List Byte) (s : State), Free r s → FromRole .prog r s →
    let l := s.clicks.lane k
    ∃ t, exec (.laneFieldWrite r f (byteOf k.val) v) s = .next t ∧
      let stored := fun (l' : Lane) (code : ReplyCode) =>
        t = { s with clicks := s.clicks.setLane k l', desk := t.desk } ∧
        Served r code (laneFieldBytes f l) (kindIf (decide (l ≠ l')) .table) s t
      let refused := fun (code : ReplyCode) => t = { s with desk := t.desk } ∧ Served r code [] 0 s t
      (s.inShow = true → refused .frozen) ∧
      (s.inShow = false →
        (∀ b, f = .enabled → v = boolByte b → stored { l with enabled := b } .ok) ∧
        (∀ b, f = .countVoice → v = boolByte b → stored { l with countVoice := b } .ok) ∧
        (∀ n, f = .subdivision → v = [n] → n.toNat ∈ [1, 2, 3, 4, 6] → stored { l with subdivision := n.toNat } .ok) ∧
        (∀ a, f = .accent → v = [Accent.code a] → stored { l with accent := a } .ok) ∧
        (∀ n, f = .soundSet → v = [n] → n.toNat ≤ 3 → stored { l with soundSet := n.toNat } .ok) ∧
        (∀ a b, f = .lead → v = [a, b] →
          stored { l with lead := min (word2 a b) 4800 } (if 4800 < word2 a b then .clamped else .ok)) ∧
        (∀ n, v = [n] → ((f = .enabled ∨ f = .countVoice) ∧ 1 < n.toNat) ∨
          (f = .subdivision ∧ n.toNat ∉ [1, 2, 3, 4, 6]) ∨ (f = .accent ∧ 2 < n.toNat) ∨
          (f = .soundSet ∧ 3 < n.toNat) → refused .range))) ∧
  (∀ (r : Req) (k : LaneNo) (n : Byte) (s : State), Free r s → (FromRole .prog r s ∨ FromRole .foh r s) →
    let l := s.clicks.lane k
    let l' := { l with level := min n.toNat 64 }
    ∃ t, exec (.laneLevelWrite r (byteOf k.val) [n]) s = .next t ∧
      t = { s with clicks := s.clicks.setLane k l', desk := t.desk } ∧
      Served r (if 64 < n.toNat then .clamped else .ok) [byteOf l.level] (kindIf (decide (l ≠ l')) .table) s t) ∧
  (∀ (r : Req) (i : Fin 28) (s : State), Free r s → FromRole .prog r s →
    let old := optBytes 1 (fun c : Fin 16 => [byteOf c.val]) (tget s.clicks.roles i)
    ∀ v : List Byte, ∃ t, exec (.soundSetWrite r (byteOf i.val) v) s = .next t ∧
      let stored := fun (c : Option (Fin 16)) =>
        t = { s with clicks := { s.clicks with roles := tput s.clicks.roles i c }, desk := t.desk } ∧
        Served r .ok old (kindIf (decide (tget s.clicks.roles i ≠ c)) .table) s t
      (s.inShow = true → t = { s with desk := t.desk } ∧ Served r .frozen [] 0 s t) ∧
      (s.inShow = false → v = [0, 0] → stored none) ∧
      (∀ c : Fin 16, s.inShow = false → v = [1, byteOf c.val] → stored (some c)) ∧
      (∀ n : Byte, s.inShow = false → v = [1, n] → 16 ≤ n.toNat →
        t = { s with desk := t.desk } ∧ Served r .range [] 0 s t))

/-- The counters: a SWAP of zero from PROG (for the clip counter from FOH too, and for the displaced count from SM
too) sets the counter to 0 and replies its old value, and a SWAP of any other value is refused RANGE, for the clip
counter of a lane (R54), the counters of a rig slot and of a rig port (R119), the counters of a camera (R137), the
displaced count (R161) and the bad-frame count of a desk port (R199). Nothing else changes, and no kind is pending. -/
def Obligations.CountersReset : Prop :=
  ∀ (r : Req) (a b : Byte) (s : State), Free r s →
    let prog := FromRole .prog r s
    (word2 a b ≠ 0 → ∀ (i : Byte) (x : RigCounter) (y : CameraCounter) (c : Instr),
      ((c = .clipCounterReset r i [a, b] ∧ i.toNat < 16 ∧ (prog ∨ FromRole .foh r s)) ∨
        (c = .rigCounterReset r x i [a, b] ∧ i.toNat < 8 ∧ prog) ∨
        (c = .cameraCounterReset r y i [a, b] ∧ i.toNat < 2 ∧ prog) ∨
        (c = .displacedCountReset r i [a, b] ∧ i.toNat < 1 ∧ (prog ∨ FromRole .sm r s)) ∨
        (c = .badFrameCountReset r i [a, b] ∧ i.toNat < 4 ∧ prog)) →
      ∃ t, exec c s = .next t ∧ t = { s with desk := t.desk } ∧ Served r .range [] 0 s t) ∧
    (word2 a b = 0 →
      (∀ k : LaneNo, (prog ∨ FromRole .foh r s) → ∃ t, exec (.clipCounterReset r (byteOf k.val) [a, b]) s = .next t ∧
        t = { s with clicks := s.clicks.setLane k { s.clicks.lane k with clipCount := 0 }, desk := t.desk } ∧
        Served r .ok (beBytes 2 (s.clicks.lane k).clipCount) 0 s t) ∧
      (∀ (k : Slot) (x : RigCounter), prog → ∃ t, exec (.rigCounterReset r x (byteOf k.val) [a, b]) s = .next t ∧
        t = { s with rigs := t.rigs, desk := t.desk } ∧
        (∀ j, j ≠ k → t.rig j = s.rig j ∧ t.rigPort j = s.rigPort j) ∧
        (x = .superseded → t.rig k = { s.rig k with superseded := 0 } ∧ t.rigPort k = s.rigPort k ∧
          Served r .ok (beBytes 2 (s.rig k).superseded) 0 s t) ∧
        (x = .refusal → t.rig k = { s.rig k with refusals := 0 } ∧ t.rigPort k = s.rigPort k ∧
          Served r .ok (beBytes 2 (s.rig k).refusals) 0 s t) ∧
        (x = .timeout → t.rig k = { s.rig k with timeouts := 0 } ∧ t.rigPort k = s.rigPort k ∧
          Served r .ok (beBytes 2 (s.rig k).timeouts) 0 s t) ∧
        (x = .invalidMessage → t.rig k = s.rig k ∧ t.rigPort k = { s.rigPort k with invalidCount := 0 } ∧
          Served r .ok (beBytes 2 (s.rigPort k).invalidCount) 0 s t)) ∧
      (∀ k : Camera, prog → (∃ t, exec (.cameraCounterReset r .drop (cameraCode k) [a, b]) s = .next t ∧
          t = { s with picture := s.picture.setCam k { s.picture.cam k with drops := 0 }, desk := t.desk } ∧
          Served r .ok (beBytes 2 (s.picture.cam k).drops) 0 s t) ∧
        (∃ t, exec (.cameraCounterReset r .abort (cameraCode k) [a, b]) s = .next t ∧
          t = { s with picture := s.picture.setCam k { s.picture.cam k with aborts := 0 }, desk := t.desk } ∧
          Served r .ok (beBytes 2 (s.picture.cam k).aborts) 0 s t)) ∧
      ((prog ∨ FromRole .sm r s) → ∃ t, exec (.displacedCountReset r 0 [a, b]) s = .next t ∧
        t = { s with stops := { s.stops with displaced := 0 }, desk := t.desk } ∧
        Served r .ok (beBytes 2 s.stops.displaced) 0 s t) ∧
      (∀ p : DeskPort, prog → ∃ t, exec (.badFrameCountReset r (byteOf p.val) [a, b]) s = .next t ∧
        t = { s with desk := t.desk } ∧ Replied r .ok (beBytes 2 (s.port p).badFrames) t ∧ (t.port p).badFrames = 0 ∧
        (∀ q, q ≠ p → (t.port q).badFrames = (s.port q).badFrames) ∧
        (∀ q, (t.port q).role = (s.port q).role ∧ (t.port q).mask = (s.port q).mask ∧
          (t.port q).pendingSet = (s.port q).pendingSet)))

/-- CLIP WRITE from PROG of 1 to 80 samples: refused FROZEN in SHOW; refused RANGE, storing none, where the run would
pass address 65,535; else every address of the run holds its sample and every other address of the clip memory reads
as before, the directory and everything else unchanged, and no kind is pending (R43). CLIP DEFINE from PROG: FROZEN in
SHOW; RANGE for a clip above 15, a length above 8,192 or a span past address 65,535; OVERLAP where the span shares an
address with another present entry; length 0 removes the entry; else the entry is defined. The TABLE kind is pending
where the directory changes (R44). The order FROZEN, RANGE, OVERLAP is the model's (log 44). -/
def Obligations.ClipsStored : Prop :=
  (∀ (r : Req) (addr : Nat) (xs : List Sample) (s : State), Free r s → FromRole .prog r s → addr < 65536 →
    1 ≤ xs.length → xs.length ≤ 80 → ClipInv s →
    ∃ t, exec (.clipWrite r (beBytes 2 addr ++ xs.flatMap sampleBytes)) s = .next t ∧
      (s.inShow = true → t = { s with desk := t.desk } ∧ Served r .frozen [] 0 s t) ∧
      (s.inShow = false → 65536 < addr + xs.length → t = { s with desk := t.desk } ∧ Served r .range [] 0 s t) ∧
      (s.inShow = false → addr + xs.length ≤ 65536 →
        t = { s with clicks := { s.clicks with memory := t.clicks.memory }, desk := t.desk } ∧
        Served r .ok [] 0 s t ∧ ClipMem.wf t.clicks.memory = true ∧
        ∀ a, ClipMem.read t.clicks.memory a =
          if addr ≤ a ∧ a < addr + xs.length then xs.getD (a - addr) 0 else ClipMem.read s.clicks.memory a)) ∧
  (∀ (r : Req) (n a₁ a₀ l₁ l₀ : Byte) (s : State), Free r s → FromRole .prog r s → ClipInv s →
    let c : Clip := { start := word2 a₁ a₀, length := word2 l₁ l₀ }
    ∃ t, exec (.clipDefine r [n, a₁, a₀, l₁, l₀]) s = .next t ∧
      let refused := fun (code : ReplyCode) => t = { s with desk := t.desk } ∧ Served r code [] 0 s t
      let stored := fun (k : Fin 16) (e : Option Clip) =>
        t = { s with clicks := { s.clicks with directory := tput s.clicks.directory k e }, desk := t.desk } ∧
        Served r .ok [] (kindIf (decide (tget s.clicks.directory k ≠ e)) .table) s t
      (s.inShow = true → refused .frozen) ∧
      (s.inShow = false → 16 ≤ n.toNat → refused .range) ∧
      (s.inShow = false → ∀ k : Fin 16, n = byteOf k.val →
        (c.length = 0 → stored k none) ∧
        (1 ≤ c.length → (8192 < c.length ∨ 65536 < c.start + c.length) → refused .range) ∧
        (1 ≤ c.length → c.length ≤ 8192 → c.start + c.length ≤ 65536 →
          ((∃ j d, j ≠ k ∧ tget s.clicks.directory j = some d ∧ c.Share d) → refused .overlap) ∧
          ((∀ j d, j ≠ k → tget s.clicks.directory j = some d → ¬ c.Share d) → stored k (some c)))))

/-! ## The cue list (chapter 4) -/

/-- CUE INSERT from PROG, in the order of its tests: FROZEN in SHOW; RANGE for a record outside TABLE 4-1; DUPLICATE;
FULL at 1,000 cues; POOL_FULL where its change entries exceed the free count; else the record joins the list, its
change list in ascending slot order, every other record stands, and the TABLE kind is pending (R59 to R64). CUE
REPLACE, CUE DELETE and TABLE CLEAR from PROG: FROZEN in SHOW; a number that is not in the list NO_CUE; a record
outside TABLE 4-1 RANGE; more entries than the free count and the old record's together POOL_FULL; else the record is
put in place of the old, or taken out, or the list emptied, and the TABLE kind is pending (R65 to R67). -/
def Obligations.CueListEdited : Prop :=
  (∀ (r : Req) (p : List Byte) (c : Cue) (s : State), Free r s → FromRole .prog r s → payloadCue p = some c →
    ∃ t, exec (.cueInsert r p) s = .next t ∧
      let refused := fun (code : ReplyCode) => t = { s with desk := t.desk } ∧ Served r code [] 0 s t
      (s.inShow = true → refused .frozen) ∧
      (s.inShow = false → c.valid = false → refused .range) ∧
      (s.inShow = false → c.valid = true → (∃ d ∈ s.tables.cues, d.number = c.number) → refused .duplicate) ∧
      (s.inShow = false → c.valid = true → (∀ d ∈ s.tables.cues, d.number ≠ c.number) →
        (1000 ≤ s.tables.cues.length → refused .full) ∧
        (s.tables.cues.length < 1000 → 4000 - poolUsed s.tables.cues < c.changes.length → refused .poolFull) ∧
        (s.tables.cues.length < 1000 → c.changes.length ≤ 4000 - poolUsed s.tables.cues →
          t = { s with tables := { s.tables with cues := t.tables.cues }, desk := t.desk } ∧
          Served r .ok [] 0x40 s t ∧
          (∃ c', c' = { c with changes := c'.changes } ∧ c'.changes.Perm c.changes ∧
            c'.changes.Pairwise (fun x y => x.slot ≤ y.slot) ∧ t.tables.cues.Perm (c' :: s.tables.cues)) ∧
          (cuesRise s.tables.cues → cuesRise t.tables.cues)))) ∧
  (∀ (r : Req) (s : State), Free r s → FromRole .prog r s →
    (∀ (p : List Byte) (c : Cue), payloadCue p = some c → ∃ t, exec (.cueReplace r p) s = .next t ∧
      let refused := fun (code : ReplyCode) => t = { s with desk := t.desk } ∧ Served r code [] 0 s t
      (s.inShow = true → refused .frozen) ∧
      (s.inShow = false → c.valid = false → refused .range) ∧
      (s.inShow = false → c.valid = true → (∀ d ∈ s.tables.cues, d.number ≠ c.number) → refused .noCue) ∧
      (∀ before after old, s.inShow = false → c.valid = true → s.tables.cues = before ++ old :: after →
        old.number = c.number → (∀ d ∈ before ++ after, d.number ≠ c.number) →
        (s.tables.freeCount + old.changes.length < c.changes.length → refused .poolFull) ∧
        (c.changes.length ≤ s.tables.freeCount + old.changes.length →
          t = { s with tables := { s.tables with cues := before ++ c.stored :: after }, desk := t.desk } ∧
          Served r .ok [] 0x40 s t))) ∧
    (∀ a b c d : Byte, ∃ t, exec (.cueDelete r [a, b, c, d]) s = .next t ∧
      (s.inShow = true → t = { s with desk := t.desk } ∧ Served r .frozen [] 0 s t) ∧
      (s.inShow = false → (∀ x ∈ s.tables.cues, x.number ≠ word4 a b c d) →
        t = { s with desk := t.desk } ∧ Served r .noCue [] 0 s t) ∧
      (∀ before after old, s.inShow = false → s.tables.cues = before ++ old :: after → old.number = word4 a b c d →
        (∀ x ∈ before ++ after, x.number ≠ word4 a b c d) →
        t = { s with tables := { s.tables with cues := before ++ after }, desk := t.desk } ∧
        Served r .ok [] 0x40 s t)) ∧
    (∃ t, exec (.tableClear r []) s = .next t ∧
      (s.inShow = true → t = { s with desk := t.desk } ∧ Served r .frozen [] 0 s t) ∧
      (s.inShow = false → t = { s with tables := { s.tables with cues := [] }, desk := t.desk } ∧
        t.tables.freeCount = 4000 ∧ Served r .ok [] 0x40 s t)))

/-- CUE READ and CHASE READ, from any port in any state, change nothing: AT answers the record with the number, AFTER
the record of the least number above it (the list ascending, R61), NO_CUE where there is none, and RANGE for a number
above 99,999 (R68); CHASE READ answers the chase of a cue of the list, or of the position before the first cue for 0
(R73). -/
def Obligations.CuesRead : Prop :=
  ∀ (r : Req) (a b c d : Byte) (s : State), Free r s → cuesRise s.tables.cues →
    let n := word4 a b c d
    (∀ after : Bool, ∃ t, exec (.cueRead r [a, b, c, d, if after then 1 else 0]) s = .next t ∧
      t = { s with desk := t.desk } ∧
      (99999 < n → Served r .range [] 0 s t) ∧
      (n ≤ 99999 → (∀ x ∈ s.tables.cues, if after then x.number ≤ n else x.number ≠ n) → Served r .noCue [] 0 s t) ∧
      (∀ x ∈ s.tables.cues, n ≤ 99999 →
        (if after then n < x.number ∧ ∀ y ∈ s.tables.cues, n < y.number → x.number ≤ y.number else x.number = n) →
        Served r .ok (cueBytes x) 0 s t)) ∧
    (∃ t, exec (.chaseRead r [a, b, c, d]) s = .next t ∧ t = { s with desk := t.desk } ∧
      (99999 < n → Served r .range [] 0 s t) ∧
      (n = 0 → Served r .ok (s.tables.chaseBytes .first) 0 s t) ∧
      (n ≤ 99999 → n ≠ 0 → (∃ x ∈ s.tables.cues, x.number = n) → Served r .ok (s.tables.chaseBytes (.cue n)) 0 s t) ∧
      (n ≤ 99999 → n ≠ 0 → (∀ x ∈ s.tables.cues, x.number ≠ n) → Served r .noCue [] 0 s t))

/-- The patch chase and the position chase of a cue at a list that ends in a cue of its number: the chased cue's own
entry, tempo, meter and score bar win over the cues before it; where it names none, the chase is that of the cues
before it; and with no cue at all it is the opening patch, FIXED 12,000, meter 4 and bar 1 (R71, R72). -/
def Obligations.ChaseOfTheLastCue : Prop :=
  ∀ (t : Tables) (k : Slot) (l : List Cue) (c : Cue), t.cues = l ++ [c] → (∀ x ∈ l, x.number < c.number) →
    let before : Tables := { t with cues := l }
    let here : ChaseAt := .cue c.number
    t.patchChase here k =
      (match c.changes.find? (fun e => e.slot == k.val) with
        | some e => (e.pair, some c.number)
        | none => before.patchChase here k) ∧
    t.tempoChase here =
      (match c.tempo with
        | .keep => before.tempoChase here
        | .fixed v => .fixed v
        | .live => .live
        | .ramp v _ => .fixed v) ∧
    t.meterChase here = c.meter.getD (before.meterChase here) ∧
    t.barChase here = c.scoreBar.getD (before.barChase here) ∧
    ({ t with cues := [] } : Tables).patchChase here k = ((tget t.settings k).opening, none) ∧
    ({ t with cues := [] } : Tables).tempoChase here = .fixed 12000 ∧
    ({ t with cues := [] } : Tables).meterChase here = 4 ∧ ({ t with cues := [] } : Tables).barChase here = 1

/-- A rig-slot setting written by PROG: FROZEN in SHOW, whatever the value (that FROZEN comes before RANGE is log 21,
here and at the names); a patch outside 0 to 127, 0 to 127 and 0 to 15, and a flag
other than yes and no, refused RANGE; else stored. The reply carries the old setting, and the TABLE kind is pending
where it changes (R69). A slot's name written by PROG: FROZEN in SHOW; RANGE for a name longer than 16 characters or
with a character outside the printing set; DUPLICATE for a non-empty name of another slot; else stored, the binding
left as it stands. The reply carries the old name, and the RIG kind is pending where the name changes (R97). -/
def Obligations.SlotItemsWritten : Prop :=
  (∀ (r : Req) (k : Slot) (s : State), Free r s → FromRole .prog r s →
    let old := s.tables.setting k
    ∀ (f : SlotSetting) (v : List Byte), ∃ t, exec (.rigSlotSettingWrite r f (byteOf k.val) v) s = .next t ∧
      let refused := fun (code : ReplyCode) => t = { s with desk := t.desk } ∧ Served r code [] 0 s t
      let stored := fun (x : SlotSettings) =>
        t = { s with tables := { s.tables with settings := tput s.tables.settings k x }, desk := t.desk } ∧
        Served r .ok (settingBytes f old) (kindIf (decide (old ≠ x)) .table) s t
      (s.inShow = true → refused .frozen) ∧
      (∀ b, s.inShow = false → f = .required → v = boolByte b → stored { old with required := b }) ∧
      (∀ b, s.inShow = false → f = .cover → v = boolByte b → stored { old with cover := b }) ∧
      (∀ n : Byte, s.inShow = false → (f = .required ∨ f = .cover) → v = [n] → 1 < n.toNat → refused .range) ∧
      (∀ a b c : Byte, s.inShow = false → f = .safe → v = [a, b, c] →
        (a.toNat ≤ 127 → b.toNat ≤ 127 → c.toNat ≤ 15 →
          stored { old with safe := { bank := a.toNat, program := b.toNat, scene := c.toNat } }) ∧
        ((127 < a.toNat ∨ 127 < b.toNat ∨ 15 < c.toNat) → refused .range)) ∧
      (∀ a b c x y z : Byte, s.inShow = false → f = .opening →
        (v = [a, b, c, 0, 0, 0, 0] → a.toNat ≤ 127 → b.toNat ≤ 127 → c.toNat ≤ 15 →
          stored { old with
            opening := { main := { bank := a.toNat, program := b.toNat, scene := c.toNat }, cover := none } }) ∧
        (v = [a, b, c, 1, x, y, z] → a.toNat ≤ 127 → b.toNat ≤ 127 → c.toNat ≤ 15 →
          x.toNat ≤ 127 → y.toNat ≤ 127 → z.toNat ≤ 15 →
          stored { old with
            opening :=
              { main := { bank := a.toNat, program := b.toNat, scene := c.toNat },
                cover := some { bank := x.toNat, program := y.toNat, scene := z.toNat } } }) ∧
        ((v = [a, b, c, 0, 0, 0, 0] ∨ v = [a, b, c, 1, x, y, z]) →
          (127 < a.toNat ∨ 127 < b.toNat ∨ 15 < c.toNat) → refused .range) ∧
        (v = [a, b, c, 1, x, y, z] → (127 < x.toNat ∨ 127 < y.toNat ∨ 15 < z.toNat) → refused .range))) ∧
  (∀ (r : Req) (k : Slot) (name : Text) (s : State), Free r s → FromRole .prog r s → name.length < 256 →
    ∃ t, exec (.slotNameWrite r (byteOf k.val) (byteOf name.length :: name)) s = .next t ∧
      let refused := fun (code : ReplyCode) => t = { s with desk := t.desk } ∧ Served r code [] 0 s t
      (s.inShow = true → refused .frozen) ∧
      (s.inShow = false → (16 < name.length ∨ isDeskText name = false) → refused .range) ∧
      (s.inShow = false → name.length ≤ 16 → isDeskText name = true →
        (name ≠ [] → (∃ j, j ≠ k ∧ (s.rig j).name = name) → refused .duplicate) ∧
        ((name = [] ∨ ∀ j, j ≠ k → (s.rig j).name ≠ name) →
          t = { s with
            rigs := { s.rigs with slots := tput s.rigs.slots k { s.rig k with name := name } }, desk := t.desk } ∧
          Served r .ok (textBytes (s.rig k).name) (kindIf (decide ((s.rig k).name ≠ name)) .rig) s t)))

/-! ## The show session and the cue pointer (chapter 5) -/

/-- BEGIN SHOW from the port holding SM: BUSY in SHOW; NOT_READY with an empty list or a required slot whose rig is
not READY; else the session is SHOW, the standing cue is the first, the current and armed cues are absent,
chase-pending is clear, and every READY slot with nothing pending is sent a RESTORE of its opening patch, its cover
resolved (R69, R76, R77). With nothing raised and no rig in FAULT no stop follows; a port serves one slot, as R98 and
R99 keep it. A condition that stands raised, with a level above 0, is taken at once (R171). END SHOW from the port
holding SM: SETUP in SETUP; BUSY with the click running, or in STOPPING, STOPPED, RESTORING or RESUME_ARMED; else the
effects of R79 on every block (R78, R79). The rigs' part is only what the return to CLEAR makes of their pending
changes (R114, R115). -/
def Obligations.ShowBeginsAndEnds : Prop :=
  (∀ (r : Req) (s : State), Free r s → FromRole .sm r s →
    ∃ t, exec (.beginShow r []) s = .next t ∧
      (s.inShow = true → t = { s with desk := t.desk } ∧ Served r .busy [] 0 s t) ∧
      (s.inShow = false → s.tables.cues = [] → t = { s with desk := t.desk } ∧ Served r .notReady [] 0 s t) ∧
      (s.inShow = false → (∃ k, (s.tables.setting k).required = true ∧ (s.rig k).state ≠ .ready) →
        t = { s with desk := t.desk } ∧ Served r .notReady [] 0 s t) ∧
      (∀ c rest, s.inShow = false → s.tables.cues = c :: rest →
        (∀ k, (s.tables.setting k).required = true → (s.rig k).state = .ready) → NothingRaised s →
        (∀ k, (s.rig k).state ≠ .fault) →
        Replied r .ok [] t ∧
        t = { s with
          tables := { s.tables with session := .inShow }
          pointer := { s.pointer with standing := .cue c.number, current := none, armed := none, chasePending := false }
          rigs := t.rigs
          desk := t.desk } ∧
        (∀ k port, (s.rig k).state = .ready → (s.rig k).pendingChange = none → (s.rig k).boundPort = some port →
          (∀ j, j ≠ k → (s.rig j).boundPort ≠ some port) →
          let set := s.tables.setting k
          t.rig k = { s.rig k with
            state := .changing
            inFlight := some
              { patch := if set.cover then set.opening.cover.getD set.opening.main else set.opening.main,
                kind := .restore, bit := !(s.rigPort port).bit, sent := s.now, resent := false } })) ∧
      (∀ c rest i, s.inShow = false → s.tables.cues = c :: rest →
        (∀ k, (s.tables.setting k).required = true → (s.rig k).state = .ready) → (∀ k, (s.rig k).state ≠ .fault) →
        (∀ j, s.stops.isRaised j = decide (j = i)) → i.isCommand = false → i ≠ .rigFault → 1 ≤ s.stops.level i →
        s.stops.stack = [] → s.stops.state = .clear → s.stops.holdOff = 0 → s.beats.click = .idle →
        Replied r .ok [] t ∧ t.tables = { s.tables with session := .inShow } ∧ t.stops.state = .stopping ∧
        t.stops.stack = [⟨i, s.stops.level i, false⟩] ∧ t.stops.isRaised i = true)) ∧
  (∀ (r : Req) (s : State), Free r s → FromRole .sm r s →
    ∃ t, exec (.endShow r []) s = .next t ∧
      (s.inShow = false → t = { s with desk := t.desk } ∧ Served r .setup [] 0 s t) ∧
      (s.inShow = true → (s.beats.click ≠ .idle ∨ s.stops.state = .stopping ∨ s.stops.state = .stopped ∨
          s.stops.state = .restoring ∨ s.stops.state = .resumeArmed) →
        t = { s with desk := t.desk } ∧ Served r .busy [] 0 s t) ∧
      (s.inShow = true → s.beats.click = .idle →
        (s.stops.state = .clear ∨ s.stops.state = .awaitResume ∨ s.stops.state = .halted) →
        Replied r .ok [] t ∧
        t = { s with
          tables := { s.tables with session := .setup }
          pointer := { s.pointer with armed := none, chasePending := false }
          tempo := { s.tempo with taps := [] }
          beats := { s.beats with
            vamps := [], pushes := [], pendingMeter := none, pendingBar := none, countInLeft := 0 }
          clicks := s.clicks.silence
          stops := { s.stops with
            stack := [], state := .clear, holdOff := 0, runAdvisory := true, topTicked := false, topReported := false,
            raised := t.stops.raised }
          resume := { s.resume with target := none, mdReady := false, restoreSet := [] }
          picture := s.picture.freezeAll false
          overlay := { s.overlay with banner := none, flashes := Vector.replicate 6 FlashRec.reset }
          rigs := t.rigs
          desk := t.desk } ∧
        (∀ i, t.stops.isRaised i =
          (if i = .smStop ∨ i = .mdStop ∨ i = .fohStop ∨ i = .rigFault then false else s.stops.isRaised i))))

/-- GO from the port holding SM, where it takes no cue: SETUP in SETUP, STOPPED in any stop state but CLEAR, END where
the standing cue is END, and where the click is running and the standing cue's boundary is not IMMEDIATE the cue is
armed (R80, R81). The take of a cue by GO, whether armed (the boundary waived), IMMEDIATE, or called with the click
IDLE: the pointer moves on, the tempo spec is applied, the meter and the score bar become pending, and the camera and
the banner of the video action are set (R81, R85 to R87, R91, R11). The cue's click action is KEEP and it has no vamp.
Its change entry for a READY slot with nothing pending, due at once, is sent, the cover resolved (R69, R90, R104). With
chase-pending set, which the take clears, a RESTORE of the cue's chase is handed to each bound slot instead (R90). -/
def Obligations.GoCallsTheCue : Prop :=
  (∀ (r : Req) (s : State), Free r s → FromRole .sm r s →
    ∃ t, exec (.go r []) s = .next t ∧
      (s.inShow = false → t = { s with desk := t.desk } ∧ Served r .setup [] 0 s t) ∧
      (s.inShow = true → s.stops.state ≠ .clear → t = { s with desk := t.desk } ∧ Served r .stopped [] 0 s t) ∧
      (s.inShow = true → s.stops.state = .clear → s.pointer.armed = none → s.pointer.standing = .ended →
        t = { s with desk := t.desk } ∧ Served r .ended [] 0 s t) ∧
      (∀ n c, s.inShow = true → s.stops.state = .clear → s.pointer.armed = none → s.pointer.standing = .cue n →
        s.tables.find n = some c → c.boundary ≠ .immediate → s.beats.click ≠ .idle →
        t = { s with pointer := { s.pointer with armed := some n }, desk := t.desk } ∧ Served r .ok [] 0x01 s t)) ∧
  (∀ (r : Req) (c : Cue) (s : State), Free r s → FromRole .sm r s → s.inShow = true → s.stops.state = .clear →
    s.tables.find c.number = some c →
    (s.pointer.armed = some c.number ∨ (s.pointer.armed = none ∧ s.pointer.standing = .cue c.number ∧
      (c.boundary = .immediate ∨ s.beats.click = .idle))) →
    c.click = .keep → c.vamp = none →
    ∃ t, exec (.go r []) s = .next t ∧ Replied r .ok [] t ∧
      t = { s with
        pointer := { s.pointer with
          current := some c.number, armed := none, chasePending := false,
          standing := match s.tables.after c.number with
            | some d => .cue d.number
            | none => .ended }
        tempo := match c.tempo with
          | .keep => s.tempo
          | .fixed v => { s.tempo with mode := .fixed, current := v, ramp := none }
          | .live => { s.tempo with mode := .live, current := s.tempo.live, ramp := none }
          | .ramp v n => { s.tempo with
              mode := .ramp, ramp := some { t0 := s.tempo.current, t1 := v, length := n, done := 0 } }
        beats := { s.beats with
          pendingMeter := c.meter <|> s.beats.pendingMeter, pendingBar := c.scoreBar <|> s.beats.pendingBar }
        picture := { s.picture with auto := (c.video.bind (·.camera)).getD s.picture.auto }
        overlay := { s.overlay with
          banner := ((c.video.bind (·.banner)).map fun b => ⟨b.text, b.duration, s.now⟩) <|> s.overlay.banner }
        rigs := t.rigs
        desk := t.desk } ∧
      (∀ (before after : List ChangeEntry) (e : ChangeEntry) (k : Slot) (port : RigPort),
        s.pointer.chasePending = false → c.changes = before ++ e :: after → e.slot = k.val → (∀ f ∈ before ++ after, f.slot ≠ k.val) →
        (s.rig k).state = .ready → (s.rig k).pendingChange = none → (s.rig k).boundPort = some port →
        (∀ j, j ≠ k → (s.rig j).boundPort ≠ some port) →
        (e.transition = .cut ∨ (s.rig k).sustain = .up) →
        t.rig k = { s.rig k with
          state := .changing
          inFlight := some
            { patch := if (s.tables.setting k).cover then e.pair.cover.getD e.pair.main else e.pair.main,
              kind := .cue, bit := !(s.rigPort port).bit, sent := s.now, resent := false } }) ∧
      (s.pointer.chasePending = false →
        (∀ e ∈ c.changes, e.slot < 8 → ∀ k : Slot, e.slot = k.val → (s.rig k).state = .absent ∨ (s.rig k).state = .fault) →
        t.rigs = s.rigs) ∧
      (∀ (k : Slot) (port : RigPort), s.pointer.chasePending = true → (s.rig k).state = .ready →
        (s.rig k).pendingChange = none → (s.rig k).boundPort = some port → (∀ j, j ≠ k → (s.rig j).boundPort ≠ some port) →
        t.rig k = (s.rig k).sent (s.tables.resolve k (s.tables.patchChase (.cue c.number) k).1) .restore
          (!(s.rigPort port).bit) s.now) ∧
      (∀ k : Slot, s.pointer.chasePending = true →
        ((s.rig k).boundPort = none ∨ (s.rig k).state = .absent ∨ (s.rig k).state = .fault) → t.rig k = s.rig k))

/-- A cue with click action START taken by GO with the click IDLE, whether its call takes it at once or it was armed,
starts the click: the first beat is committed at once, 4,800 samples ahead, at the cue's tempo and under its meter;
with a count-in of n bars it begins bar −n in COUNT_IN, and with none the first music bar, numbered by the cue's score
bar, in RUNNING (R25, R29, R31, R81, R87, R88). Taken in FINISHING it changes no click and sets START_IGNORED, and in
COUNT_IN or RUNNING it changes nothing (R25, R88). A cue with click action STOP, taken by GO while the click runs and
no commit is due, moves it to FINISHING with the bar in progress as its last; CUT ends it at once: no beat record
stands, every voice is silent, every start list, flash and vamp is gone (R26, R28, R38, R51, R88, R144). A vamp is
added to the pending push list after that (R89). An armed cue is taken at the commit that meets
its boundary, before the beat is fixed, which has its tempo and meter; a STOP there makes a bar that begins there the
last, and a CUT leaves no commit; a commit that does not meet it, and one outside CLEAR, leaves it armed (R23, R26,
R82). At the end of FINISHING an armed cue is taken in CLEAR (R83). Nothing is raised, so that no stop follows. -/
def Obligations.CueMovesTheClick : Prop :=
  (∀ (r : Req) (c : Cue) (v n : Nat) (s : State), Free r s → FromRole .sm r s → s.inShow = true → s.stops.state = .clear →
    s.tables.find c.number = some c →
    (s.pointer.armed = some c.number ∨ (s.pointer.armed = none ∧ s.pointer.standing = .cue c.number ∧
      (c.boundary = .immediate ∨ s.beats.click = .idle))) →
    c.tempo = .fixed v → c.click = .start n → c.vamp = none → NothingRaised s →
    ∃ t, exec (.go r []) s = .next t ∧ Replied r .ok [] t ∧ t.pointer.current = some c.number ∧
      t.pointer.armed = none ∧ t.tempo.current = v ∧ t.tempo.mode = .fixed ∧
      (s.beats.click = .idle → s.beats.next = none → s.beats.current = none → s.beats.pushes = [] →
        let o := (s.now + 4800) * 65536
        let P := 18874368000000 / v
        t.pointer.startIgnored = s.pointer.startIgnored ∧
        t.beats = { s.beats with
          click := if n = 0 then .running else .countIn
          next := some
            { onset := o, period := P, tempo := v,
              bar := if n = 0 then (((c.scoreBar <|> s.beats.pendingBar).getD 1 : Nat) : Int) else -(n : Int),
              beat := 1, downbeat := true, countIn := decide (n ≠ 0), vampLoop := false, lastPass := false }
          nextOnset := some (o + P), countInLeft := n - 1, countInLength := n, firstBarDue := decide (n ≠ 0),
          startBar := 1, lastBarToBegin := false
          meter := (c.meter <|> s.beats.pendingMeter).getD s.beats.meter, pendingMeter := none
          pendingBar := if n = 0 then none else c.scoreBar <|> s.beats.pendingBar }) ∧
      (s.beats.click ≠ .idle →
        t.pointer.startIgnored = (s.pointer.startIgnored || decide (s.beats.click = .finishing)) ∧
        t.beats = { s.beats with
          pendingMeter := c.meter <|> s.beats.pendingMeter, pendingBar := c.scoreBar <|> s.beats.pendingBar } ∧
        t.clicks = s.clicks)) ∧
  (∀ (r : Req) (c : Cue) (s : State), Free r s → FromRole .sm r s → s.inShow = true → s.stops.state = .clear →
    s.tables.find c.number = some c →
    (s.pointer.armed = some c.number ∨ (s.pointer.armed = none ∧ s.pointer.standing = .cue c.number ∧
      c.boundary = .immediate)) → NothingRaised s →
    (s.beats.click = .countIn ∨ s.beats.click = .running) → s.beats.pushes.length < 4 →
    ∃ t, exec (.go r []) s = .next t ∧ Replied r .ok [] t ∧ t.pointer.current = some c.number ∧
      (c.click = .stop → s.commitDue = false →
        t.beats = { s.beats with
          click := .finishing, lastBarToBegin := false
          pendingMeter := c.meter <|> s.beats.pendingMeter, pendingBar := c.scoreBar <|> s.beats.pendingBar
          pushes := s.beats.pushes ++ c.vamp.toList }) ∧
      (c.click = .cut →
        t.beats = { s.beats with
          click := .idle, current := none, next := none, nextOnset := none, countInLeft := 0, firstBarDue := false,
          lastBarToBegin := false, vamps := []
          pendingMeter := c.meter <|> s.beats.pendingMeter, pendingBar := c.scoreBar <|> s.beats.pendingBar
          pushes := c.vamp.toList } ∧
        t.stops.holdOff = 0 ∧
        (∀ m, (tget t.overlay.flashes m).target = none ∧ (tget t.overlay.flashes m).ticks = 0) ∧
        (∀ i, (t.clicks.lane i).starts = [] ∧ (t.clicks.lane i).clickVoice = none ∧
          (t.clicks.lane i).countVoicePlaying = none))) ∧
  (∀ (o : Nat) (c : Cue) (s : State), s.beats.nextOnset = some o → o / 65536 ≤ s.now + 4800 →
    s.beats.discardsNext = false → s.pointer.armed = some c.number → s.tables.find c.number = some c → NothingRaised s →
    ∃ t, exec .beatCommit s = .next t ∧
      (s.stops.state ≠ .clear ∨ (c.boundary = .nextBar ∧ s.beats.barStartNext = false) →
        t.pointer = s.pointer ∧ ∃ b, t.beats.next = some b ∧ b.onset = o) ∧
      (s.stops.state = .clear → (c.boundary = .nextBar → s.beats.barStartNext = true) → (∀ n, c.click ≠ .start n) →
        t.pointer = { s.pointer with
          current := some c.number, armed := none, chasePending := false,
          standing := match s.tables.after c.number with
            | some d => .cue d.number
            | none => .ended } ∧
        (c.click ≠ .cut → ∃ b, t.beats.next = some b ∧ b.onset = o ∧ t.beats.nextOnset = some (o + b.period) ∧
          b.period = 18874368000000 / b.tempo ∧ (∀ v, c.tempo = .fixed v → b.tempo = v) ∧
          (s.beats.barStartNext = true → b.beat = 1 ∧
            t.beats.meter = (c.meter <|> s.beats.pendingMeter).getD s.beats.meter)) ∧
        (c.click = .stop → (s.beats.click = .countIn ∨ s.beats.click = .running) →
          t.beats.click = .finishing ∧ t.beats.lastBarToBegin = false) ∧
        (c.click = .cut → s.beats.click ≠ .idle →
          t.beats.click = .idle ∧ t.beats.current = none ∧ t.beats.next = none ∧ t.beats.nextOnset = none))) ∧
  (∀ (c : Cue) (last : Beat) (s : State), s.stops.state = .clear → s.beats.click = .finishing →
    s.beats.nextOnset = none → s.beats.current = some last → (last.onset + last.period) / 65536 ≤ s.now →
    NothingRaised s → s.pointer.armed = some c.number → s.tables.find c.number = some c →
    ∃ t, exec .finishingEnd s = .next t ∧ t.pointer.current = some c.number ∧ t.pointer.armed = none ∧
      ((∀ n, c.click ≠ .start n) → t.beats.click = .idle ∧ t.beats.next = none) ∧
      (∀ n v, c.click = .start n → c.tempo = .fixed v →
        t.beats.click = (if n = 0 then .running else .countIn) ∧
        ∃ b, t.beats.next = some b ∧ b.onset = (s.now + 4800) * 65536 ∧ b.tempo = v))

/-- BACK, in the order of its tests: NO_RIGHT from a port that does not hold SM; SETUP in SETUP; RUNNING with the
click not IDLE; NO_CUE at the first cue; else the standing cue moves to the cue before it, from END to the last, the
armed cue is absent, the current cue and chase-pending stand, and the CUE kind is pending, in every stop state (R92).
The list ascends (R61), and in SHOW the standing cue is END or a cue of the list (R75). -/
def Obligations.BackMovesTheStandingCue : Prop :=
  ∀ (r : Req) (s : State), Free r s → cuesRise s.tables.cues →
    ∃ t, exec (.back r []) s = .next t ∧
      let refused := fun (code : ReplyCode) => t = { s with desk := t.desk } ∧ Served r code [] 0 s t
      let moved := fun (m : Nat) =>
        t = { s with pointer := { s.pointer with standing := .cue m, armed := none }, desk := t.desk } ∧
        Served r .ok [] 0x01 s t
      (¬ FromRole .sm r s → refused .noRight) ∧
      (FromRole .sm r s → s.inShow = false → refused .setup) ∧
      (FromRole .sm r s → s.inShow = true → s.beats.click ≠ .idle → refused .running) ∧
      (FromRole .sm r s → s.inShow = true → s.beats.click = .idle →
        (∀ n, s.pointer.standing = .cue n → (∀ d ∈ s.tables.cues, n ≤ d.number) → refused .noCue) ∧
        (∀ n, ∀ d ∈ s.tables.cues, s.pointer.standing = .cue n → d.number < n →
          (∀ e ∈ s.tables.cues, e.number < n → e.number ≤ d.number) → moved d.number) ∧
        (∀ d ∈ s.tables.cues, s.pointer.standing = .ended → (∀ e ∈ s.tables.cues, e.number ≤ d.number) →
          moved d.number))

/-- JUMP, in the order of its tests: NO_RIGHT from a port that does not hold SM; SETUP; RUNNING; RANGE above 99,999;
NO_CUE for a number not in the list; else the standing cue is the given cue, chase-pending is set and the armed cue is
absent, in every stop state, with the CUE kind pending where a part changes (R93). -/
def Obligations.JumpSetsTheStandingCue : Prop :=
  ∀ (r : Req) (a b c d : Byte) (s : State), Free r s →
    let n := word4 a b c d
    ∃ t, exec (.jump r [a, b, c, d]) s = .next t ∧
      let refused := fun (code : ReplyCode) => t = { s with desk := t.desk } ∧ Served r code [] 0 s t
      (¬ FromRole .sm r s → refused .noRight) ∧
      (FromRole .sm r s → s.inShow = false → refused .setup) ∧
      (FromRole .sm r s → s.inShow = true → s.beats.click ≠ .idle → refused .running) ∧
      (FromRole .sm r s → s.inShow = true → s.beats.click = .idle →
        (99999 < n → refused .range) ∧
        (n ≤ 99999 → (∀ x ∈ s.tables.cues, x.number ≠ n) → refused .noCue) ∧
        (n ≤ 99999 → (∃ x ∈ s.tables.cues, x.number = n) →
          t = { s with
            pointer := { s.pointer with standing := .cue n, armed := none, chasePending := true }, desk := t.desk } ∧
          Served r .ok []
            (kindIf (decide (s.pointer.standing ≠ .cue n ∨ s.pointer.armed ≠ none ∨ s.pointer.chasePending = false)) .cue)
            s t))

/-! ## Rigs (chapter 6) -/

/-- A STATUS on a bound port sets the slot's sustain and held-notes count and restarts its presence timer; a change
from DOWN to UP makes a pending CUE due AT_RELEASE due NOW, and sends it where the slot is READY and the stop state is
CLEAR; another STATUS changes no pending change (R111, R117). On an unbound port it only brings the link UP (R96). The
receiver hunts after a message, here and at a DONE and an ANNOUNCE (R205, log 41). -/
def Obligations.StatusTaken : Prop :=
  ∀ (p : RigPort) (k : Slot) (sus : Sustain) (held : Byte) (s : State),
    ((s.rigPort p).boundSlot = none → ∃ t, exec (.status p sus held) s = .next t ∧
      t = { s with rigs := t.rigs, desk := t.desk } ∧ (∀ j, t.rig j = s.rig j) ∧
      (∀ q, t.rigPort q = if q = p then { s.rigPort p with linkUp := true, rx := [] } else s.rigPort q)) ∧
    (BoundPair p k s → ∃ t, exec (.status p sus held) s = .next t ∧ t = { s with rigs := t.rigs, desk := t.desk } ∧
      (∀ j, j ≠ k → t.rig j = s.rig j) ∧ (∀ q, q ≠ p → t.rigPort q = s.rigPort q) ∧
      let r := { s.rig k with sustain := sus, held := held.toNat, presentAt := s.now }
      (((s.rig k).sustain = .up ∨ sus = .down) → t.rig k = r ∧ t.rigPort p = { s.rigPort p with linkUp := true, rx := [] }) ∧
      ((s.rig k).sustain = .down → sus = .up →
        ((∀ patch n, (s.rig k).pendingChange ≠ some ⟨patch, .cue, .atRelease n⟩) →
          ((s.rig k).state ≠ .ready ∨ s.stops.state ≠ .clear ∨ (s.rig k).pendingChange = none) → t.rig k = r) ∧
        (∀ patch n, (s.rig k).pendingChange = some ⟨patch, .cue, .atRelease n⟩ →
          ((s.rig k).state ≠ .ready ∨ s.stops.state ≠ .clear →
            t.rig k = { r with pendingChange := some ⟨patch, .cue, .now⟩ }) ∧
          ((s.rig k).state = .ready → s.stops.state = .clear →
            t.rig k = r.sent patch .cue (!(s.rigPort p).bit) s.now ∧
            t.rigPort p = { s.rigPort p with
              linkUp := true, rx := [], bit := !(s.rigPort p).bit, lastSelect := some (patch, !(s.rigPort p).bit) }))))

/-- A DONE that carries the in-flight bit completes the change: the applied patch is the in-flight patch; a pending
SAFE or RESTORE is sent, a pending CUE due NOW is sent in CLEAR and stays in another stop state, one due AT_RELEASE
stays; with nothing sent the slot is READY. Any other DONE only restarts the presence timer (R108, R114, R117). The
state is one in which nothing follows outside the Rig Controller. In RESTORING and RESUME_ARMED the restores that are
then complete leave the restore set, and the stop state is RESUME_ARMED exactly where none is left and md_ready is set
(R179). In STOPPING, with RIG_FAULT raised exactly where its condition holds (R118), the DONE with nothing pending
behind it brings STOPPED exactly where it leaves the arrival test met: the click IDLE or under CONTINUE; every bound
slot not in FAULT settled at its safe patch, under SAFE; the banner reported, or the tick come (R173). -/
def Obligations.DoneCompletesTheChange : Prop :=
  (∀ (p : RigPort) (k : Slot) (bit : Bool) (s : State), BoundPair p k s → RigsQuiet s →
    let r := { s.rig k with presentAt := s.now }
    ∃ t, exec (.done p bit) s = .next t ∧
      t = { s with rigs := t.rigs, resume := { s.resume with restoreSet := t.resume.restoreSet }, desk := t.desk } ∧
      (∀ j, j ≠ k → t.rig j = s.rig j) ∧ (∀ q, q ≠ p → t.rigPort q = s.rigPort q) ∧
      (((s.rig k).state ≠ .changing ∨ ∀ f, (s.rig k).inFlight = some f → f.bit ≠ bit) →
        t.rig k = r ∧ t.resume = s.resume) ∧
      (∀ f, (s.rig k).state = .changing → (s.rig k).inFlight = some f → f.bit = bit →
        let d := { r with applied := some f.patch, inFlight := none }
        let toggled := { s.rigPort p with linkUp := true, rx := [], bit := !(s.rigPort p).bit }
        RestoresKept s t ∧
        ((s.rig k).pendingChange = none → t.rig k = { d with state := .ready }) ∧
        (∀ patch n, (s.rig k).pendingChange = some ⟨patch, .cue, .atRelease n⟩ → t.rig k = { d with state := .ready }) ∧
        (∀ patch, (s.rig k).pendingChange = some ⟨patch, .cue, .now⟩ →
          (s.stops.state ≠ .clear → t.rig k = { d with state := .ready }) ∧
          (s.stops.state = .clear → t.rig k = d.sent patch .cue toggled.bit s.now ∧
            t.rigPort p = { toggled with lastSelect := some (patch, toggled.bit) })) ∧
        (∀ patch kind due, (s.rig k).pendingChange = some ⟨patch, kind, due⟩ → kind ≠ .cue →
          t.rig k = d.sent patch kind toggled.bit s.now ∧
          t.rigPort p = { toggled with lastSelect := some (patch, toggled.bit) }))) ∧
  (∀ (p : RigPort) (k : Slot) (f : InFlight) (s : State), BoundPair p k s → Restoring k s →
    (s.rig k).state = .changing → (s.rig k).inFlight = some f → (s.rig k).pendingChange = none →
    ∃ t, exec (.done p f.bit) s = .next t ∧
      t = { s with
        rigs := t.rigs, stops := { s.stops with state := t.stops.state },
        resume := { s.resume with restoreSet := t.resume.restoreSet }, desk := t.desk } ∧
      t.rig k = { s.rig k with state := .ready, applied := some f.patch, inFlight := none, presentAt := s.now } ∧
      (∀ j, j ≠ k → t.rig j = s.rig j) ∧ RestoresKept s t ∧ ArmedWhenRestored t) ∧
  (∀ (p : RigPort) (k : Slot) (f : InFlight) (s : State), BoundPair p k s → RigFaultTracked s →
    s.stops.state = .stopping → (s.rig k).state = .changing → (s.rig k).inFlight = some f →
    (s.rig k).pendingChange = none →
    ∃ t, exec (.done p f.bit) s = .next t ∧
      t = { s with
        rigs := t.rigs, stops := { s.stops with state := t.stops.state },
        resume := { s.resume with restoreSet := t.resume.restoreSet }, desk := t.desk } ∧
      t.rig k = { s.rig k with state := .ready, applied := some f.patch, inFlight := none, presentAt := s.now } ∧
      (∀ j, j ≠ k → t.rig j = s.rig j) ∧ RestoresKept s t ∧
      (ArrivalMet t → t.stops.state = .stopped ∧
        ∀ q, (s.port q).mask &&& 0x02 = 0x02 → (t.port q).pendingSet &&& 0x02 = 0x02) ∧
      (¬ ArrivalMet t → t.stops.state = .stopping))

/-- A REFUSED that carries the in-flight bit, whatever its reason, ends the change in FAULT with reason REFUSED: the
in-flight and the pending change go, the applied patch stays, the refusal count goes up, and RIG_FAULT is raised
exactly in SHOW (R109, R118). In every state. Any other REFUSED changes no rig but for its presence timer, where
nothing follows. The reply timer of an in-flight change, 1,200 samples after its send: the first expiry sends the same
SELECT again, with the same bit, and counts a timeout; the second counts a timeout and leaves the slot in FAULT with
reason TIMEOUT, its applied patch UNKNOWN, nothing in flight or pending, and RIG_FAULT raised exactly in SHOW (R106,
R110, R118). Before the timer expires it is no such event (log 1). A slot is lost at its presence expiry, 28,800
samples after the last message, and at a line break on its port, in every state: the binding ends, nothing is in
flight or pending, the applied patch is UNKNOWN, the state is FAULT with reason LOST, and in SHOW a required slot
raises RIG_FAULT (R96, R117, R118). A line break also brings the link DOWN and takes the last identity and the port
fault; on an unbound port it does no more. A message being received is lost (log 41), and a presence expiry leaves the
link and the identity (log 46). Before the expiry it is no such event (log 1). In RESTORING and RESUME_ARMED the loss
of a slot that is not required completes its restore (R179); a REFUSED completes it too where RIG_FAULT has level 0,
and at a level above 0 RIG_FAULT is taken, which suspends the resume with its target kept (R159, R183). -/
def Obligations.SlotFaults : Prop :=
  (∀ (p : RigPort) (k : Slot) (bit : Bool) (why : RefusedReason) (s : State), BoundPair p k s →
    (∀ f, (s.rig k).state = .changing → (s.rig k).inFlight = some f → f.bit = bit →
      ∃ t, exec (.refused p bit why) s = .next t ∧
        t.rig k = { s.rig k with
          state := .fault, fault := some .refused, inFlight := none, pendingChange := none,
          refusals := countUp (s.rig k).refusals, presentAt := s.now } ∧
        t.stops.isRaised .rigFault = s.inShow ∧ t.time = s.time ∧ (t.rigPort p).linkUp = true) ∧
    (((s.rig k).state ≠ .changing ∨ ∀ f, (s.rig k).inFlight = some f → f.bit ≠ bit) →
      ∃ t, exec (.refused p bit why) s = .next t ∧ t = { s with rigs := t.rigs, desk := t.desk } ∧
        t.rig k = { s.rig k with presentAt := s.now } ∧ (∀ j, j ≠ k → t.rig j = s.rig j))) ∧
  (∀ (p : RigPort) (k : Slot) (f : InFlight) (s : State), (s.rig k).boundPort = some p → (s.rig k).inFlight = some f →
    (s.now < f.sent + 1200 → exec (.replyTimeout k) s = .next s) ∧
    (f.sent + 1200 ≤ s.now → f.resent = false → ∃ t, exec (.replyTimeout k) s = .next t ∧
      t = { s with rigs := t.rigs, desk := t.desk } ∧
      t.rig k = { s.rig k with
        inFlight := some { f with resent := true, sent := s.now }, timeouts := countUp (s.rig k).timeouts } ∧
      t.rigPort p = { s.rigPort p with lastSelect := some (f.patch, f.bit) } ∧
      (∀ j, j ≠ k → t.rig j = s.rig j) ∧ (∀ q, q ≠ p → t.rigPort q = s.rigPort q)) ∧
    (f.sent + 1200 ≤ s.now → f.resent = true → ∃ t, exec (.replyTimeout k) s = .next t ∧
      t.rig k = { s.rig k with
        state := .fault, fault := some .timeout, applied := none, inFlight := none, pendingChange := none,
        timeouts := countUp (s.rig k).timeouts } ∧
      t.stops.isRaised .rigFault = s.inShow ∧ t.time = s.time)) ∧
  (∀ (p : RigPort) (k : Slot) (s : State),
    let lost := { s.rig k with
      boundPort := none, state := .fault, applied := none, inFlight := none, pendingChange := none, fault := some .lost }
    (BoundPair p k s → (s.rig k).presentAt + 28800 ≤ s.now → ∃ t, exec (.rigPresenceExpiry k) s = .next t ∧
      t.rig k = lost ∧ t.rigPort p = { s.rigPort p with boundSlot := none } ∧ t.time = s.time ∧
      (s.inShow = true → (s.tables.setting k).required = true → t.stops.isRaised .rigFault = true)) ∧
    (s.now < (s.rig k).presentAt + 28800 → exec (.rigPresenceExpiry k) s = .next s) ∧
    (BoundPair p k s → ∃ t, exec (.rigLineBreak p) s = .next t ∧ t.rig k = lost ∧
      (t.rigPort p).boundSlot = none ∧ (t.rigPort p).linkUp = false ∧ (t.rigPort p).identity = none ∧
      (t.rigPort p).duplicate = false ∧ t.time = s.time ∧
      (s.inShow = true → (s.tables.setting k).required = true → t.stops.isRaised .rigFault = true)) ∧
    ((s.rigPort p).boundSlot = none → RigsQuiet s → ∃ t, exec (.rigLineBreak p) s = .next t ∧
      t = { s with rigs := t.rigs, resume := { s.resume with restoreSet := t.resume.restoreSet }, desk := t.desk } ∧
      (∀ j, t.rig j = s.rig j) ∧ RestoresKept s t ∧
      (∀ q, t.rigPort q =
        if q = p then { s.rigPort p with linkUp := false, identity := none, duplicate := false, rx := [] }
        else s.rigPort q))) ∧
  (∀ (p : RigPort) (k : Slot) (c : Instr) (s : State), BoundPair p k s → Restoring k s →
    (s.tables.setting k).required = false →
    (c = .rigLineBreak p ∨ (c = .rigPresenceExpiry k ∧ (s.rig k).presentAt + 28800 ≤ s.now)) →
    ∃ t, exec c s = .next t ∧ RestoresKept s t ∧ ArmedWhenRestored t ∧ t.resume.target = s.resume.target ∧
      t.resume.mdReady = s.resume.mdReady ∧ t.stops.stack = s.stops.stack) ∧
  (∀ (p : RigPort) (k : Slot) (f : InFlight) (why : RefusedReason) (s : State), BoundPair p k s → Restoring k s →
    (s.rig k).state = .changing → (s.rig k).inFlight = some f →
    ∃ t, exec (.refused p f.bit why) s = .next t ∧ t.resume.target = s.resume.target ∧
      (s.stops.level .rigFault = 0 → RestoresKept s t ∧ ArmedWhenRestored t ∧ t.resume.mdReady = s.resume.mdReady ∧
        t.stops.stack = s.stops.stack) ∧
      (1 ≤ s.stops.level .rigFault → s.stops.stack = [] → s.stops.holdOff = 0 → s.beats.click = .idle →
        t.stops.state = .stopping ∧ t.stops.stack = [⟨.rigFault, s.stops.level .rigFault, false⟩] ∧
        t.resume.mdReady = false ∧ t.resume.restoreSet = []))

/-- An invalid message on a rig port counts one, saturating at 65,535, and changes nothing else (R96, R205): an
unknown kind or a damaged character after a sync byte. The receiver hunts again from the byte after that sync byte, so
that a message found there is taken, and one that has only begun is held (R205). The bytes held from before count as
the first of the run. A bad frame counts one on its port, saturating at 65,535, and changes nothing else, its presence
included (R187, R199): a kind byte that is none of TABLE 12-1, or a start byte in the payload, which begins the next
frame; a valid frame that follows is taken, a REQUEST as the command that its code names. Where a frame or a message
is found bad is log 41. Characters that end no invalid message are no RIG_INVALID_MESSAGE and characters that end no
bad frame no DESK_BAD_FRAME (log 1). A valid REPLY or NOTICE from a station only makes the port ACTIVE, restarts its
presence timer and leaves its receiver hunting (R187); a REQUEST is no DESK_STRAY_FRAME (log 1). -/
def Obligations.BadCharactersCounted : Prop :=
  (∀ (p : RigPort) (chars : List LineChar) (s : State),
    let line := (s.rigPort p).rx.map LineChar.ok ++ chars
    let counted := fun (held : List Byte) (t : State) => (∀ j, t.rig j = s.rig j) ∧ (∀ q, t.port q = s.port q) ∧
      (∀ q, t.rigPort q =
        if q = p then { s.rigPort p with invalidCount := min ((s.rigPort p).invalidCount + 1) 65535, rx := held }
        else s.rigPort q)
    (∀ (junk tail : List LineChar), LineChar.ok 0x55 ∉ junk → parseRig tail = .incomplete →
      (line = junk ++ .ok 0x55 :: tail ∧ ((∃ more, tail = .damaged :: more) ∨
        (∃ k more, tail = .ok k :: more ∧ k.toNat ∉ [1, 2, 3, 4]))) →
      ∃ t, exec (.rigInvalidMessage p chars) s = .next t ∧ t = { s with rigs := t.rigs, desk := t.desk } ∧
        counted (fromStart 0x55 tail) t) ∧
    (∀ m : RigMessage, (∀ x, m = .announce x → isIdentity x = true) →
      line = (0x55 :: rigLine m.body).map LineChar.ok →
      ∃ u v, counted (s.rigPort p).rx u ∧ u = { s with rigs := u.rigs, desk := u.desk } ∧
        exec (messageCommand p m) u = .next v ∧ exec (.rigInvalidMessage p chars) s =
          .next { v with rigs := { v.rigs with ports := tput v.rigs.ports p { v.rigPort p with rx := [] } } }) ∧
    (none ∉ (receiveMessages (s.rigPort p).rx chars).ended → exec (.rigInvalidMessage p chars) s = .next s)) ∧
  (∀ (p : DeskPort) (chars : List LineChar) (s : State),
    let line := (s.port p).rx.map LineChar.ok ++ chars
    (∀ (junk tail : List LineChar) (k : Byte), LineChar.ok 0x7E ∉ junk → FrameKind.ofByte k = none →
      parseFrame tail = .incomplete → line = junk ++ .ok 0x7E :: .ok k :: tail →
      exec (.deskBadFrame p chars) s = .next (s.badFrame p (fromStart 0x7E tail))) ∧
    (∀ (kind : FrameKind) (tag code len : Byte) (part : List Byte), part.length < len.toNat → len.toNat ≤ 250 →
      (∀ b ∈ part, b ≠ 0x7E ∧ b ≠ 0x7D) →
      (∀ more, more.length ≤ 3 → line = (0x7E :: kind.byte :: tag :: code :: len :: part ++ 0x7E :: more).map LineChar.ok →
        (∀ k l, more = k :: l → FrameKind.ofByte k ≠ none) →
        exec (.deskBadFrame p chars) s = .next (s.badFrame p (0x7E :: more))) ∧
      (∀ f : Frame, f.payload.length ≤ 250 →
        line = (0x7E :: kind.byte :: tag :: code :: len :: part ++ f.line).map LineChar.ok →
        ∃ v, exec (frameCommand p f) (s.badFrame p (s.port p).rx) = .next v ∧
          exec (.deskBadFrame p chars) s = .next (v.setPort p { v.port p with rx := [] }))) ∧
    (none ∉ (receiveFrames (s.port p).rx chars).ended → exec (.deskBadFrame p chars) s = .next s) ∧
    (∀ f : Frame, f.kind ≠ .request →
      exec (.deskStrayFrame p f) s = .next (s.setPort p { s.port p with active := true, presentAt := s.now, rx := [] })) ∧
    (∀ f : Frame, f.kind = .request → exec (.deskStrayFrame p f) s = .next s))

/-- ANNOUNCE: any binding of the port ends without a fault, the identity is kept, the link is UP, the sequence bit is
0. Where it names a slot with no bound port the two are bound, the slot READY; in SHOW its first change is sent: SAFE
in HALTED, and in STOPPING and STOPPED where the effective profile has SAFE; else a RESTORE of the chase of the
current cue, or in RESTORING and RESUME_ARMED of the target, which joins the restore set, the stop state then
RESTORING. Where it names a slot another port holds, the port fault is DUPLICATE; where it names none, nothing is
bound (R96, R98, R101, R179). BIND and UNBIND from PROG (R99, R100): a number above 7 is refused RANGE; a BIND to a
slot that has a port is refused HELD; else the port, free of any binding, and the slot are bound whatever the names,
the sequence bit left as it stands. An UNBIND of an ABSENT slot changes nothing; of another slot, one in FAULT LOST
included, it ends the binding and the fault, RIG_FAULT being lowered with the last such fault (R118), and completes a
restore of it (R179). Each binding but one in a restore is stated with nothing raised and no slot in FAULT in SHOW, so
that nothing else follows. -/
def Obligations.RigsBoundAndUnbound : Prop :=
  (∀ (p : RigPort) (name : Text) (s : State), isIdentity name = true →
    let record :=
      { s.rigPort p with linkUp := true, rx := [], boundSlot := none, identity := some name, duplicate := false, bit := false }
    let bound := fun k => { s.rig k with
      boundPort := some p, state := .ready, applied := none, sustain := .up, held := 0, inFlight := none,
      pendingChange := none, fault := none, presentAt := s.now }
    ((s.rigPort p).boundSlot = none → (∀ j, (s.rig j).boundPort ≠ some p) →
      (RigsQuiet s → ∃ t, exec (.announce p name) s = .next t ∧
        t = { s with rigs := t.rigs, resume := { s.resume with restoreSet := t.resume.restoreSet }, desk := t.desk } ∧
        RestoresKept s t ∧ (∀ q, q ≠ p → t.rigPort q = s.rigPort q) ∧
        ((∀ k, (s.rig k).name ≠ name) → t.rigPort p = record ∧ ∀ j, t.rig j = s.rig j) ∧
        (∀ k, (s.rig k).name = name → (∀ j, j ≠ k → (s.rig j).name ≠ name) →
          (∀ j, j ≠ k → t.rig j = s.rig j) ∧
          ((s.rig k).boundPort ≠ none → t.rigPort p = { record with duplicate := true } ∧ t.rig k = s.rig k) ∧
          ((s.rig k).boundPort = none → s.inShow = false →
            t.rigPort p = { record with boundSlot := some k } ∧ t.rig k = bound k))) ∧
      (∀ k, (s.rig k).name = name → (∀ j, j ≠ k → (s.rig j).name ≠ name) → (s.rig k).boundPort = none →
        s.inShow = true → NothingRaised s → (∀ j, j ≠ k → (s.rig j).state ≠ .fault) →
        ∃ t, exec (.announce p name) s = .next t ∧
          (∀ patch kind, firstOf k s = (patch, kind) →
            t.rigPort p = { record with boundSlot := some k, bit := true, lastSelect := some (patch, true) } ∧
            t.rig k = (bound k).sent patch kind true s.now ∧
            (Restoring k s → t.stops.state = .restoring ∧ t.resume.target = s.resume.target ∧
              ∀ m, m ∈ t.resume.restoreSet ↔
                m = (k, patch) ∨ (m ∈ s.resume.restoreSet ∧ m.1 ≠ k ∧ ¬ (t.rig m.1).Restored m.2))))) ∧
    (∀ k, BoundPair p k s → RigsQuiet s → ∃ t, exec (.announce p name) s = .next t ∧
      let gone := { s.rig k with
        boundPort := none, state := .absent, applied := none, inFlight := none, pendingChange := none, fault := none,
        presentAt := s.now }
      ((∀ j, (s.rig j).name ≠ name) → t.rigPort p = record ∧ t.rig k = gone ∧ ∀ j, j ≠ k → t.rig j = s.rig j) ∧
      ((s.rig k).name = name → (∀ j, j ≠ k → (s.rig j).name ≠ name) → s.inShow = false →
        t.rigPort p = { record with boundSlot := some k } ∧ t.rig k = bound k ∧ ∀ j, j ≠ k → t.rig j = s.rig j) ∧
      (∀ j, j ≠ k → (s.rig j).name = name → (∀ i, i ≠ j → (s.rig i).name ≠ name) → t.rig k = gone ∧
        ((s.rig j).boundPort ≠ none → t.rigPort p = { record with duplicate := true } ∧ t.rig j = s.rig j) ∧
        ((s.rig j).boundPort = none → s.inShow = false →
          t.rigPort p = { record with boundSlot := some j } ∧ t.rig j = bound j)))) ∧
  (∀ (r : Req) (a b : Byte) (s : State), Free r s → FromRole .prog r s →
    (∃ t, exec (.bind r [a, b]) s = .next t ∧
      ((8 ≤ a.toNat ∨ 8 ≤ b.toNat) → t = { s with desk := t.desk } ∧ Served r .range [] 0 s t) ∧
      (∀ (p : RigPort) (k : Slot), a = byteOf p.val → b = byteOf k.val →
        ((s.rig k).boundPort ≠ none → t = { s with desk := t.desk } ∧ Served r .held [] 0 s t) ∧
        ((s.rig k).boundPort = none → (s.rigPort p).boundSlot = none → RigsQuiet s →
          Replied r .ok [] t ∧
          t = { s with rigs := t.rigs, resume := { s.resume with restoreSet := t.resume.restoreSet }, desk := t.desk } ∧
          RestoresKept s t ∧ (∀ j, j ≠ k → t.rig j = s.rig j) ∧ (∀ q, q ≠ p → t.rigPort q = s.rigPort q) ∧
          let port := { s.rigPort p with boundSlot := some k, duplicate := false }
          let bound := { s.rig k with
            boundPort := some p, state := .ready, applied := none, sustain := .up, held := 0, inFlight := none,
            pendingChange := none, fault := none, presentAt := s.now }
          (s.inShow = false → t.rigPort p = port ∧ t.rig k = bound) ∧
          (∀ patch kind, s.inShow = true → firstOf k s = (patch, kind) →
            t.rigPort p = { port with bit := !(s.rigPort p).bit, lastSelect := some (patch, !(s.rigPort p).bit) } ∧
            t.rig k = bound.sent patch kind (!(s.rigPort p).bit) s.now)))) ∧
    (∃ t, exec (.unbind r [a]) s = .next t ∧
      (8 ≤ a.toNat → t = { s with desk := t.desk } ∧ Served r .range [] 0 s t) ∧
      (∀ k : Slot, a = byteOf k.val → (s.rig k).state = .absent →
        t = { s with desk := t.desk } ∧ Served r .ok [] 0 s t) ∧
      (∀ k : Slot, a = byteOf k.val → (s.rig k).state ≠ .absent →
        let gone := { s.rig k with
          boundPort := none, state := .absent, applied := none, inFlight := none, pendingChange := none, fault := none }
        (∀ p : RigPort, BoundPair p k s → RigsQuiet s →
          Replied r .ok [] t ∧
          t = { s with rigs := t.rigs, resume := { s.resume with restoreSet := t.resume.restoreSet }, desk := t.desk } ∧
          RestoresKept s t ∧ t.rigPort p = { s.rigPort p with boundSlot := none } ∧ t.rig k = gone ∧
          (∀ j, j ≠ k → t.rig j = s.rig j) ∧ (∀ q, q ≠ p → t.rigPort q = s.rigPort q)) ∧
        ((s.rig k).state = .fault → (s.rig k).boundPort = none → s.stops.stack = [] →
          (s.stops.state = .clear ∨ s.stops.state = .awaitResume ∨ s.stops.state = .halted) →
          (∀ j, j ≠ k → (s.rig j).state ≠ .fault) →
          Replied r .ok [] t ∧ t.rig k = gone ∧ (∀ j, j ≠ k → t.rig j = s.rig j) ∧
          (∀ q, t.rigPort q = s.rigPort q) ∧ t.stops.isRaised .rigFault = false ∧ t.stops.state = s.stops.state) ∧
        (∀ p : RigPort, BoundPair p k s → Restoring k s →
          t.rig k = gone ∧ RestoresKept s t ∧ ArmedWhenRestored t ∧ t.resume.target = s.resume.target))))

/-- The overlay record of a tick (TABLE 8-1, R139 to R142, R147 to R150): the TEMPO and CUE fields of the monitors
whose field sets hold them, the position of the beat in progress at the seen time, the count-in figure or the
innermost vamp's pass, the stop banner's text or the cue banner's, NO PICTURE for a monitor whose camera is not OK,
and SHOW HALTED. The flash (R144, R145): in CLICK mode it starts from a target whose sample the tick's sample plus the
latency has reached, in IMAGE mode from the mark of a slot that the visit has made the monitor hold, with the
monitor's flash length; it is drawn while ticks remain, which fall by one; and the field is blank where FLASH is not
in the field set or the click is IDLE. -/
def Obligations.OverlayBuilt : Prop :=
  ∀ (m : Fin 6) (s : State), s.time.tickPos / 65536 ≤ s.now →
    ∃ t, exec .frameTick s = .next t ∧
      let o := tget t.overlay.records m
      let mon := s.picture.monitor m
      let has := fun (bit : BitVec 8) => mon.fields &&& bit ≠ 0
      let seen := match s.beats.next with
        | some n => if n.onset / 65536 ≤ s.now + mon.latency then some n else s.beats.current
        | none => s.beats.current
      (has 0x04 → o.tempo = some s.tempo.current) ∧ (¬ has 0x04 → o.tempo = none) ∧
      (has 0x01 → o.position = seen.map fun b => ⟨b.bar, b.beat, b.countIn⟩) ∧ (¬ has 0x01 → o.position = none) ∧
      (has 0x02 → s.pointer.current = none → o.cue = none) ∧
      (∀ n c, has 0x02 → s.pointer.current = some n → s.tables.find n = some c → o.cue = some (n, c.label)) ∧
      (∀ b, has 0x08 → seen = some b → b.countIn = true → o.count = .figure b.beat) ∧
      (has 0x08 → (∀ b, seen = some b → b.countIn = false) → s.beats.vamps = [] → o.count = .blank) ∧
      (∀ v outer, has 0x08 → (∀ b, seen = some b → b.countIn = false) → s.beats.vamps = v :: outer →
        o.count = if (v.kind = .opened ∧ v.released = true) ∨ (v.kind = .repeated ∧ v.passes = some v.pass) then .last
          else .vamp v.pass) ∧
      (¬ has 0x08 → o.count = .blank) ∧
      (∀ x rest, has 0x20 → s.stops.state ≠ .halted → s.stops.stack = x :: rest → s.stops.effective.video ≠ .none →
        o.banner = some x.source.text) ∧
      (has 0x20 → s.stops.state = .awaitResume → s.stops.stack = [] → o.banner = some (chars "AWAIT RESUME")) ∧
      (has 0x20 → s.stops.state = .clear → s.stops.stack = [] → o.banner = s.overlay.banner.map (·.text)) ∧
      (¬ has 0x20 → o.banner = none) ∧
      (o.noPicture = true ↔ ∃ k, s.picture.cameraOf mon = some k ∧ (s.picture.cam k).state ≠ .ok) ∧
      (o.showHalted = true ↔ s.stops.state = .halted) ∧
      let r := tget s.overlay.flashes m
      let drawn := fun (x : FlashRec) =>
        (0 < x.ticks → tget t.overlay.flashes m = { x with ticks := x.ticks - 1 } ∧
          o.flash = if has 0x10 ∧ s.beats.click ≠ .idle then x.kind else .none) ∧
        (x.ticks = 0 → tget t.overlay.flashes m = { x with kind := .none } ∧ o.flash = .none)
      (mon.flashMode = .off → drawn r) ∧
      (mon.flashMode = .click → (∀ g, r.target = some g → s.now + mon.latency < g.sample) → drawn r) ∧
      (∀ g, mon.flashMode = .click → r.target = some g → g.sample ≤ s.now + mon.latency →
        drawn { target := none, kind := if g.downbeat then .downbeat else .beat, ticks := mon.flashLength }) ∧
      (mon.flashMode = .image → ((t.picture.monitor m).held = none ∨ (t.picture.monitor m).held = mon.held) → drawn r) ∧
      (∀ id, mon.flashMode = .image → (t.picture.monitor m).held = some id → mon.held ≠ some id →
        let mark := ((t.picture.cam id.camera).slot id.index).mark
        (mark = .none → drawn r) ∧ (mark ≠ .none → drawn { r with kind := mark, ticks := mon.flashLength }))

/-! ## Pictures (chapter 7) -/

/-- A frame start, end and abort of a camera. A start of an enabled camera closes a frame still open, opens the new
one and chooses the lowest FREE slot, or else the oldest READY slot that no monitor holds and that is not the newest,
or else drops the frame (R123). An end of an open frame makes the FILLING slot READY, with the next sequence number
and its beat mark, at the end of the ready list, and the marks at or before its capture time leave the mark queue; a
frame that was dropped removes none; a LOST camera counts the frame, and its second returns it to OK (R124, R127,
R129). An abort frees the FILLING slot and counts (R125). The events of a disabled camera, and an end or abort with no
frame open, change nothing (R122, R124, R125). -/
def Obligations.FrameEventsTaken : Prop :=
  ∀ (k : Camera) (s : State),
    let c := s.picture.cam k
    (c.enabled = false → exec (.frameStart k) s = .next s ∧ exec (.frameEnd k) s = .next s ∧
      exec (.frameAbort k) s = .next s) ∧
    (c.frameOpen = false → exec (.frameEnd k) s = .next s ∧ exec (.frameAbort k) s = .next s) ∧
    (c.enabled = true → ∀ d, c.Closed d →
      ∃ e, exec (.frameStart k) s = .next { s with picture := s.picture.setCam k e } ∧
        let opened := { d with frameOpen := true, lastStart := s.now }
        let chosen := fun i => { opened.setSlot i { d.slot i with state := .filling, captured := s.now, mark := .none } with
          ready := d.ready.filter fun j => j != i }
        (∀ i, (d.slot i).state = .free → (∀ j, j < i → (d.slot j).state ≠ .free) → e = chosen i) ∧
        ((∀ i, (d.slot i).state ≠ .free) →
          (∀ before after i, d.ready = before ++ i :: after → d.newest ≠ some i → (d.slot i).readers = 0 →
            (∀ j ∈ before, d.newest = some j ∨ (d.slot j).readers ≠ 0) → e = chosen i) ∧
          ((∀ j ∈ d.ready, d.newest = some j ∨ (d.slot j).readers ≠ 0) →
            e = { opened with drops := countUp d.drops }))) ∧
    (c.enabled = true → c.frameOpen = true →
      (∃ t, exec (.frameEnd k) s = .next t ∧
        (∀ i, (c.slot i).state = .filling → (∀ j, j ≠ i → (c.slot j).state ≠ .filling) →
          let n := (c.counter + 1) % 65536
          let due := c.marks.filter fun m => m.onset ≤ (c.slot i).captured
          (t.picture.cam k).ready = c.ready ++ [i] ∧ (t.picture.cam k).counter = n ∧
          (t.picture.cam k).marks = (c.marks.filter fun m => (c.slot i).captured < m.onset) ∧
          (t.picture.cam k).slot i = { c.slot i with
            state := .ready, sequence := n,
            mark := if due = [] then .none else if ∃ m ∈ due, m.downbeat = true then .downbeat else .beat } ∧
          (∀ j, j ≠ i → (t.picture.cam k).slot j = c.slot j)) ∧
        ((∀ i, (c.slot i).state ≠ .filling) →
          (t.picture.cam k).counter = c.counter ∧ (t.picture.cam k).ready = c.ready ∧
          (t.picture.cam k).marks = c.marks ∧ (t.picture.cam k).ring = c.ring) ∧
        (t.picture.cam k).frameOpen = false ∧
        (c.state ≠ .lost → (t.picture.cam k).state = c.state ∧ (t.picture.cam k).goodRun = c.goodRun ∧
          t = { s with picture := s.picture.setCam k (t.picture.cam k) }) ∧
        (c.state = .lost → c.goodRun = 0 → (t.picture.cam k).state = .lost ∧ (t.picture.cam k).goodRun = 1 ∧
          t = { s with picture := s.picture.setCam k (t.picture.cam k) }) ∧
        (c.state = .lost → c.goodRun = 1 → (t.picture.cam k).state = .ok ∧ (t.picture.cam k).goodRun = 0 ∧
          ((∀ j, j ≠ k → (s.picture.cam j).enabled = false ∨ (s.picture.cam j).state ≠ .lost) →
            t.stops.isRaised .cameraLost = false))) ∧
      (∃ e, exec (.frameAbort k) s = .next { s with picture := s.picture.setCam k e } ∧
        (∀ i, (c.slot i).state = .filling → (∀ j, j ≠ i → (c.slot j).state ≠ .filling) →
          e = { c.setSlot i { c.slot i with state := .free } with
            frameOpen := false, goodRun := 0, aborts := countUp c.aborts }) ∧
        ((∀ i, (c.slot i).state ≠ .filling) →
          e = { c with frameOpen := false, goodRun := 0, aborts := countUp c.aborts })))

/-- An OK camera expires at its last frame start plus 2,880 samples at 50 fps, 2,402 at 59.94 fps and 2,400 at 60 fps:
it is LOST with no frame open, a FILLING slot is FREE and counts as an abort, and CAMERA_LOST is raised where the
camera is enabled (R128, R130). Before that, or when it is not OK, it is no such event (log 1). PROG enables a camera
in SETUP to LOST, which raises CAMERA_LOST where it is not raised already: the CAMERA and TABLE kinds are pending, and
the STOP kind where it is raised now (R122, R130, R152). PROG disables a camera to OFF, its FILLING slot and its READY
slots that no monitor holds FREE and its mark queue empty, and CAMERA_LOST is lowered where no other camera is enabled
and LOST; in SHOW the write is refused FROZEN; a write of the value held changes nothing (R122, R130). -/
def Obligations.CamerasLostAndEnabled : Prop :=
  ∀ (k : Camera) (s : State),
    let c := s.picture.cam k
    let after := match s.time.rate with
      | .fps50 => 2880
      | .fps5994 => 2402
      | .fps60 => 2400
    ((c.state ≠ .ok ∨ s.now < c.lastStart + after) → exec (.cameraExpiry k) s = .next s) ∧
    (c.state = .ok → c.lastStart + after ≤ s.now → ∃ t, exec (.cameraExpiry k) s = .next t ∧
      (t.picture.cam k).state = .lost ∧ (t.picture.cam k).goodRun = 0 ∧ (t.picture.cam k).frameOpen = false ∧
      (t.picture.cam k).ready = c.ready ∧ (c.enabled = true → t.stops.isRaised .cameraLost = true) ∧
      (s.inShow = false → c.enabled = true → t = { s with
        picture := s.picture.setCam k (t.picture.cam k),
        stops := { s.stops with raised := tput s.stops.raised StopSource.cameraLost.index true }, desk := t.desk }) ∧
      ((∀ i, (c.slot i).state ≠ .filling) → (t.picture.cam k).aborts = c.aborts ∧ (t.picture.cam k).ring = c.ring) ∧
      (∀ i, (c.slot i).state = .filling → (∀ j, j ≠ i → (c.slot j).state ≠ .filling) →
        (t.picture.cam k).aborts = countUp c.aborts ∧
        (t.picture.cam k).ring = tput c.ring i { c.slot i with state := .free })) ∧
    (∀ (r : Req) (b : Bool), Free r s → FromRole .prog r s → ∃ t,
      exec (.cameraEnableWrite r (cameraCode k) (boolByte b)) s = .next t ∧
      (s.inShow = true → t = { s with desk := t.desk } ∧ Served r .frozen [] 0 s t) ∧
      (s.inShow = false → c.enabled = b → t = { s with desk := t.desk } ∧ Served r .ok (boolByte b) 0 s t) ∧
      (s.inShow = false → c.enabled = false → c.state ≠ .lost → b = true →
        t = { s with
          picture := s.picture.setCam k { c with enabled := true, state := .lost, goodRun := 0, frameOpen := false },
          stops := { s.stops with raised := tput s.stops.raised StopSource.cameraLost.index true }, desk := t.desk } ∧
        t.stops.isRaised .cameraLost = true ∧
        Served r .ok [0] (if s.stops.isRaised .cameraLost then 0x50 else 0x52) s t) ∧
      (s.inShow = false → c.enabled = true → b = false → s.stops.stack = [] →
        Replied r .ok [1] t ∧ (t.picture.cam k).enabled = false ∧ (t.picture.cam k).state = .off ∧
        (t.picture.cam k).frameOpen = false ∧ (t.picture.cam k).marks = [] ∧
        (c.state ≠ .off → (∀ j, j ≠ k → (s.picture.cam j).enabled = false ∨ (s.picture.cam j).state ≠ .lost) →
          t.stops.isRaised .cameraLost = false) ∧
        (∀ i, (c.slot i).state = .ready → (c.slot i).readers ≠ 0 → (t.picture.cam k).slot i = c.slot i) ∧
        (∀ i, (c.slot i).state = .ready → (c.slot i).readers = 0 →
          (t.picture.cam k).slot i = { c.slot i with state := .free } ∧ i ∉ (t.picture.cam k).ready) ∧
        (∀ i, (c.slot i).state = .filling → (∀ j, j ≠ i → (c.slot j).state ≠ .filling) →
          (t.picture.cam k).slot i = { c.slot i with state := .free })))

/-- A monitor field written by PROG, in SETUP and in SHOW and in every stop state: a source, a flash mode, a flash
length or a paired lane outside its set is refused RANGE, a display latency above 9,600 is stored as 9,600 with reply
CLAMPED, and the overlay field set takes SWAP, SET and CLEAR of its six flags, refused RANGE for a bit that names
none; 0x00 is the empty set (log 48). The TABLE kind is pending where the monitor changes, and a change of the flash
mode, or a write of OFF, ends its flash (R131, R144). -/
def Obligations.MonitorWritten : Prop :=
  ∀ (r : Req) (i : Fin 6) (s : State), Free r s → FromRole .prog r s →
    let m := s.picture.monitor i
    ∀ (f : MonitorField) (op : FlagOp) (v : List Byte), ∃ t, exec (.monitorWrite r f op (byteOf i.val) v) s = .next t ∧
      let stored := fun (m' : Monitor) (code : ReplyCode) =>
        t = { s with picture := s.picture.setMonitor i m', overlay := t.overlay, desk := t.desk } ∧
        Served r code (monitorFieldBytes f m) (kindIf (decide (m ≠ m')) .table) s t
      let kept := t.overlay = s.overlay
      let refused := t = { s with desk := t.desk } ∧ Served r .range [] 0 s t
      (f ≠ .flashMode → kept) ∧
      (op = .swap →
        (∀ x : MonitorSource, f = .source → v = [x.code] → stored { m with source := x } .ok) ∧
        (∀ a b, f = .latency → v = [a, b] →
          stored { m with latency := min (word2 a b) 9600 } (if 9600 < word2 a b then .clamped else .ok)) ∧
        (f = .pairedLane → v = [0, 0] → stored { m with pairedLane := none } .ok) ∧
        (∀ k : LaneNo, f = .pairedLane → v = [1, byteOf k.val] → stored { m with pairedLane := some k } .ok) ∧
        (∀ n : Byte, f = .pairedLane → v = [1, n] → 16 ≤ n.toNat → refused) ∧
        (∀ n : Byte, f = .flashLength → v = [n] → 1 ≤ n.toNat → n.toNat ≤ 4 → stored { m with flashLength := n.toNat } .ok) ∧
        (∀ n : Byte, v = [n] → (f = .source ∧ 3 < n.toNat) ∨ (f = .flashMode ∧ 2 < n.toNat) ∨
          (f = .flashLength ∧ (n.toNat = 0 ∨ 4 < n.toNat)) → refused) ∧
        (∀ x : FlashMode, f = .flashMode → v = [x.code] → stored { m with flashMode := x } .ok ∧
          (∀ j, j ≠ i → tget t.overlay.flashes j = tget s.overlay.flashes j) ∧
          (x = m.flashMode → x ≠ .off → kept) ∧
          ((x = .off ∨ x ≠ m.flashMode) →
            tget t.overlay.flashes i = { tget s.overlay.flashes i with target := none, ticks := 0 }))) ∧
      (∀ b : Byte, f = .overlayFields → v = [b] →
        (b &&& 0xC0 ≠ 0 → refused) ∧
        (b &&& 0xC0 = 0 → (op = .swap → stored { m with fields := b } .ok) ∧
          (op = .set → b ≠ 0 → stored { m with fields := m.fields ||| b } .ok) ∧
          (op = .clear → b ≠ 0 → stored { m with fields := m.fields &&& ~~~b } .ok)))

/-! ## Show stops (chapter 9) -/

/-- STOP from the port holding SM, MD or FOH: SETUP in SETUP; STOPPED in HALTED; OK with no effect where the source
has a record or is raised; a soft source waits raised while the click runs (R154, R158, R159). A hard source above the
stop level is taken at once: its record is pushed, a full stack losing its bottom record to the displaced count, its
flag lowered, the hold-off count 0 and the state STOPPING (R159 to R161). From CLEAR with the profile CUT / SAFE /
FREEZE the click is cut, every lane silent, the armed cue absent, every monitor frozen, and every READY slot sent its
safe patch (R162 to R165). A conflict: a STOP of a hard source below a hard top record that is still STOPPING halts
the show. The stack is empty, the run-advisory flag no, every command source lowered, the hold-off count 0, the click
IDLE, every lane silent, every monitor frozen, and the halt record holds both sources (R169, R170). A soft source that
waits raised is taken at the sampling of a beat commit, where it is above the stop level and its level is 7 or no
hold-off count is left by that commit, and waits on elsewhere (R158 to R160, R166): the click action BAR moves the
click to FINISHING, and CUT discards the committed beat with its starts and flash targets (R23, R28, R163). -/
def Obligations.StopsTaken : Prop :=
  (∀ (r : Req) (role : Role) (i : StopSource) (s : State), Free r s → FromRole role r s →
    ((role = .sm ∧ i = .smStop) ∨ (role = .md ∧ i = .mdStop) ∨ (role = .foh ∧ i = .fohStop)) →
    ∃ t, exec (.stop r []) s = .next t ∧
      (s.inShow = false → t = { s with desk := t.desk } ∧ Served r .setup [] 0 s t) ∧
      (s.inShow = true → s.stops.state = .halted → t = { s with desk := t.desk } ∧ Served r .stopped [] 0 s t) ∧
      (s.inShow = true → s.stops.state ≠ .halted → ((∃ x ∈ s.stops.stack, x.source = i) ∨ s.stops.isRaised i = true) →
        t = { s with desk := t.desk } ∧ Served r .ok [] 0 s t) ∧
      (s.inShow = true → s.stops.state ≠ .halted → (∀ x ∈ s.stops.stack, x.source ≠ i) → NothingRaised s →
        (i = .fohStop → s.beats.click ≠ .idle →
          t = { s with stops := { s.stops with raised := tput s.stops.raised i.index true }, desk := t.desk } ∧
          Served r .ok [] 0x02 s t) ∧
        (i ≠ .fohStop → s.stops.stopLevel < s.stops.level i → 7 ≤ s.stops.level i →
          Replied r .ok [] t ∧ t.stops.state = .stopping ∧ t.stops.holdOff = 0 ∧ NothingRaised t ∧
          t.stops.stack = ⟨i, s.stops.level i, false⟩ ::
            (if 4 ≤ s.stops.stack.length then s.stops.stack.dropLast else s.stops.stack) ∧
          t.stops.displaced = (if 4 ≤ s.stops.stack.length then countUp s.stops.displaced else s.stops.displaced) ∧
          (s.stops.stack = [] → s.stops.state = .clear → s.stops.profile i = ⟨.cut, .safe, .freeze⟩ →
            t.beats.click = .idle ∧ (s.beats.click ≠ .idle → t.beats.current = none ∧ t.beats.next = none) ∧ t.pointer.armed = none ∧
            t.stops.runAdvisory = false ∧
            (∀ l, (t.clicks.lane l).starts = [] ∧ (t.clicks.lane l).clickVoice = none ∧
              (t.clicks.lane l).countVoicePlaying = none) ∧
            (∀ m, (t.picture.monitor m).frozen = true) ∧
            (∀ k p, BoundPair p k s → (s.rig k).state = .ready → (s.rig k).pendingChange = none →
              t.rig k = (s.rig k).sent (s.tables.setting k).safe .safe (!(s.rigPort p).bit) s.now))))) ∧
  (∀ (r : Req) (role : Role) (i : StopSource) (top : StopRecord) (rest : List StopRecord) (s : State), Free r s →
    FromRole role r s → ((role = .sm ∧ i = .smStop) ∨ (role = .md ∧ i = .mdStop)) → s.inShow = true →
    s.stops.state = .stopping → s.stops.stack = top :: rest → top.source.isHard = true →
    s.stops.level i < top.level → (∀ x ∈ s.stops.stack, x.source ≠ i) → s.stops.isRaised i = false →
    ∃ t, exec (.stop r []) s = .next t ∧ Replied r .ok [] t ∧ t.stops.state = .halted ∧ t.stops.stack = [] ∧
      t.stops.runAdvisory = false ∧ t.stops.holdOff = 0 ∧ t.stops.halt = some ⟨i, top.source⟩ ∧
      t.stops.isRaised .smStop = false ∧ t.stops.isRaised .mdStop = false ∧ t.stops.isRaised .fohStop = false ∧
      t.beats.click = .idle ∧ (s.beats.click ≠ .idle → t.beats.current = none ∧ t.beats.next = none) ∧ t.pointer.armed = none ∧
      (∀ l, (t.clicks.lane l).starts = [] ∧ (t.clicks.lane l).clickVoice = none ∧
        (t.clicks.lane l).countVoicePlaying = none) ∧
      (∀ m, (t.picture.monitor m).frozen = true) ∧ t.time = s.time ∧ t.tables = s.tables) ∧
  (∀ (o : Nat) (i : StopSource) (s : State), s.beats.nextOnset = some o → o / 65536 ≤ s.now + 4800 →
    s.beats.discardsNext = false → s.pointer.armed = none → s.inShow = true → s.stops.state ≠ .halted →
    (∀ j, s.stops.isRaised j = decide (j = i)) → i.isHard = false → 1 ≤ s.stops.level i →
    ∃ t, exec .beatCommit s = .next t ∧
      ((s.stops.level i ≤ s.stops.stopLevel ∨ (s.stops.level i < 7 ∧ 2 ≤ s.stops.holdOff)) →
        t.stops = { s.stops with holdOff := s.stops.holdOff - 1 } ∧ ∃ b, t.beats.next = some b ∧ b.onset = o) ∧
      (s.stops.stopLevel < s.stops.level i → (7 ≤ s.stops.level i ∨ s.stops.holdOff ≤ 1) →
        t.stops.state = .stopping ∧ t.stops.holdOff = 0 ∧ t.stops.isRaised i = decide (i ≠ .fohStop) ∧
        t.stops.stack = ⟨i, s.stops.level i, false⟩ ::
          (if 4 ≤ s.stops.stack.length then s.stops.stack.dropLast else s.stops.stack) ∧
        (s.stops.stack = [] → (s.stops.profile i).click = .bar → (s.beats.click = .countIn ∨ s.beats.click = .running) →
          t.beats.click = .finishing ∧ ∃ b, t.beats.next = some b ∧ b.onset = o) ∧
        (s.stops.stack = [] → (s.stops.profile i).click = .cut → s.beats.click ≠ .idle →
          t.beats.click = .idle ∧ t.beats.current = none ∧ t.beats.next = none ∧ t.beats.nextOnset = none ∧
          (∀ m, (tget t.overlay.flashes m).target = none ∧ (tget t.overlay.flashes m).ticks = 0) ∧
          (∀ l, (t.clicks.lane l).starts = [] ∧ (t.clicks.lane l).clickVoice = none ∧
            (t.clicks.lane l).countVoicePlaying = none))))

/-- The relay state changes once the input has held the other level for 480 consecutive samples, and RELAY is raised
while it is ASSERTED and lowered while it is RELEASED; before that it is no such event (log 1) (R155, log 9). In SETUP
nothing else changes. In SHOW a raising with nothing else raised, above the stop level and not in a conflict, is taken
(R159). In STOPPED a lowering pops the RELAY record where it is the top and acknowledged, and each acknowledged record
below it in turn, with nothing else raised (R175). With records left, the state stays STOPPED; an emptied stack ends
the run: in RESTORING with the target kept where one is present, else in CLEAR with the monitors unfrozen after an
advisory run, where an armed cue is taken if the click is IDLE (R83), and in AWAIT_RESUME after any other (R176). -/
def Obligations.RelayChanges : Prop :=
  ∀ s : State,
    ((s.stops.relayRun = none ∨ ∃ n, s.stops.relayRun = some n ∧ n < 480) → exec .relayStateChange s = .next s) ∧
    (∀ n, s.stops.relayRun = some n → 480 ≤ n → ∃ t, exec .relayStateChange s = .next t ∧
      t.stops.relayAsserted = !s.stops.relayAsserted ∧ t.stops.relayRun = none ∧
      t.stops.isRaised .relay = !s.stops.relayAsserted ∧
      (s.inShow = false → s.stops.stack = [] → t = { s with
        stops := { s.stops with
          relayAsserted := !s.stops.relayAsserted, relayRun := none,
          raised := tput s.stops.raised StopSource.relay.index (!s.stops.relayAsserted) },
        desk := t.desk }) ∧
      (s.inShow = true → s.stops.relayAsserted = false → NothingRaised s →
        (s.stops.state = .clear ∨ s.stops.state = .stopped) → (∀ x ∈ s.stops.stack, x.source ≠ .relay) →
        s.stops.stopLevel < s.stops.level .relay → 7 ≤ s.stops.level .relay →
        t.stops.state = .stopping ∧ t.stops.stack.head? = some ⟨.relay, s.stops.level .relay, false⟩) ∧
      (∀ x rest, s.stops.relayAsserted = true → (∀ i, s.stops.isRaised i = decide (i = .relay)) →
        s.stops.state = .stopped → s.stops.stack = x :: rest → x.source = .relay → x.acked = true →
        t.stops.stack = rest.dropWhile (·.acked) ∧
        (∀ q, (s.port q).mask &&& 0x02 = 0x02 → (t.port q).pendingSet &&& 0x02 = 0x02) ∧
        (rest.dropWhile (·.acked) ≠ [] →
          t.stops.state = .stopped ∧ t.beats = s.beats ∧ t.pointer = s.pointer ∧ t.rigs = s.rigs) ∧
        (rest.dropWhile (·.acked) = [] →
          (s.resume.target ≠ none → t.stops.state = .restoring ∧ t.resume.target = s.resume.target ∧
            t.beats = s.beats ∧ t.pointer = s.pointer) ∧
          (s.resume.target = none → s.stops.runAdvisory = false → t.stops.state = .awaitResume ∧
            t.picture = s.picture ∧ t.beats = s.beats ∧ t.pointer = s.pointer) ∧
          (s.resume.target = none → s.stops.runAdvisory = true → (s.beats.click ≠ .idle ∨ s.pointer.armed = none) →
            t.stops.state = .clear ∧ (∀ m, (t.picture.monitor m).frozen = false) ∧ t.beats = s.beats ∧
            t.pointer = s.pointer) ∧
          (∀ c, s.resume.target = none → s.stops.runAdvisory = true → s.beats.click = .idle →
            s.pointer.armed = some c.number → s.tables.find c.number = some c →
            t.stops.state = .clear ∧ t.pointer.current = some c.number ∧ t.pointer.armed = none))))

/-- HOLD OFF from the port holding MD adds 1 to 16 beats to the count, up to 32, with reply CLAMPED where either is
cut; it is refused SETUP in SETUP (R167). A SWAP of the hold-off item by MD: 0 makes the count 0; another value
replaces a running count, held at 32 with reply CLAMPED, and is refused INACTIVE with none running (R168). The STOP
kind is pending where the count leaves or reaches 0 (R166). Nothing is raised, so that no stop follows a count of 0. A
stop level or profile written by SM or PROG, in the order of R153: READ_ONLY for the level of sources 0 to 4 and the
profile of sources 0 to 2; FROZEN in SHOW; RANGE for a component outside TABLE 9-2; a level above 7 stored as 7 with
reply CLAMPED. The resume count-in takes 1 or 2 in either session, and any other value is refused RANGE (R184). The
reply carries the old value, and the TABLE kind is pending where a value changes. -/
def Obligations.HoldOffAndStopItems : Prop :=
  (∀ (r : Req) (n : Byte) (s : State), Free r s → FromRole .md r s →
    let h := s.stops.holdOff
    (∃ t, exec (.holdOff r [n]) s = .next t ∧
      (s.inShow = false → t = { s with desk := t.desk } ∧ Served r .setup [] 0 s t) ∧
      (s.inShow = true →
        let beats := max 1 (min n.toNat 16)
        let sum := h + beats
        t = { s with stops := { s.stops with holdOff := min sum 32 }, desk := t.desk } ∧
        Served r (if n.toNat = 0 ∨ 16 < n.toNat ∨ 32 < sum then .clamped else .ok) [] (kindIf (decide (h = 0)) .stop) s t)) ∧
    (∃ t, exec (.holdOffWrite r 0 [n]) s = .next t ∧
      (n = 0 → NothingRaised s → t = { s with stops := { s.stops with holdOff := 0 }, desk := t.desk } ∧
        Served r .ok [byteOf h] (kindIf (decide (h ≠ 0)) .stop) s t) ∧
      (n ≠ 0 → h = 0 → t = { s with desk := t.desk } ∧ Served r .inactive [] 0 s t) ∧
      (n ≠ 0 → h ≠ 0 → t = { s with stops := { s.stops with holdOff := min n.toNat 32 }, desk := t.desk } ∧
        Served r (if 32 < n.toNat then .clamped else .ok) [byteOf h] 0 s t))) ∧
  (∀ (r : Req) (s : State), Free r s → (FromRole .sm r s ∨ FromRole .prog r s) →
    (∀ (i : Fin 9) (n : Byte), ∃ t, exec (.stopLevelWrite r (byteOf i.val) [n]) s = .next t ∧
      (i.val ≤ 4 → t = { s with desk := t.desk } ∧ Served r .readOnly [] 0 s t) ∧
      (5 ≤ i.val → s.inShow = true → t = { s with desk := t.desk } ∧ Served r .frozen [] 0 s t) ∧
      (5 ≤ i.val → s.inShow = false →
        t = { s with stops := { s.stops with levels := tput s.stops.levels i (min n.toNat 7) }, desk := t.desk } ∧
        Served r (if 7 < n.toNat then .clamped else .ok) [byteOf (tget s.stops.levels i)]
          (kindIf (decide (tget s.stops.levels i ≠ min n.toNat 7)) .table) s t)) ∧
    (∀ (i : Fin 9) (a b c : Byte), ∃ t, exec (.stopProfileWrite r (byteOf i.val) [a, b, c]) s = .next t ∧
      (i.val ≤ 2 → t = { s with desk := t.desk } ∧ Served r .readOnly [] 0 s t) ∧
      (3 ≤ i.val → s.inShow = true → t = { s with desk := t.desk } ∧ Served r .frozen [] 0 s t) ∧
      (3 ≤ i.val → s.inShow = false → (2 < a.toNat ∨ 1 < b.toNat ∨ 2 < c.toNat) →
        t = { s with desk := t.desk } ∧ Served r .range [] 0 s t) ∧
      (∀ p : Profile, 3 ≤ i.val → s.inShow = false → [a, b, c] = profileBytes p →
        t = { s with stops := { s.stops with profiles := tput s.stops.profiles i p }, desk := t.desk } ∧
        Served r .ok (profileBytes (tget s.stops.profiles i)) (kindIf (decide (tget s.stops.profiles i ≠ p)) .table) s t)) ∧
    (∀ n : Byte, ∃ t, exec (.resumeCountInWrite r 0 [n]) s = .next t ∧
      ((n = 1 ∨ n = 2) → t = { s with resume := { s.resume with countIn := n.toNat }, desk := t.desk } ∧
        Served r .ok [byteOf s.resume.countIn] (kindIf (decide (s.resume.countIn ≠ n.toNat)) .table) s t) ∧
      (n ≠ 1 → n ≠ 2 → t = { s with desk := t.desk } ∧ Served r .range [] 0 s t)))

/-! ## Acknowledgement and resume (chapter 10) -/

/-- ACK from MD, and ACK OVERRIDE from SM where no port holds MD (else HELD): NO_STOP unless the state is STOPPED and
the top record is not acknowledged; else the top record is acknowledged. While its source stays raised the record
stays; once it is not, the record is popped, and the run ends where it was the last: to CLEAR with the monitors
unfrozen after an advisory run, where an armed cue is then taken if the click is IDLE (R83), else to AWAIT_RESUME;
with a target present, to RESTORING, its restores handed again (R176). The next record, where there is one, needs its
own acknowledgement (R174 to R176). -/
def Obligations.StopsAcknowledged : Prop :=
  ∀ (r : Req) (override : Bool) (s : State), Free r s →
    (override = false → FromRole .md r s) → (override = true → FromRole .sm r s) →
    ∃ t, exec (if override then .ackOverride r [] else .ack r []) s = .next t ∧
      (override = true → (∃ p, (s.port p).role = some .md) → t = { s with desk := t.desk } ∧ Served r .held [] 0 s t) ∧
      ((override = true → ∀ p, (s.port p).role ≠ some .md) →
        (s.stops.state ≠ .stopped ∨ s.stops.stack = [] → t = { s with desk := t.desk } ∧ Served r .noStop [] 0 s t) ∧
        (∀ x rest, s.stops.state = .stopped → s.stops.stack = x :: rest →
          (x.acked = true → t = { s with desk := t.desk } ∧ Served r .noStop [] 0 s t) ∧
          (x.acked = false → s.stops.isRaised x.source = true →
            t = { s with stops := { s.stops with stack := { x with acked := true } :: rest }, desk := t.desk } ∧
            Served r .ok [] 0x02 s t) ∧
          (x.acked = false → NothingRaised s →
            Replied r .ok [] t ∧
            (∀ y l, rest = y :: l → y.acked = false → t.stops.stack = rest ∧ t.stops.state = .stopped ∧
              t.beats = s.beats ∧ t.pointer = s.pointer ∧ t.rigs = s.rigs) ∧
            (rest = [] → s.resume.target = none → s.stops.runAdvisory = false →
              t.stops.stack = [] ∧ t.stops.state = .awaitResume ∧ t.picture = s.picture ∧ t.beats = s.beats ∧
              t.pointer = s.pointer) ∧
            (rest = [] → s.resume.target = none → s.stops.runAdvisory = true →
              (s.beats.click ≠ .idle ∨ s.pointer.armed = none) →
              t.stops.stack = [] ∧ t.stops.state = .clear ∧ (∀ m, (t.picture.monitor m).frozen = false) ∧
              t.beats = s.beats ∧ t.pointer = s.pointer) ∧
            (∀ c, rest = [] → s.resume.target = none → s.stops.runAdvisory = true → s.beats.click = .idle →
              s.pointer.armed = some c.number → s.tables.find c.number = some c →
              t.stops.stack = [] ∧ t.stops.state = .clear ∧ t.pointer.current = some c.number ∧ t.pointer.armed = none) ∧
            (∀ target, rest = [] → s.resume.target = some target →
              (∀ k x, (s.rig k).pendingChange = some x → x.kind ≠ .safe) →
              t.stops.stack = [] ∧ t.stops.state = .restoring ∧ t.beats = s.beats ∧ t.pointer = s.pointer ∧
              t.resume = { s.resume with restoreSet := t.resume.restoreSet } ∧
              (∀ k x, (k, x) ∈ t.resume.restoreSet ↔
                (s.rig k).boundPort ≠ none ∧ (s.rig k).state ≠ .fault ∧
                x = s.tables.resolve k (s.tables.patchChase (.cue target.cue) k).1 ∧ (s.rig k).settledAt x = false) ∧
              (∀ k p x, BoundPair p k s → (k, x) ∈ t.resume.restoreSet → (s.rig k).state = .ready →
                (s.rig k).pendingChange = none →
                t.rig k = (s.rig k).sent x .restore (!(s.rigPort p).bit) s.now)))))

/-- RESUME AT, in the order of its tests: SETUP, NO_STOP in CLEAR, STOPPED in STOPPING, STOPPED and HALTED, RANGE,
NO_CUE; else the target is stored, md_ready clear, the state RESTORING, and the restore set holds exactly the bound
slots not in FAULT that are not settled at the target's chased patch, each with that patch (R178). No pending SAFE
stands. MD READY sets md_ready in the states of the resume: in AWAIT_RESUME the state stays, and in RESTORING the
restores that are complete leave the restore set, which arms the resume where none is left and waits for the others
where some are; in any other state it is refused NO_STOP (R179, R180). -/
def Obligations.ResumePrepared : Prop :=
  ∀ (r : Req) (s : State), Free r s →
    (∀ (a b c d e f : Byte), FromRole .sm r s →
      let n := word4 a b c d
      let off := word2 e f
      ∃ t, exec (.resumeAt r [a, b, c, d, e, f]) s = .next t ∧
      let refused := fun (code : ReplyCode) => t = { s with desk := t.desk } ∧ Served r code [] 0 s t
      (s.inShow = false → refused .setup) ∧
      (s.inShow = true → s.stops.state = .clear → refused .noStop) ∧
      (s.inShow = true → (s.stops.state = .stopping ∨ s.stops.state = .stopped ∨ s.stops.state = .halted) →
        refused .stopped) ∧
      (s.inShow = true → s.stops.state.ofResume = true →
        ((99999 < n ∨ 255 < off) → refused .range) ∧
        (n ≤ 99999 → off ≤ 255 → (∀ x ∈ s.tables.cues, x.number ≠ n) → refused .noCue) ∧
        (n ≤ 99999 → off ≤ 255 → (∃ x ∈ s.tables.cues, x.number = n) →
          (∀ k x, (s.rig k).pendingChange = some x → x.kind ≠ .safe) →
          Replied r .ok [] t ∧
          t = { s with
            stops := { s.stops with state := .restoring }
            resume := { s.resume with target := some ⟨n, off⟩, mdReady := false, restoreSet := t.resume.restoreSet }
            rigs := t.rigs
            desk := t.desk } ∧
          (∀ k x, (k, x) ∈ t.resume.restoreSet ↔
            (s.rig k).boundPort ≠ none ∧ (s.rig k).state ≠ .fault ∧
            x = s.tables.resolve k (s.tables.patchChase (.cue n) k).1 ∧ (s.rig k).settledAt x = false)))) ∧
    (FromRole .md r s → ∃ t, exec (.mdReady r []) s = .next t ∧
      ((s.inShow = false ∨ s.stops.state.ofResume = false) → t = { s with desk := t.desk } ∧ Served r .noStop [] 0 s t) ∧
      (s.inShow = true → s.stops.state.ofResume = true → s.resume.mdReady = true →
        t = { s with desk := t.desk } ∧ Served r .ok [] 0 s t) ∧
      (s.inShow = true → s.stops.state.ofResume = true → s.resume.mdReady = false → s.resume.restoreSet = [] →
        t = { s with
          stops := { s.stops with
            state := if s.stops.state = .restoring then .resumeArmed else s.stops.state }
          resume := { s.resume with mdReady := true }
          desk := t.desk } ∧ Served r .ok [] 0x02 s t) ∧
      (s.inShow = true → (s.stops.state = .awaitResume ∨ s.stops.state = .restoring) → s.resume.mdReady = false →
        t = { s with
          stops := { s.stops with state := t.stops.state }
          resume := { s.resume with mdReady := true, restoreSet := t.resume.restoreSet }
          desk := t.desk } ∧ Served r .ok [] 0x02 s t ∧ RestoresKept s t ∧
        (s.stops.state = .awaitResume → t.stops.state = .awaitResume) ∧
        (s.stops.state = .restoring → ArmedWhenRestored t)))

/-- RESUME GO, in the order of its tests: SETUP, NO_STOP in CLEAR, STOPPED unless RESUME_ARMED; else the click starts
at the target's position chase: a count-in of the resume count-in, the first bar the chased bar plus the offset held
at 9,999, the chased tempo and meter; every voice is silent first, whatever the click state (R51); the pointer
stands at the target, the monitors are unfrozen, the target is absent, md_ready clear and the state CLEAR (R39, R94,
R181). Nothing is raised, so that no stop follows. -/
def Obligations.ResumeGoes : Prop :=
  ∀ (r : Req) (s : State), Free r s → FromRole .sm r s →
    ∃ t, exec (.resumeGo r []) s = .next t ∧
      let refused := fun (code : ReplyCode) => t = { s with desk := t.desk } ∧ Served r code [] 0 s t
      (s.inShow = false → refused .setup) ∧
      (s.inShow = true → s.stops.state = .clear → refused .noStop) ∧
      (s.inShow = true → s.stops.state ≠ .clear → s.stops.state ≠ .resumeArmed → refused .stopped) ∧
      (∀ target, s.inShow = true → s.stops.state = .resumeArmed → s.resume.target = some target →
        1 ≤ s.resume.countIn → BeatInv s → NothingRaised s →
        let here : ChaseAt := .cue target.cue
        let T := match s.tables.tempoChase here with
          | .fixed v => v
          | _ => s.tempo.live
        let o := (s.now + 4800) * 65536
        Replied r .ok [] t ∧ t.stops.state = .clear ∧ t.resume.target = none ∧ t.resume.mdReady = false ∧
        t.resume.restoreSet = [] ∧ (∀ m, (t.picture.monitor m).frozen = false) ∧
        t.pointer = { s.pointer with
          current := some target.cue, armed := none, chasePending := false,
          standing := match s.tables.after target.cue with
            | some d => .cue d.number
            | none => .ended } ∧
        t.tempo.current = T ∧ t.tempo.live = s.tempo.live ∧ t.tempo.ramp = none ∧
        t.beats.click = .countIn ∧ t.beats.current = none ∧
        t.beats.next = some
          { onset := o, period := 18874368000000 / T, tempo := T, bar := -(s.resume.countIn : Int), beat := 1,
            downbeat := true, countIn := true, vampLoop := false, lastPass := false } ∧
        t.beats.nextOnset = some (o + 18874368000000 / T) ∧ t.beats.countInLeft = s.resume.countIn - 1 ∧
        t.beats.startBar = min (s.tables.barChase here + target.offset) 9999 ∧
        t.beats.meter = s.tables.meterChase here ∧ t.beats.pendingMeter = none ∧ t.beats.pendingBar = none ∧
        t.beats.vamps = [] ∧ t.beats.pushes = [] ∧
        (∀ l, (t.clicks.lane l).clickVoice = none ∧ (t.clicks.lane l).countVoicePlaying = none))

/-- SHOW RESET, in the order of its tests: SETUP, NO_STOP in CLEAR, BUSY in STOPPING, RESTORING and RESUME_ARMED,
RELAY while the relay is ASSERTED; else the stack is empty, the state AWAIT_RESUME, the hold-off count 0, the click
IDLE with no count-in remaining (R40), every lane silent, the armed cue absent and the vamps empty, the target absent
and md_ready clear; the
run-advisory flag, the halt record, the standing and current cues and the monitors stand (R182). Nothing is raised, so
that no stop follows. -/
def Obligations.ShowResets : Prop :=
  ∀ (r : Req) (s : State), Free r s → FromRole .sm r s →
    ∃ t, exec (.showReset r []) s = .next t ∧
      let refused := fun (code : ReplyCode) => t = { s with desk := t.desk } ∧ Served r code [] 0 s t
      (s.inShow = false → refused .setup) ∧
      (s.inShow = true → s.stops.state = .clear → refused .noStop) ∧
      (s.inShow = true → (s.stops.state = .stopping ∨ s.stops.state = .restoring ∨ s.stops.state = .resumeArmed) →
        refused .busy) ∧
      (s.inShow = true → (s.stops.state = .stopped ∨ s.stops.state = .awaitResume ∨ s.stops.state = .halted) →
        (s.stops.relayAsserted = true → refused .relay) ∧
        (s.stops.relayAsserted = false → NothingRaised s →
          Replied r .ok [] t ∧
          t.stops = { s.stops with stack := [], state := .awaitResume, holdOff := 0, topTicked := false, topReported := false } ∧
          t.resume = { s.resume with target := none, mdReady := false, restoreSet := [] } ∧
          t.pointer = { s.pointer with armed := none } ∧ t.picture.monitors = s.picture.monitors ∧ t.tempo = s.tempo ∧
          t.beats.click = .idle ∧ (s.beats.click ≠ .idle → t.beats.current = none ∧ t.beats.next = none) ∧ t.beats.vamps = [] ∧
          t.beats.pushes = [] ∧ t.beats.meter = s.beats.meter ∧ t.beats.pendingMeter = s.beats.pendingMeter ∧
          t.beats.pendingBar = s.beats.pendingBar ∧ t.beats.countInLeft = 0 ∧
          (∀ l, (t.clicks.lane l).starts = [] ∧ (t.clicks.lane l).clickVoice = none ∧
            (t.clicks.lane l).countVoicePlaying = none)))

/-! ## Desk ports (chapter 11) -/

/-- A port's transmitter (R189, R198): the last character of a reply ends its request, and the waiting BUSY reply
begins and waits no longer (log 49); the last character of a BUSY reply or of a NOTICE lets the reply of a request in
progress begin; a NOTICE with the whole pending set begins when the port is ACTIVE, its set is not empty, none is
outstanding, the transmitter is free and no reply waits for it; and none begins otherwise (log 1). A REPLY_SENT with a
NOTICE on the line, and a NOTICE_SENT with another frame on it, are no such events (log 1). Nothing but the port's
record changes. NOTICE ACK from any port takes its kinds from the
pending set and ends the outstanding notice, with reply OK (R198). A port writes its own notice mask whatever its
role, and the kinds that leave the mask leave the pending set; another port's mask is refused NO_RIGHT (R196, R197).
-/
def Obligations.NoticesAndFramesSent : Prop :=
  (∀ (p : DeskPort) (s : State),
    let d := s.port p
    (∀ f q, d.tx = some ⟨.reply, f⟩ → d.inProgress = some q → q.begun = true →
      (d.waitingBusy = none →
        exec (.replySent p) s = .next (s.setPort p { d with tx := none, inProgress := none })) ∧
      (∀ w, d.waitingBusy = some w → exec (.replySent p) s = .next (s.setPort p { d with
        tx := some ⟨.busy, { kind := .reply, tag := w, code := 0x02, payload := [] }⟩, waitingBusy := none,
        inProgress := none }))) ∧
    (∀ f q (c : Instr), ((c = .replySent p ∧ d.tx = some ⟨.busy, f⟩) ∨ (c = .noticeSent p ∧ d.tx = some ⟨.notice, f⟩)) →
      (d.inProgress = none → d.waitingBusy = none → exec c s = .next (s.setPort p { d with tx := none })) ∧
      (d.inProgress = some q → q.begun = false → exec c s = .next (s.setPort p { d with
        tx := some ⟨.reply, { kind := .reply, tag := q.tag, code := q.reply.code.byte, payload := q.reply.payload }⟩,
        inProgress := some { q with begun := true } }))) ∧
    ((∃ f, d.tx = some ⟨.notice, f⟩) → exec (.replySent p) s = .next s) ∧
    ((∃ k f, k ≠ .notice ∧ d.tx = some ⟨k, f⟩) → exec (.noticeSent p) s = .next s) ∧
    (d.active = true → d.pendingSet ≠ 0 → d.outstanding = false → d.tx = none → d.inProgress = none →
      d.waitingBusy = none → exec (.notice p) s = .next (s.setPort p { d with
        outstanding := true, tx := some ⟨.notice, { kind := .notice, tag := 0, code := 0, payload := [d.pendingSet] }⟩ })) ∧
    ((d.active = false ∨ d.pendingSet = 0 ∨ d.outstanding = true ∨ d.tx ≠ none ∨ d.waitingBusy ≠ none ∨
        (∃ q, d.inProgress = some q ∧ q.begun = false)) → exec (.notice p) s = .next s)) ∧
  (∀ (r : Req) (x : Byte) (s : State), Free r s →
    (∃ t, exec (.noticeAck r [x]) s = .next t ∧ t = { s with desk := t.desk } ∧ Replied r .ok [] t ∧
      (t.port r.port).pendingSet = (s.port r.port).pendingSet &&& ~~~x ∧ (t.port r.port).outstanding = false ∧
      (t.port r.port).role = (s.port r.port).role ∧ (t.port r.port).mask = (s.port r.port).mask ∧
      (∀ q, q ≠ r.port → t.port q = s.port q)) ∧
    (∀ op : FlagOp, (op = .swap ∨ x ≠ 0) →
      (∃ t, exec (.noticeMaskWrite r op (byteOf r.port.val) [x]) s = .next t ∧ t = { s with desk := t.desk } ∧
        Replied r .ok [(s.port r.port).mask] t ∧
        (t.port r.port).mask = (match op with
          | .swap => x
          | .set => (s.port r.port).mask ||| x
          | .clear => (s.port r.port).mask &&& ~~~x) ∧
        (t.port r.port).pendingSet = (s.port r.port).pendingSet &&& (t.port r.port).mask ∧
        (t.port r.port).role = (s.port r.port).role ∧ (t.port r.port).outstanding = (s.port r.port).outstanding ∧
        (∀ q, q ≠ r.port → t.port q = s.port q)) ∧
      (∀ q : DeskPort, q ≠ r.port → ∃ t, exec (.noticeMaskWrite r op (byteOf q.val) [x]) s = .next t ∧
        t = { s with desk := t.desk } ∧ Served r .noRight [] 0 s t)))

/-- CLAIM ROLE grants a role that no port holds to a port that holds none, lowering SM_LOST or MD_LOST, and is refused
HELD otherwise; RELEASE ROLE gives the port's role up, and a release of MD clears md_ready and takes RESUME_ARMED back
to RESTORING; from a port that holds none it changes nothing. A change of the role table makes the TABLE kind pending
(R179, R191, R193). -/
def Obligations.RolesClaimedAndReleased : Prop :=
  ∀ (r : Req) (s : State), Free r s →
    (∀ role : Role, ∃ t, exec (.claimRole r [role.code]) s = .next t ∧
      (((∃ p, (s.port p).role = some role) ∨ (s.port r.port).role ≠ none) →
        t = { s with desk := t.desk } ∧ Served r .held [] 0 s t) ∧
      ((∀ p, (s.port p).role ≠ some role) → (s.port r.port).role = none →
        Replied r .ok [] t ∧ (t.port r.port).role = some role ∧
        (∀ q, q ≠ r.port → (t.port q).role = (s.port q).role) ∧
        (role = .sm → t.stops.isRaised .smLost = false) ∧ (role = .md → t.stops.isRaised .mdLost = false) ∧
        (∀ q, (s.port q).mask &&& 0x40 = 0x40 → (t.port q).pendingSet &&& 0x40 = 0x40) ∧
        ((role = .prog ∨ role = .foh ∨ (role = .sm ∧ s.stops.isRaised .smLost = false) ∨
          (role = .md ∧ s.stops.isRaised .mdLost = false)) → t = { s with desk := t.desk }))) ∧
    (∃ t, exec (.releaseRole r []) s = .next t ∧
      ((s.port r.port).role = none → t = { s with desk := t.desk } ∧ Served r .ok [] 0 s t) ∧
      (∀ role, (s.port r.port).role = some role →
        Replied r .ok [] t ∧ (t.port r.port).role = none ∧ (∀ q, q ≠ r.port → (t.port q).role = (s.port q).role) ∧
        (∀ q, (s.port q).mask &&& 0x40 = 0x40 → (t.port q).pendingSet &&& 0x40 = 0x40) ∧
        (role ≠ .md → t = { s with desk := t.desk }) ∧
        (role = .md → t = { s with
          resume := { s.resume with mdReady := false }
          stops := { s.stops with state := if s.stops.state = .resumeArmed then .restoring else s.stops.state }
          rigs := t.rigs
          desk := t.desk })))

/-- The loss of a desk port: at its presence expiry, 72,000 samples after its last valid frame, a frame on the line
being sent to its end (log 22); at a line break, which also restores the mask, discards the frame being sent and loses
the one being received; and by RESET PORT, which also restores the mask and leaves the port ACTIVE with its reply OK
in progress. An expiry of a SILENT port, or before its sample, is no such event (log 1). The port holds no role, its
pending set is empty, nothing waits on it; in SHOW the loss of SM raises SM_LOST and of MD raises MD_LOST, and the
loss of MD clears md_ready (R188, R192 to R194). -/
def Obligations.DeskPortLost : Prop :=
  ∀ (r : Req) (s : State),
    let p := r.port
    let d := s.port p
    let raised := fun (t : State) =>
      (d.role = none → t = { s with desk := t.desk }) ∧
      (d.role = some .sm → s.inShow = true → t.stops.isRaised .smLost = true) ∧
      (d.role = some .md → s.inShow = true → t.stops.isRaised .mdLost = true) ∧
      (d.role = some .md → t.resume.mdReady = false) ∧
      (s.inShow = false → t.stops.raised = s.stops.raised) ∧
      (∀ q, q ≠ p → (t.port q).role = (s.port q).role ∧ (t.port q).mask = (s.port q).mask)
    let gone := { d with
      active := false, role := none, inProgress := none, waitingBusy := none, pendingSet := 0, outstanding := false }
    (d.active = true → d.presentAt + 72000 ≤ s.now → ∃ t, exec (.deskPresenceExpiry p) s = .next t ∧ t.port p = gone ∧
      raised t) ∧
    ((d.active = false ∨ s.now < d.presentAt + 72000) → exec (.deskPresenceExpiry p) s = .next s) ∧
    (∃ t, exec (.deskLineBreak p) s = .next t ∧ t.port p = { gone with mask := 0xFF, tx := none, rx := [] } ∧ raised t) ∧
    (Free r s → ∃ t, exec (.resetPort r []) s = .next t ∧ Replied r .ok [] t ∧ raised t ∧
      t.port p = { gone with
        mask := 0xFF, active := true, presentAt := s.now, rx := [], inProgress := (t.port p).inProgress,
        tx := (t.port p).tx })

/-! ## Formats (chapter 12) -/

/-- What a desk frame puts on the line is taken back as that frame, whatever characters but a start byte come before
it, and the characters after it stand: no byte of the kind, tag, code or payload is lost, the escapes are undone, and
the CRC matches (R187, R201). What a rig message puts on its line is taken back as that message in the same way
(R205). The code of a REQUEST names its command, and a code that names none is UNKNOWN_CODE's (R203, TABLE 12-2). An
item request does what the row READ does with its operation and payload (log 35). -/
def Obligations.LineDecodesItsOwnFrames : Prop :=
  (∀ (f : Frame) (junk more : List LineChar), f.payload.length ≤ 250 → LineChar.ok 0x7E ∉ junk →
    parseFrame (junk ++ f.line.map .ok ++ more) = .valid f more) ∧
  (∀ (m : RigMessage) (junk more : List LineChar), (∀ t, m = .announce t → isIdentity t = true) →
    LineChar.ok 0x55 ∉ junk → parseRig (junk ++ (rigLine m.body).map .ok ++ more) = .valid m more) ∧
  (∀ (r : Req) (x : List Byte),
    commandOf r 0x10 x = .claimRole r x ∧ commandOf r 0x11 x = .releaseRole r x ∧ commandOf r 0x12 x = .resetPort r x ∧
    commandOf r 0x13 x = .noticeAck r x ∧ commandOf r 0x20 x = .setTempo r x ∧ commandOf r 0x21 x = .nudgeUp r x ∧
    commandOf r 0x22 x = .nudgeDown r x ∧ commandOf r 0x23 x = .tap r x ∧ commandOf r 0x24 x = .release r x ∧
    commandOf r 0x25 x = .holdOff r x ∧ commandOf r 0x30 x = .beginShow r x ∧ commandOf r 0x31 x = .endShow r x ∧
    commandOf r 0x32 x = .go r x ∧ commandOf r 0x33 x = .back r x ∧ commandOf r 0x34 x = .jump r x ∧
    commandOf r 0x40 x = .cueInsert r x ∧ commandOf r 0x41 x = .cueReplace r x ∧ commandOf r 0x42 x = .cueDelete r x ∧
    commandOf r 0x43 x = .tableClear r x ∧ commandOf r 0x44 x = .cueRead r x ∧ commandOf r 0x45 x = .chaseRead r x ∧
    commandOf r 0x46 x = .clipWrite r x ∧ commandOf r 0x47 x = .clipDefine r x ∧ commandOf r 0x48 x = .bind r x ∧
    commandOf r 0x49 x = .unbind r x ∧ commandOf r 0x50 x = .stop r x ∧ commandOf r 0x51 x = .ack r x ∧
    commandOf r 0x52 x = .ackOverride r x ∧ commandOf r 0x53 x = .resumeAt r x ∧ commandOf r 0x54 x = .mdReady r x ∧
    commandOf r 0x55 x = .resumeGo r x ∧ commandOf r 0x56 x = .showReset r x) ∧
  (∀ (r : Req) (code : Byte) (x : List Byte), commandCodes.contains code = false →
    commandOf r code x = .unknownCode r code x) ∧
  (∀ (r : Req) (n₁ n₀ i : Byte) (rest : List Byte) (s : State),
    let x := n₁ :: n₀ :: i :: rest
    exec (commandOf r 0x01 x) s = exec (.read r .read x) s ∧ exec (commandOf r 0x02 x) s = exec (.read r .swap x) s ∧
    exec (commandOf r 0x03 x) s = exec (.read r .set x) s ∧ exec (commandOf r 0x04 x) s = exec (.read r .clear x) s)

/-- The bytes in which CUE READ returns a cue decode to that cue in a CUE INSERT: every field of every cue record
within TABLE 4-1 is carried whole (R59, R68, R202, TABLE 12-3). -/
def Obligations.CueRecordDecodesItsOwnBytes : Prop :=
  ∀ c : Cue, c.valid = true → payloadCue (cueBytes c) = some c

/-! ## Invariants -/

/-- Every step keeps the tempos within 2,000 to 30,000 centi-BPM (R9), the beat records as R20, R27, R30 and R38 have
them, the vamps within their capacities (R33, R34), NEXT's onset CURRENT's onset plus its period, and the next onset
the latest beat's (R21, R22), and the bar of the latest music beat within the innermost vamp's bars (R33), with the
bar numbers within their tables. -/
def Obligations.TemposAndBeatsStayLegal : Prop :=
  ∀ s t : State, TempoInv s → BeatInv s → BarInv s → step s = .next t → TempoInv t ∧ BeatInv t ∧ BarInv t

/-- Every step keeps the stop stack at most four records from distinct sources with levels strictly increasing (R156),
the hold-off count at most 32 (R166), and the stack empty exactly where TABLE 9-3 has it so. -/
def Obligations.StopStackStaysOrdered : Prop :=
  ∀ s t : State, StopInv s → StackFits s → step s = .next t → StopInv t ∧ StackFits t

/-- Every step keeps the cue list ascending with at most 1,000 cues and 4,000 change entries (R61, R62), the clip
memory in its canonical form, and the clips of the directory inside it and apart (R43, R44). Every step keeps each
frame slot's reader count the number of the monitors that hold it, a held slot READY, each ready list the READY slots
of its ring, and at most one slot of a ring FILLING (R121, R134, R136). -/
def Obligations.TablesStayOrdered : Prop :=
  (∀ s t : State, CueInv s → ClipInv s → step s = .next t → CueInv t ∧ ClipInv t) ∧
  (∀ s t : State, PictureInv s → step s = .next t → PictureInv t)

/-- Every step keeps each role held by at most one desk port (R191), and every pending set within its mask (R197).
Every step keeps the binding map of ports and slots one to one (R98, R99, R101). -/
def Obligations.RolesStayUnique : Prop :=
  (∀ s t : State, DeskInv s → step s = .next t → DeskInv t) ∧
  (∀ s t : State, BindInv s → step s = .next t → BindInv t)

/-- The state after power-on reset meets every invariant. -/
def Obligations.PowerOnMeetsTheInvariants : Prop :=
  TempoInv State.reset ∧ BeatInv State.reset ∧ BarInv State.reset ∧ StopInv State.reset ∧ StackFits State.reset ∧
  CueInv State.reset ∧ ClipInv State.reset ∧ DeskInv State.reset ∧ BindInv State.reset ∧ PictureInv State.reset
end

