-- ==== Sys2Proof/Laws/State.lean ====
section
/-!
SUPPORT. The small lemmas of the state: a table read after a write, a field read after an update of the queue or of a desk
port, and what a notice does to the port records.
-/

namespace Sys2Proof.Machine

/-! ## Tables -/

@[simp] theorem tget_tput_same {α : Type} {n : Nat} (v : Vector α n) (i : Fin n) (x : α) : tget (tput v i x) i = x := by
  simp [tget, tput]

theorem tget_tput_ne {α : Type} {n : Nat} (v : Vector α n) (i j : Fin n) (x : α) (h : i ≠ j) :
    tget (tput v i x) j = tget v j := by
  have h' : i.val ≠ j.val := fun e => h (Fin.ext e)
  simp [tget, tput, h']

theorem tget_tput {α : Type} {n : Nat} (v : Vector α n) (i j : Fin n) (x : α) :
    tget (tput v i x) j = if i = j then x else tget v j := by
  split
  · next h => subst h; simp
  · next h => exact tget_tput_ne v i j x h

@[simp] theorem tput_tget {α : Type} {n : Nat} (v : Vector α n) (i : Fin n) : tput v i (tget v i) = v := by
  simp [tget, tput]

@[simp] theorem tput_tput {α : Type} {n : Nat} (v : Vector α n) (i : Fin n) (x y : α) :
    tput (tput v i x) i y = tput v i y := by
  simp [tput]

@[simp] theorem tget_tmap {α β : Type} {n : Nat} (f : α → β) (v : Vector α n) (i : Fin n) :
    tget (tmap f v) i = f (tget v i) := by
  simp [tget, tmap]

@[simp] theorem tget_tmapIdx {α β : Type} {n : Nat} (f : Fin n → α → β) (v : Vector α n) (i : Fin n) :
    tget (tmapIdx f v) i = f i (tget v i) := by
  simp [tget, tmapIdx]

@[simp] theorem tget_replicate {α : Type} {n : Nat} (x : α) (i : Fin n) : tget (Vector.replicate n x) i = x := by
  simp [tget]

/-- Two tables with the same entries are the same. -/
theorem table_ext {α : Type} {n : Nat} {v w : Vector α n} (h : ∀ i, tget v i = tget w i) : v = w :=
  Vector.ext fun i hi => h ⟨i, hi⟩

@[simp] theorem idx?_val (n : Nat) (i : Fin n) : idx? n i.val = some i := by
  simp [idx?]

theorem idx?_none {n i : Nat} (h : n ≤ i) : idx? n i = none := by
  simp [idx?, Nat.not_lt.mpr h]

/-! ## The queue -/

@[simp] theorem withPending_pending (s : State) (q : List Instr) : (s.withPending q).pending = q := rfl

@[simp] theorem withPending_keeps (s : State) (q : List Instr) :
    (s.withPending q).time = s.time ∧ (s.withPending q).tempo = s.tempo ∧ (s.withPending q).beats = s.beats ∧
    (s.withPending q).clicks = s.clicks ∧ (s.withPending q).tables = s.tables ∧
    (s.withPending q).pointer = s.pointer ∧ (s.withPending q).rigs = s.rigs ∧
    (s.withPending q).picture = s.picture ∧ (s.withPending q).overlay = s.overlay ∧
    (s.withPending q).stops = s.stops ∧ (s.withPending q).resume = s.resume ∧ (s.withPending q).desk = s.desk := by
  simp [State.withPending]

/-! ## Desk ports -/

@[simp] theorem port_setPort_same (s : State) (p : DeskPort) (d : DeskPortRec) : (s.setPort p d).port p = d := by
  simp [State.port, State.setPort]

theorem port_setPort (s : State) (p q : DeskPort) (d : DeskPortRec) :
    (s.setPort p d).port q = if p = q then d else s.port q := by
  simp [State.port, State.setPort, tget_tput]

theorem port_setPort_ne (s : State) (p q : DeskPort) (d : DeskPortRec) (h : q ≠ p) :
    (s.setPort p d).port q = s.port q := by
  simp [port_setPort, Ne.symm h]

/-- A state that differs only in its other parts has the same ports. -/
theorem port_congr {s t : State} (h : t.desk = s.desk) (q : DeskPort) : t.port q = s.port q := by
  simp [State.port, h]

/-- A port's record with a set of kinds made pending. -/
def DeskPortRec.addKinds (kinds : BitVec 8) (d : DeskPortRec) : DeskPortRec :=
  { d with pendingSet := d.pendingSet ||| (d.mask &&& kinds) }

theorem addKinds_zero (d : DeskPortRec) : d.addKinds 0 = d := by
  simp [DeskPortRec.addKinds]

theorem addKinds_addKinds (a b : BitVec 8) (d : DeskPortRec) : (d.addKinds a).addKinds b = d.addKinds (a ||| b) := by
  simp only [DeskPortRec.addKinds]
  congr 1
  ext i hi
  simp
  cases d.pendingSet[i] <;> cases d.mask[i] <;> simp

@[simp] theorem port_notify (k : NoticeKind) (s : State) (q : DeskPort) :
    (notify k s).port q = (s.port q).addKinds k.bit := by
  simp [notify, State.port, DeskPortRec.gather, DeskPortRec.addKinds]

theorem port_notifyIf (b : Bool) (k : NoticeKind) (s : State) (q : DeskPort) :
    (notifyIf b k s).port q = (s.port q).addKinds (kindIf b k) := by
  cases b
  · exact (addKinds_zero _).symm
  · simp [notifyIf, kindIf]

@[simp] theorem State.now_def (s : State) : s.now = s.time.clock := rfl

/-- A notice changes nothing but the port records. -/
theorem notify_eq (k : NoticeKind) (s : State) : notify k s = { s with desk := (notify k s).desk } := rfl

theorem notifyIf_eq (b : Bool) (k : NoticeKind) (s : State) : notifyIf b k s = { s with desk := (notifyIf b k s).desk } := by
  cases b <;> rfl

end Sys2Proof.Machine
end

