-- ==== Sys2Proof/Laws/Clip.lean ====
section
/-!
SUPPORT. The clip memory (R43): a read after a write, and the canonical form kept by every operation.
-/

namespace Sys2Proof.Machine.ClipMem

theorem read_below {m : ClipMemory} {low a : Nat} (h : wfFrom low m = true) (ha : a < low) : read m a = blank := by
  induction m generalizing low with
  | nil => rfl
  | cons e m ih =>
    simp only [wfFrom, Bool.and_eq_true, decide_eq_true_eq] at h
    have : e.1 ≠ a := by omega
    simp [read, this, ih h.2 (by omega)]

/-- A read after a write: the written address gives the written sample, and every other address is as before (R43). -/
theorem read_write {m : ClipMemory} {low : Nat} (h : wfFrom low m = true) (addr a : Nat) (x : Sample) :
    read (write m addr x) a = if a = addr then x else read m a := by
  induction m generalizing low with
  | nil =>
    by_cases ha : a = addr
    · subst ha; by_cases hx : x = blank <;> simp [write, read, hx]
    · by_cases hx : x = blank <;> simp [write, read, hx, ha, Ne.symm ha]
  | cons e m ih =>
    obtain ⟨b, v⟩ := e
    have hw := h
    simp only [wfFrom, Bool.and_eq_true, decide_eq_true_eq] at h
    have below : ∀ c, c < b + 1 → read m c = blank := fun c hc => read_below h.2 hc
    by_cases ha : a = addr
    · subst ha
      by_cases hx : x = blank <;> rcases Nat.lt_trichotomy a b with hlt | rfl | hgt
      · simp [write, read, hx, hlt, Nat.ne_of_gt hlt, below a (by omega)]
      · simp [write, hx, below a (by omega)]
      · have e := ih h.2
        rw [if_pos rfl, hx] at e
        simp [write, read, hx, Nat.not_lt.mpr (Nat.le_of_lt hgt), Nat.ne_of_lt hgt, Nat.ne_of_gt hgt, e]
      · simp [write, read, hx, hlt]
      · simp [write, read, hx]
      · simp [write, read, Nat.not_lt.mpr (Nat.le_of_lt hgt), Nat.ne_of_lt hgt, Nat.ne_of_gt hgt, ih h.2]
    · have ha' := Ne.symm ha
      by_cases hx : x = blank <;> rcases Nat.lt_trichotomy addr b with hlt | rfl | hgt
      · simp [write, hx, hlt, ha]
      · simp [write, read, hx, ha, ha']
      · simp [write, read, Nat.not_lt.mpr (Nat.le_of_lt hgt), Nat.ne_of_gt hgt, ih h.2, ha]
      · simp [write, read, hx, hlt, ha, ha']
      · simp [write, read, hx, ha, ha']
      · simp [write, read, Nat.not_lt.mpr (Nat.le_of_lt hgt), Nat.ne_of_gt hgt, ih h.2, ha]

theorem wfFrom_weaken {m : ClipMemory} {a b : Nat} (h : wfFrom b m = true) (hab : a ≤ b) : wfFrom a m = true := by
  cases m with
  | nil => rfl
  | cons e m => simp only [wfFrom, Bool.and_eq_true, decide_eq_true_eq] at h ⊢; exact ⟨⟨⟨by omega, h.1.1.2⟩, h.1.2⟩, h.2⟩

theorem write_wfFrom {m : ClipMemory} {low addr : Nat} (x : Sample) (h : wfFrom low m = true) (hl : low ≤ addr)
    (ha : addr < Config.clipMemorySize) : wfFrom low (write m addr x) = true := by
  induction m generalizing low with
  | nil => by_cases hx : x = blank <;> simp [write, wfFrom, hx, hl, ha]
  | cons e m ih =>
    obtain ⟨b, v⟩ := e
    have hw := h
    simp only [wfFrom, Bool.and_eq_true, decide_eq_true_eq] at h
    simp only [write]
    split
    · next hlt =>
      split
      · exact hw
      · next hx =>
        simp only [wfFrom, Bool.and_eq_true, decide_eq_true_eq]
        exact ⟨⟨⟨hl, ha⟩, by simp [hx]⟩, ⟨⟨by omega, h.1.1.2⟩, h.1.2⟩, h.2⟩
    · split
      · next hge he =>
        subst he
        split
        · exact wfFrom_weaken h.2 (by omega)
        · next hx =>
          simp only [wfFrom, Bool.and_eq_true, decide_eq_true_eq]
          exact ⟨⟨⟨hl, ha⟩, by simp [hx]⟩, h.2⟩
      · next hge hne =>
        simp only [wfFrom, Bool.and_eq_true, decide_eq_true_eq]
        exact ⟨h.1, ih h.2 (by omega)⟩

/-- A write inside the memory keeps its canonical form. -/
theorem write_wf {m : ClipMemory} {addr : Nat} (x : Sample) (h : wf m = true) (ha : addr < Config.clipMemorySize) :
    wf (write m addr x) = true := write_wfFrom x h (Nat.zero_le _) ha

/-- A run of writes inside the memory keeps its canonical form. -/
theorem writeRun_wf {m : ClipMemory} {addr : Nat} (xs : List Sample) (h : wf m = true)
    (ha : addr + xs.length ≤ Config.clipMemorySize) : wf (writeRun m addr xs) = true := by
  induction xs generalizing m addr with
  | nil => exact h
  | cons x xs ih =>
    simp only [List.length_cons] at ha
    exact ih (write_wf x h (by omega)) (by omega)

/-- A read after a run of writes: the run's samples at its addresses, and every other address as before (R43). -/
theorem read_writeRun {m : ClipMemory} {addr : Nat} (xs : List Sample) (h : wf m = true)
    (ha : addr + xs.length ≤ Config.clipMemorySize) (a : Nat) :
    read (writeRun m addr xs) a = if addr ≤ a ∧ a < addr + xs.length then xs.getD (a - addr) 0 else read m a := by
  induction xs generalizing m addr with
  | nil => rw [if_neg (by simp)]; rfl
  | cons x xs ih =>
    simp only [List.length_cons] at ha ⊢
    rw [writeRun, ih (write_wf x h (by omega)) (by omega), read_write h]
    by_cases h1 : a = addr
    · subst h1; simp
    · by_cases h2 : addr + 1 ≤ a ∧ a < addr + 1 + xs.length
      · obtain ⟨k, rfl⟩ : ∃ k, a = addr + 1 + k := ⟨a - (addr + 1), by omega⟩
        have e : addr + 1 + k - addr = k + 1 := by omega
        have e2 : addr + 1 + k - (addr + 1) = k := by omega
        rw [if_pos h2, if_pos (by omega), e, e2]; rfl
      · rw [if_neg h2, if_neg h1, if_neg (by omega)]

end Sys2Proof.Machine.ClipMem
end

