-- ==== Sys2Proof/Laws/Frame.lean ====
section
/-!
SUPPORT. What each shared operation leaves as it stands: for every operation, the parts of the state that it does not
write.
-/

namespace Sys2Proof.Machine

-- One theorem at a time: a thread for each of them at once would ask for too much memory.
set_option Elab.async false

/-- A part of the state that one step of a fold keeps is kept by the fold. -/
theorem keep_foldl {α β : Type} (g : State → β) (f : State → α → State) (l : List α) (s : State)
    (h : ∀ t a, g (f t a) = g t) : g (l.foldl f s) = g s := by
  induction l generalizing s with
  | nil => rfl
  | cons a l ih => rw [List.foldl_cons, ih, h]

@[simp] theorem State_setPort_keeps (p : DeskPort) (d : DeskPortRec) (s : State) :
    (s.setPort p d).time = s.time ∧ (s.setPort p d).tempo = s.tempo ∧ (s.setPort p d).beats = s.beats ∧
    (s.setPort p d).clicks = s.clicks ∧ (s.setPort p d).tables = s.tables ∧ (s.setPort p d).pointer = s.pointer ∧
    (s.setPort p d).rigs = s.rigs ∧ (s.setPort p d).picture = s.picture ∧ (s.setPort p d).overlay = s.overlay ∧
    (s.setPort p d).stops = s.stops ∧ (s.setPort p d).resume = s.resume ∧ (s.setPort p d).pending = s.pending := by
  simp [State.setPort]

@[simp] theorem notify_keeps (k : NoticeKind) (s : State) :
    (notify k s).time = s.time ∧ (notify k s).tempo = s.tempo ∧ (notify k s).beats = s.beats ∧
    (notify k s).clicks = s.clicks ∧ (notify k s).tables = s.tables ∧ (notify k s).pointer = s.pointer ∧
    (notify k s).rigs = s.rigs ∧ (notify k s).picture = s.picture ∧ (notify k s).overlay = s.overlay ∧
    (notify k s).stops = s.stops ∧ (notify k s).resume = s.resume ∧ (notify k s).pending = s.pending := by
  simp [notify]

@[simp] theorem notifyIf_keeps (b : Bool) (k : NoticeKind) (s : State) :
    (notifyIf b k s).time = s.time ∧ (notifyIf b k s).tempo = s.tempo ∧ (notifyIf b k s).beats = s.beats ∧
    (notifyIf b k s).clicks = s.clicks ∧ (notifyIf b k s).tables = s.tables ∧ (notifyIf b k s).pointer = s.pointer ∧
    (notifyIf b k s).rigs = s.rigs ∧ (notifyIf b k s).picture = s.picture ∧ (notifyIf b k s).overlay = s.overlay ∧
    (notifyIf b k s).stops = s.stops ∧ (notifyIf b k s).resume = s.resume ∧ (notifyIf b k s).pending = s.pending := by
  refine ⟨?_, ?_, ?_, ?_, ?_, ?_, ?_, ?_, ?_, ?_, ?_, ?_⟩ <;> (unfold notifyIf; (repeat' split) <;> simp_all)

@[simp] theorem validFrame_keeps (p : DeskPort) (s : State) :
    (validFrame p s).time = s.time ∧ (validFrame p s).tempo = s.tempo ∧ (validFrame p s).beats = s.beats ∧
    (validFrame p s).clicks = s.clicks ∧ (validFrame p s).tables = s.tables ∧ (validFrame p s).pointer = s.pointer ∧
    (validFrame p s).rigs = s.rigs ∧ (validFrame p s).picture = s.picture ∧ (validFrame p s).overlay = s.overlay ∧
    (validFrame p s).stops = s.stops ∧ (validFrame p s).resume = s.resume ∧ (validFrame p s).pending = s.pending := by
  simp [validFrame]

@[simp] theorem chooseFrame_keeps (p : DeskPort) (s : State) :
    (chooseFrame p s).time = s.time ∧ (chooseFrame p s).tempo = s.tempo ∧ (chooseFrame p s).beats = s.beats ∧
    (chooseFrame p s).clicks = s.clicks ∧ (chooseFrame p s).tables = s.tables ∧
    (chooseFrame p s).pointer = s.pointer ∧ (chooseFrame p s).rigs = s.rigs ∧ (chooseFrame p s).picture = s.picture ∧
    (chooseFrame p s).overlay = s.overlay ∧ (chooseFrame p s).stops = s.stops ∧ (chooseFrame p s).resume = s.resume ∧
    (chooseFrame p s).pending = s.pending := by
  simp [chooseFrame]

@[simp] theorem setTempoState_keeps (x : TempoState) (s : State) :
    (setTempoState x s).time = s.time ∧ (setTempoState x s).beats = s.beats ∧ (setTempoState x s).clicks = s.clicks ∧
    (setTempoState x s).tables = s.tables ∧ (setTempoState x s).pointer = s.pointer ∧
    (setTempoState x s).rigs = s.rigs ∧ (setTempoState x s).picture = s.picture ∧
    (setTempoState x s).overlay = s.overlay ∧ (setTempoState x s).stops = s.stops ∧
    (setTempoState x s).resume = s.resume ∧ (setTempoState x s).pending = s.pending := by
  simp [setTempoState]

@[simp] theorem setFrozen_keeps (b : Bool) (s : State) :
    (setFrozen b s).time = s.time ∧ (setFrozen b s).tempo = s.tempo ∧ (setFrozen b s).beats = s.beats ∧
    (setFrozen b s).clicks = s.clicks ∧ (setFrozen b s).tables = s.tables ∧ (setFrozen b s).pointer = s.pointer ∧
    (setFrozen b s).rigs = s.rigs ∧ (setFrozen b s).overlay = s.overlay ∧ (setFrozen b s).stops = s.stops ∧
    (setFrozen b s).resume = s.resume ∧ (setFrozen b s).pending = s.pending := by
  simp [setFrozen]

@[simp] theorem setRaised_keeps (i : StopSource) (b : Bool) (s : State) :
    (setRaised i b s).time = s.time ∧ (setRaised i b s).tempo = s.tempo ∧ (setRaised i b s).beats = s.beats ∧
    (setRaised i b s).clicks = s.clicks ∧ (setRaised i b s).tables = s.tables ∧
    (setRaised i b s).pointer = s.pointer ∧ (setRaised i b s).rigs = s.rigs ∧ (setRaised i b s).picture = s.picture ∧
    (setRaised i b s).overlay = s.overlay ∧ (setRaised i b s).resume = s.resume ∧
    (setRaised i b s).pending = s.pending := by
  simp [setRaised]

@[simp] theorem lowerCommands_keeps (s : State) :
    (lowerCommands s).time = s.time ∧ (lowerCommands s).tempo = s.tempo ∧ (lowerCommands s).beats = s.beats ∧
    (lowerCommands s).clicks = s.clicks ∧ (lowerCommands s).tables = s.tables ∧
    (lowerCommands s).pointer = s.pointer ∧ (lowerCommands s).rigs = s.rigs ∧ (lowerCommands s).picture = s.picture ∧
    (lowerCommands s).overlay = s.overlay ∧ (lowerCommands s).resume = s.resume ∧
    (lowerCommands s).pending = s.pending := by
  simp [lowerCommands]

@[simp] theorem setHoldOff_keeps (n : Nat) (s : State) :
    (setHoldOff n s).time = s.time ∧ (setHoldOff n s).tempo = s.tempo ∧ (setHoldOff n s).beats = s.beats ∧
    (setHoldOff n s).clicks = s.clicks ∧ (setHoldOff n s).tables = s.tables ∧ (setHoldOff n s).pointer = s.pointer ∧
    (setHoldOff n s).rigs = s.rigs ∧ (setHoldOff n s).picture = s.picture ∧ (setHoldOff n s).overlay = s.overlay ∧
    (setHoldOff n s).resume = s.resume ∧ (setHoldOff n s).pending = s.pending := by
  simp [setHoldOff]

@[simp] theorem setRig_keeps (k : Slot) (r : Rig) (s : State) :
    (setRig k r s).time = s.time ∧ (setRig k r s).tempo = s.tempo ∧ (setRig k r s).beats = s.beats ∧
    (setRig k r s).clicks = s.clicks ∧ (setRig k r s).tables = s.tables ∧ (setRig k r s).pointer = s.pointer ∧
    (setRig k r s).picture = s.picture ∧ (setRig k r s).overlay = s.overlay ∧ (setRig k r s).stops = s.stops ∧
    (setRig k r s).resume = s.resume ∧ (setRig k r s).pending = s.pending := by
  simp [setRig]

@[simp] theorem setRigPort_keeps (p : RigPort) (r : RigPortRec) (s : State) :
    (setRigPort p r s).time = s.time ∧ (setRigPort p r s).tempo = s.tempo ∧ (setRigPort p r s).beats = s.beats ∧
    (setRigPort p r s).clicks = s.clicks ∧ (setRigPort p r s).tables = s.tables ∧
    (setRigPort p r s).pointer = s.pointer ∧ (setRigPort p r s).picture = s.picture ∧
    (setRigPort p r s).overlay = s.overlay ∧ (setRigPort p r s).stops = s.stops ∧
    (setRigPort p r s).resume = s.resume ∧ (setRigPort p r s).pending = s.pending := by
  simp [setRigPort]

@[simp] theorem sendChange_keeps (k : Slot) (x : Patch) (c : ChangeKind) (s : State) :
    (sendChange k x c s).time = s.time ∧ (sendChange k x c s).tempo = s.tempo ∧
    (sendChange k x c s).beats = s.beats ∧ (sendChange k x c s).clicks = s.clicks ∧
    (sendChange k x c s).tables = s.tables ∧ (sendChange k x c s).pointer = s.pointer ∧
    (sendChange k x c s).picture = s.picture ∧ (sendChange k x c s).overlay = s.overlay ∧
    (sendChange k x c s).stops = s.stops ∧ (sendChange k x c s).resume = s.resume ∧
    (sendChange k x c s).pending = s.pending := by
  refine ⟨?_, ?_, ?_, ?_, ?_, ?_, ?_, ?_, ?_, ?_, ?_⟩ <;> (unfold sendChange; (repeat' split) <;> simp_all)

@[simp] theorem placeChange_keeps (k : Slot) (h : Handed) (s : State) :
    (placeChange k h s).time = s.time ∧ (placeChange k h s).tempo = s.tempo ∧ (placeChange k h s).beats = s.beats ∧
    (placeChange k h s).clicks = s.clicks ∧ (placeChange k h s).tables = s.tables ∧
    (placeChange k h s).pointer = s.pointer ∧ (placeChange k h s).picture = s.picture ∧
    (placeChange k h s).overlay = s.overlay ∧ (placeChange k h s).stops = s.stops ∧
    (placeChange k h s).resume = s.resume ∧ (placeChange k h s).pending = s.pending := by
  refine ⟨?_, ?_, ?_, ?_, ?_, ?_, ?_, ?_, ?_, ?_, ?_⟩ <;> (dsimp only [placeChange]; (repeat' split) <;> simp)

@[simp] theorem handSafes_keeps (s : State) :
    (handSafes s).time = s.time ∧ (handSafes s).tempo = s.tempo ∧ (handSafes s).beats = s.beats ∧
    (handSafes s).clicks = s.clicks ∧ (handSafes s).tables = s.tables ∧ (handSafes s).pointer = s.pointer ∧
    (handSafes s).picture = s.picture ∧ (handSafes s).overlay = s.overlay ∧ (handSafes s).stops = s.stops ∧
    (handSafes s).resume = s.resume ∧ (handSafes s).pending = s.pending := by
  refine ⟨?_, ?_, ?_, ?_, ?_, ?_, ?_, ?_, ?_, ?_, ?_⟩
  · unfold handSafes forBound; refine keep_foldl (fun t => t.time) _ _ _ ?_; intros; split <;> simp
  · unfold handSafes forBound; refine keep_foldl (fun t => t.tempo) _ _ _ ?_; intros; split <;> simp
  · unfold handSafes forBound; refine keep_foldl (fun t => t.beats) _ _ _ ?_; intros; split <;> simp
  · unfold handSafes forBound; refine keep_foldl (fun t => t.clicks) _ _ _ ?_; intros; split <;> simp
  · unfold handSafes forBound; refine keep_foldl (fun t => t.tables) _ _ _ ?_; intros; split <;> simp
  · unfold handSafes forBound; refine keep_foldl (fun t => t.pointer) _ _ _ ?_; intros; split <;> simp
  · unfold handSafes forBound; refine keep_foldl (fun t => t.picture) _ _ _ ?_; intros; split <;> simp
  · unfold handSafes forBound; refine keep_foldl (fun t => t.overlay) _ _ _ ?_; intros; split <;> simp
  · unfold handSafes forBound; refine keep_foldl (fun t => t.stops) _ _ _ ?_; intros; split <;> simp
  · unfold handSafes forBound; refine keep_foldl (fun t => t.resume) _ _ _ ?_; intros; split <;> simp
  · unfold handSafes forBound; refine keep_foldl (fun t => t.pending) _ _ _ ?_; intros; split <;> simp

@[simp] theorem handChase_keeps (a : ChaseAt) (s : State) :
    (handChase a s).time = s.time ∧ (handChase a s).tempo = s.tempo ∧ (handChase a s).beats = s.beats ∧
    (handChase a s).clicks = s.clicks ∧ (handChase a s).tables = s.tables ∧ (handChase a s).pointer = s.pointer ∧
    (handChase a s).picture = s.picture ∧ (handChase a s).overlay = s.overlay ∧ (handChase a s).stops = s.stops ∧
    (handChase a s).resume = s.resume ∧ (handChase a s).pending = s.pending := by
  refine ⟨?_, ?_, ?_, ?_, ?_, ?_, ?_, ?_, ?_, ?_, ?_⟩
  · unfold handChase forBound; refine keep_foldl (fun t => t.time) _ _ _ ?_; intros; split <;> simp
  · unfold handChase forBound; refine keep_foldl (fun t => t.tempo) _ _ _ ?_; intros; split <;> simp
  · unfold handChase forBound; refine keep_foldl (fun t => t.beats) _ _ _ ?_; intros; split <;> simp
  · unfold handChase forBound; refine keep_foldl (fun t => t.clicks) _ _ _ ?_; intros; split <;> simp
  · unfold handChase forBound; refine keep_foldl (fun t => t.tables) _ _ _ ?_; intros; split <;> simp
  · unfold handChase forBound; refine keep_foldl (fun t => t.pointer) _ _ _ ?_; intros; split <;> simp
  · unfold handChase forBound; refine keep_foldl (fun t => t.picture) _ _ _ ?_; intros; split <;> simp
  · unfold handChase forBound; refine keep_foldl (fun t => t.overlay) _ _ _ ?_; intros; split <;> simp
  · unfold handChase forBound; refine keep_foldl (fun t => t.stops) _ _ _ ?_; intros; split <;> simp
  · unfold handChase forBound; refine keep_foldl (fun t => t.resume) _ _ _ ?_; intros; split <;> simp
  · unfold handChase forBound; refine keep_foldl (fun t => t.pending) _ _ _ ?_; intros; split <;> simp

@[simp] theorem dropSafes_keeps (s : State) :
    (dropSafes s).time = s.time ∧ (dropSafes s).tempo = s.tempo ∧ (dropSafes s).beats = s.beats ∧
    (dropSafes s).clicks = s.clicks ∧ (dropSafes s).tables = s.tables ∧ (dropSafes s).pointer = s.pointer ∧
    (dropSafes s).picture = s.picture ∧ (dropSafes s).overlay = s.overlay ∧ (dropSafes s).stops = s.stops ∧
    (dropSafes s).resume = s.resume ∧ (dropSafes s).desk = s.desk ∧ (dropSafes s).pending = s.pending := by
  simp [dropSafes]

@[simp] theorem sendIfDue_keeps (k : Slot) (s : State) :
    (sendIfDue k s).time = s.time ∧ (sendIfDue k s).tempo = s.tempo ∧ (sendIfDue k s).beats = s.beats ∧
    (sendIfDue k s).clicks = s.clicks ∧ (sendIfDue k s).tables = s.tables ∧ (sendIfDue k s).pointer = s.pointer ∧
    (sendIfDue k s).picture = s.picture ∧ (sendIfDue k s).overlay = s.overlay ∧ (sendIfDue k s).stops = s.stops ∧
    (sendIfDue k s).resume = s.resume ∧ (sendIfDue k s).pending = s.pending := by
  refine ⟨?_, ?_, ?_, ?_, ?_, ?_, ?_, ?_, ?_, ?_, ?_⟩ <;> (dsimp only [sendIfDue]; (repeat' split) <;> simp)

@[simp] theorem releaseHeld_keeps (s : State) :
    (releaseHeld s).time = s.time ∧ (releaseHeld s).tempo = s.tempo ∧ (releaseHeld s).beats = s.beats ∧
    (releaseHeld s).clicks = s.clicks ∧ (releaseHeld s).tables = s.tables ∧ (releaseHeld s).pointer = s.pointer ∧
    (releaseHeld s).picture = s.picture ∧ (releaseHeld s).overlay = s.overlay ∧ (releaseHeld s).stops = s.stops ∧
    (releaseHeld s).resume = s.resume ∧ (releaseHeld s).pending = s.pending := by
  refine ⟨?_, ?_, ?_, ?_, ?_, ?_, ?_, ?_, ?_, ?_, ?_⟩
  · unfold releaseHeld; exact keep_foldl (fun t => t.time) _ _ _ (by intros; simp)
  · unfold releaseHeld; exact keep_foldl (fun t => t.tempo) _ _ _ (by intros; simp)
  · unfold releaseHeld; exact keep_foldl (fun t => t.beats) _ _ _ (by intros; simp)
  · unfold releaseHeld; exact keep_foldl (fun t => t.clicks) _ _ _ (by intros; simp)
  · unfold releaseHeld; exact keep_foldl (fun t => t.tables) _ _ _ (by intros; simp)
  · unfold releaseHeld; exact keep_foldl (fun t => t.pointer) _ _ _ (by intros; simp)
  · unfold releaseHeld; exact keep_foldl (fun t => t.picture) _ _ _ (by intros; simp)
  · unfold releaseHeld; exact keep_foldl (fun t => t.overlay) _ _ _ (by intros; simp)
  · unfold releaseHeld; exact keep_foldl (fun t => t.stops) _ _ _ (by intros; simp)
  · unfold releaseHeld; exact keep_foldl (fun t => t.resume) _ _ _ (by intros; simp)
  · unfold releaseHeld; exact keep_foldl (fun t => t.pending) _ _ _ (by intros; simp)

@[simp] theorem setStopState_keeps (x : StopState) (s : State) :
    (setStopState x s).time = s.time ∧ (setStopState x s).tempo = s.tempo ∧ (setStopState x s).beats = s.beats ∧
    (setStopState x s).clicks = s.clicks ∧ (setStopState x s).tables = s.tables ∧
    (setStopState x s).pointer = s.pointer ∧ (setStopState x s).picture = s.picture ∧
    (setStopState x s).overlay = s.overlay ∧ (setStopState x s).resume = s.resume ∧
    (setStopState x s).pending = s.pending := by
  refine ⟨?_, ?_, ?_, ?_, ?_, ?_, ?_, ?_, ?_, ?_⟩ <;> (unfold setStopState; (repeat' split) <;> simp_all)

@[simp] theorem unbindSlot_keeps (k : Slot) (s : State) :
    (unbindSlot k s).time = s.time ∧ (unbindSlot k s).tempo = s.tempo ∧ (unbindSlot k s).beats = s.beats ∧
    (unbindSlot k s).clicks = s.clicks ∧ (unbindSlot k s).tables = s.tables ∧ (unbindSlot k s).pointer = s.pointer ∧
    (unbindSlot k s).picture = s.picture ∧ (unbindSlot k s).overlay = s.overlay ∧ (unbindSlot k s).stops = s.stops ∧
    (unbindSlot k s).resume = s.resume ∧ (unbindSlot k s).pending = s.pending := by
  refine ⟨?_, ?_, ?_, ?_, ?_, ?_, ?_, ?_, ?_, ?_, ?_⟩ <;> (unfold unbindSlot; (repeat' split) <;> simp_all)

@[simp] theorem unbindPort_keeps (p : RigPort) (s : State) :
    (unbindPort p s).time = s.time ∧ (unbindPort p s).tempo = s.tempo ∧ (unbindPort p s).beats = s.beats ∧
    (unbindPort p s).clicks = s.clicks ∧ (unbindPort p s).tables = s.tables ∧ (unbindPort p s).pointer = s.pointer ∧
    (unbindPort p s).picture = s.picture ∧ (unbindPort p s).overlay = s.overlay ∧ (unbindPort p s).stops = s.stops ∧
    (unbindPort p s).resume = s.resume ∧ (unbindPort p s).pending = s.pending := by
  refine ⟨?_, ?_, ?_, ?_, ?_, ?_, ?_, ?_, ?_, ?_, ?_⟩ <;> (unfold unbindPort; (repeat' split) <;> simp_all)

@[simp] theorem loseSlot_keeps (k : Slot) (s : State) :
    (loseSlot k s).time = s.time ∧ (loseSlot k s).tempo = s.tempo ∧ (loseSlot k s).beats = s.beats ∧
    (loseSlot k s).clicks = s.clicks ∧ (loseSlot k s).tables = s.tables ∧ (loseSlot k s).pointer = s.pointer ∧
    (loseSlot k s).picture = s.picture ∧ (loseSlot k s).overlay = s.overlay ∧ (loseSlot k s).stops = s.stops ∧
    (loseSlot k s).resume = s.resume ∧ (loseSlot k s).pending = s.pending := by
  refine ⟨?_, ?_, ?_, ?_, ?_, ?_, ?_, ?_, ?_, ?_, ?_⟩ <;> (unfold loseSlot; (repeat' split) <;> simp_all)

@[simp] theorem bindRecords_keeps (p : RigPort) (k : Slot) (s : State) :
    (bindRecords p k s).time = s.time ∧ (bindRecords p k s).tempo = s.tempo ∧ (bindRecords p k s).beats = s.beats ∧
    (bindRecords p k s).clicks = s.clicks ∧ (bindRecords p k s).tables = s.tables ∧
    (bindRecords p k s).pointer = s.pointer ∧ (bindRecords p k s).picture = s.picture ∧
    (bindRecords p k s).overlay = s.overlay ∧ (bindRecords p k s).stops = s.stops ∧
    (bindRecords p k s).resume = s.resume ∧ (bindRecords p k s).pending = s.pending := by
  simp [bindRecords]

@[simp] theorem bindSlot_keeps (p : RigPort) (k : Slot) (s : State) :
    (bindSlot p k s).time = s.time ∧ (bindSlot p k s).tempo = s.tempo ∧ (bindSlot p k s).beats = s.beats ∧
    (bindSlot p k s).clicks = s.clicks ∧ (bindSlot p k s).tables = s.tables ∧ (bindSlot p k s).pointer = s.pointer ∧
    (bindSlot p k s).picture = s.picture ∧ (bindSlot p k s).overlay = s.overlay ∧ (bindSlot p k s).stops = s.stops ∧
    (bindSlot p k s).pending = s.pending := by
  refine ⟨?_, ?_, ?_, ?_, ?_, ?_, ?_, ?_, ?_, ?_⟩ <;> (dsimp only [bindSlot]; (repeat' split) <;> simp)

@[simp] theorem rigPresent_keeps (p : RigPort) (s : State) :
    (rigPresent p s).time = s.time ∧ (rigPresent p s).tempo = s.tempo ∧ (rigPresent p s).beats = s.beats ∧
    (rigPresent p s).clicks = s.clicks ∧ (rigPresent p s).tables = s.tables ∧ (rigPresent p s).pointer = s.pointer ∧
    (rigPresent p s).picture = s.picture ∧ (rigPresent p s).overlay = s.overlay ∧ (rigPresent p s).stops = s.stops ∧
    (rigPresent p s).resume = s.resume ∧ (rigPresent p s).pending = s.pending := by
  refine ⟨?_, ?_, ?_, ?_, ?_, ?_, ?_, ?_, ?_, ?_, ?_⟩ <;> (unfold rigPresent; (repeat' split) <;> simp_all)

@[simp] theorem rigMessage_keeps (p : RigPort) (s : State) :
    (rigMessage p s).time = s.time ∧ (rigMessage p s).tempo = s.tempo ∧ (rigMessage p s).beats = s.beats ∧
    (rigMessage p s).clicks = s.clicks ∧ (rigMessage p s).tables = s.tables ∧ (rigMessage p s).pointer = s.pointer ∧
    (rigMessage p s).picture = s.picture ∧ (rigMessage p s).overlay = s.overlay ∧ (rigMessage p s).stops = s.stops ∧
    (rigMessage p s).resume = s.resume ∧ (rigMessage p s).pending = s.pending := by
  simp [rigMessage]

@[simp] theorem forceVisit_keeps (k : Slot) (s : State) :
    (forceVisit s k).time = s.time ∧ (forceVisit s k).tempo = s.tempo ∧ (forceVisit s k).beats = s.beats ∧
    (forceVisit s k).clicks = s.clicks ∧ (forceVisit s k).tables = s.tables ∧ (forceVisit s k).pointer = s.pointer ∧
    (forceVisit s k).picture = s.picture ∧ (forceVisit s k).overlay = s.overlay ∧ (forceVisit s k).stops = s.stops ∧
    (forceVisit s k).resume = s.resume ∧ (forceVisit s k).pending = s.pending := by
  refine ⟨?_, ?_, ?_, ?_, ?_, ?_, ?_, ?_, ?_, ?_, ?_⟩ <;> (dsimp only [forceVisit]; (repeat' split) <;> simp)

@[simp] theorem forceVisits_keeps (s : State) :
    (forceVisits s).time = s.time ∧ (forceVisits s).tempo = s.tempo ∧ (forceVisits s).beats = s.beats ∧
    (forceVisits s).clicks = s.clicks ∧ (forceVisits s).tables = s.tables ∧ (forceVisits s).pointer = s.pointer ∧
    (forceVisits s).picture = s.picture ∧ (forceVisits s).overlay = s.overlay ∧ (forceVisits s).stops = s.stops ∧
    (forceVisits s).resume = s.resume ∧ (forceVisits s).pending = s.pending := by
  refine ⟨?_, ?_, ?_, ?_, ?_, ?_, ?_, ?_, ?_, ?_, ?_⟩
  · unfold forceVisits; exact keep_foldl (fun t => t.time) _ _ _ (by intros; simp)
  · unfold forceVisits; exact keep_foldl (fun t => t.tempo) _ _ _ (by intros; simp)
  · unfold forceVisits; exact keep_foldl (fun t => t.beats) _ _ _ (by intros; simp)
  · unfold forceVisits; exact keep_foldl (fun t => t.clicks) _ _ _ (by intros; simp)
  · unfold forceVisits; exact keep_foldl (fun t => t.tables) _ _ _ (by intros; simp)
  · unfold forceVisits; exact keep_foldl (fun t => t.pointer) _ _ _ (by intros; simp)
  · unfold forceVisits; exact keep_foldl (fun t => t.picture) _ _ _ (by intros; simp)
  · unfold forceVisits; exact keep_foldl (fun t => t.overlay) _ _ _ (by intros; simp)
  · unfold forceVisits; exact keep_foldl (fun t => t.stops) _ _ _ (by intros; simp)
  · unfold forceVisits; exact keep_foldl (fun t => t.resume) _ _ _ (by intros; simp)
  · unfold forceVisits; exact keep_foldl (fun t => t.pending) _ _ _ (by intros; simp)

@[simp] theorem setTargets_keeps (b : Beat) (s : State) :
    (setTargets b s).time = s.time ∧ (setTargets b s).tempo = s.tempo ∧ (setTargets b s).beats = s.beats ∧
    (setTargets b s).clicks = s.clicks ∧ (setTargets b s).tables = s.tables ∧ (setTargets b s).pointer = s.pointer ∧
    (setTargets b s).rigs = s.rigs ∧ (setTargets b s).picture = s.picture ∧ (setTargets b s).stops = s.stops ∧
    (setTargets b s).resume = s.resume ∧ (setTargets b s).desk = s.desk ∧ (setTargets b s).pending = s.pending := by
  simp [setTargets]

@[simp] theorem discardBeat_keeps (b : Beat) (s : State) :
    (discardBeat b s).time = s.time ∧ (discardBeat b s).tempo = s.tempo ∧ (discardBeat b s).beats = s.beats ∧
    (discardBeat b s).tables = s.tables ∧ (discardBeat b s).pointer = s.pointer ∧ (discardBeat b s).rigs = s.rigs ∧
    (discardBeat b s).stops = s.stops ∧ (discardBeat b s).resume = s.resume ∧ (discardBeat b s).desk = s.desk ∧
    (discardBeat b s).pending = s.pending := by
  simp [discardBeat]

@[simp] theorem discardOpt_keeps (b : Option Beat) (s : State) :
    (discardOpt b s).time = s.time ∧ (discardOpt b s).tempo = s.tempo ∧ (discardOpt b s).beats = s.beats ∧
    (discardOpt b s).tables = s.tables ∧ (discardOpt b s).pointer = s.pointer ∧ (discardOpt b s).rigs = s.rigs ∧
    (discardOpt b s).stops = s.stops ∧ (discardOpt b s).resume = s.resume ∧ (discardOpt b s).desk = s.desk ∧
    (discardOpt b s).pending = s.pending := by
  refine ⟨?_, ?_, ?_, ?_, ?_, ?_, ?_, ?_, ?_, ?_⟩ <;> (unfold discardOpt; (repeat' split) <;> simp_all)

@[simp] theorem setClick_keeps (c : ClickState) (s : State) :
    (setClick c s).time = s.time ∧ (setClick c s).tempo = s.tempo ∧ (setClick c s).tables = s.tables ∧
    (setClick c s).pointer = s.pointer ∧ (setClick c s).rigs = s.rigs ∧ (setClick c s).picture = s.picture ∧
    (setClick c s).overlay = s.overlay ∧ (setClick c s).stops = s.stops ∧ (setClick c s).resume = s.resume ∧
    (setClick c s).pending = s.pending := by
  refine ⟨?_, ?_, ?_, ?_, ?_, ?_, ?_, ?_, ?_, ?_⟩ <;> (dsimp only [setClick]; (repeat' split) <;> simp)

@[simp] theorem emptyVamps_keeps (s : State) :
    (emptyVamps s).time = s.time ∧ (emptyVamps s).tempo = s.tempo ∧ (emptyVamps s).clicks = s.clicks ∧
    (emptyVamps s).tables = s.tables ∧ (emptyVamps s).pointer = s.pointer ∧ (emptyVamps s).rigs = s.rigs ∧
    (emptyVamps s).picture = s.picture ∧ (emptyVamps s).overlay = s.overlay ∧ (emptyVamps s).stops = s.stops ∧
    (emptyVamps s).resume = s.resume ∧ (emptyVamps s).pending = s.pending := by
  simp [emptyVamps]

@[simp] theorem clearCountIn_keeps (s : State) :
    (clearCountIn s).time = s.time ∧ (clearCountIn s).tempo = s.tempo ∧ (clearCountIn s).clicks = s.clicks ∧
    (clearCountIn s).tables = s.tables ∧ (clearCountIn s).pointer = s.pointer ∧ (clearCountIn s).rigs = s.rigs ∧
    (clearCountIn s).picture = s.picture ∧ (clearCountIn s).overlay = s.overlay ∧ (clearCountIn s).stops = s.stops ∧
    (clearCountIn s).resume = s.resume ∧ (clearCountIn s).desk = s.desk ∧ (clearCountIn s).pending = s.pending := by
  simp [clearCountIn]

@[simp] theorem enterIdle_keeps (s : State) :
    (enterIdle s).time = s.time ∧ (enterIdle s).tempo = s.tempo ∧ (enterIdle s).tables = s.tables ∧
    (enterIdle s).pointer = s.pointer ∧ (enterIdle s).rigs = s.rigs ∧ (enterIdle s).picture = s.picture ∧
    (enterIdle s).overlay = s.overlay ∧ (enterIdle s).resume = s.resume ∧ (enterIdle s).pending = s.pending := by
  simp [enterIdle]

@[simp] theorem clearArmed_keeps (s : State) :
    (clearArmed s).time = s.time ∧ (clearArmed s).tempo = s.tempo ∧ (clearArmed s).beats = s.beats ∧
    (clearArmed s).clicks = s.clicks ∧ (clearArmed s).tables = s.tables ∧ (clearArmed s).rigs = s.rigs ∧
    (clearArmed s).picture = s.picture ∧ (clearArmed s).overlay = s.overlay ∧ (clearArmed s).stops = s.stops ∧
    (clearArmed s).resume = s.resume ∧ (clearArmed s).pending = s.pending := by
  simp [clearArmed]

@[simp] theorem cutFlashes_keeps (s : State) :
    (cutFlashes s).time = s.time ∧ (cutFlashes s).tempo = s.tempo ∧ (cutFlashes s).beats = s.beats ∧
    (cutFlashes s).clicks = s.clicks ∧ (cutFlashes s).tables = s.tables ∧ (cutFlashes s).pointer = s.pointer ∧
    (cutFlashes s).rigs = s.rigs ∧ (cutFlashes s).picture = s.picture ∧ (cutFlashes s).stops = s.stops ∧
    (cutFlashes s).resume = s.resume ∧ (cutFlashes s).desk = s.desk ∧ (cutFlashes s).pending = s.pending := by
  simp [cutFlashes]

@[simp] theorem cutBeats_keeps (s : State) :
    (cutBeats s).time = s.time ∧ (cutBeats s).tempo = s.tempo ∧ (cutBeats s).tables = s.tables ∧
    (cutBeats s).pointer = s.pointer ∧ (cutBeats s).rigs = s.rigs ∧ (cutBeats s).resume = s.resume ∧
    (cutBeats s).pending = s.pending := by
  refine ⟨?_, ?_, ?_, ?_, ?_, ?_, ?_⟩ <;> (unfold cutBeats; (repeat' split) <;> simp_all)

@[simp] theorem cutClick_keeps (s : State) :
    (cutClick s).time = s.time ∧ (cutClick s).tempo = s.tempo ∧ (cutClick s).tables = s.tables ∧
    (cutClick s).rigs = s.rigs ∧ (cutClick s).resume = s.resume ∧ (cutClick s).pending = s.pending := by
  simp [cutClick]

@[simp] theorem finishClick_keeps (s : State) :
    (finishClick s).time = s.time ∧ (finishClick s).tempo = s.tempo ∧ (finishClick s).tables = s.tables ∧
    (finishClick s).pointer = s.pointer ∧ (finishClick s).rigs = s.rigs ∧ (finishClick s).picture = s.picture ∧
    (finishClick s).overlay = s.overlay ∧ (finishClick s).stops = s.stops ∧ (finishClick s).resume = s.resume ∧
    (finishClick s).pending = s.pending := by
  refine ⟨?_, ?_, ?_, ?_, ?_, ?_, ?_, ?_, ?_, ?_⟩ <;> (unfold finishClick; (repeat' split) <;> simp_all)

@[simp] theorem vampOverflow_keeps (s : State) :
    (vampOverflow s).time = s.time ∧ (vampOverflow s).tempo = s.tempo ∧ (vampOverflow s).clicks = s.clicks ∧
    (vampOverflow s).tables = s.tables ∧ (vampOverflow s).pointer = s.pointer ∧ (vampOverflow s).rigs = s.rigs ∧
    (vampOverflow s).picture = s.picture ∧ (vampOverflow s).overlay = s.overlay ∧ (vampOverflow s).stops = s.stops ∧
    (vampOverflow s).resume = s.resume ∧ (vampOverflow s).pending = s.pending := by
  simp [vampOverflow]

@[simp] theorem pushVamp_keeps (n : Nat) (v : VampSpec) (s : State) :
    (pushVamp n s v).time = s.time ∧ (pushVamp n s v).tempo = s.tempo ∧ (pushVamp n s v).clicks = s.clicks ∧
    (pushVamp n s v).tables = s.tables ∧ (pushVamp n s v).pointer = s.pointer ∧ (pushVamp n s v).rigs = s.rigs ∧
    (pushVamp n s v).picture = s.picture ∧ (pushVamp n s v).overlay = s.overlay ∧ (pushVamp n s v).stops = s.stops ∧
    (pushVamp n s v).resume = s.resume ∧ (pushVamp n s v).pending = s.pending := by
  refine ⟨?_, ?_, ?_, ?_, ?_, ?_, ?_, ?_, ?_, ?_, ?_⟩ <;> (unfold pushVamp; (repeat' split) <;> simp_all)

@[simp] theorem pushAll_keeps (n : Nat) (s : State) :
    (pushAll n s).time = s.time ∧ (pushAll n s).tempo = s.tempo ∧ (pushAll n s).clicks = s.clicks ∧
    (pushAll n s).tables = s.tables ∧ (pushAll n s).pointer = s.pointer ∧ (pushAll n s).rigs = s.rigs ∧
    (pushAll n s).picture = s.picture ∧ (pushAll n s).overlay = s.overlay ∧ (pushAll n s).stops = s.stops ∧
    (pushAll n s).resume = s.resume ∧ (pushAll n s).pending = s.pending := by
  refine ⟨?_, ?_, ?_, ?_, ?_, ?_, ?_, ?_, ?_, ?_, ?_⟩
  · unfold pushAll; exact keep_foldl (fun t => t.time) _ _ _ (by intros; simp)
  · unfold pushAll; exact keep_foldl (fun t => t.tempo) _ _ _ (by intros; simp)
  · unfold pushAll; exact keep_foldl (fun t => t.clicks) _ _ _ (by intros; simp)
  · unfold pushAll; exact keep_foldl (fun t => t.tables) _ _ _ (by intros; simp)
  · unfold pushAll; exact keep_foldl (fun t => t.pointer) _ _ _ (by intros; simp)
  · unfold pushAll; exact keep_foldl (fun t => t.rigs) _ _ _ (by intros; simp)
  · unfold pushAll; exact keep_foldl (fun t => t.picture) _ _ _ (by intros; simp)
  · unfold pushAll; exact keep_foldl (fun t => t.overlay) _ _ _ (by intros; simp)
  · unfold pushAll; exact keep_foldl (fun t => t.stops) _ _ _ (by intros; simp)
  · unfold pushAll; exact keep_foldl (fun t => t.resume) _ _ _ (by intros; simp)
  · unfold pushAll; exact keep_foldl (fun t => t.pending) _ _ _ (by intros; simp)

@[simp] theorem addPush_keeps (v : VampSpec) (s : State) :
    (addPush v s).time = s.time ∧ (addPush v s).tempo = s.tempo ∧ (addPush v s).clicks = s.clicks ∧
    (addPush v s).tables = s.tables ∧ (addPush v s).pointer = s.pointer ∧ (addPush v s).rigs = s.rigs ∧
    (addPush v s).picture = s.picture ∧ (addPush v s).overlay = s.overlay ∧ (addPush v s).stops = s.stops ∧
    (addPush v s).resume = s.resume ∧ (addPush v s).pending = s.pending := by
  refine ⟨?_, ?_, ?_, ?_, ?_, ?_, ?_, ?_, ?_, ?_, ?_⟩ <;> (unfold addPush; (repeat' split) <;> simp_all)

@[simp] theorem beginCountInBar_keeps (s : State) :
    ((beginCountInBar s).2).time = s.time ∧ ((beginCountInBar s).2).tempo = s.tempo ∧
    ((beginCountInBar s).2).clicks = s.clicks ∧ ((beginCountInBar s).2).tables = s.tables ∧
    ((beginCountInBar s).2).pointer = s.pointer ∧ ((beginCountInBar s).2).rigs = s.rigs ∧
    ((beginCountInBar s).2).picture = s.picture ∧ ((beginCountInBar s).2).overlay = s.overlay ∧
    ((beginCountInBar s).2).stops = s.stops ∧ ((beginCountInBar s).2).resume = s.resume ∧
    ((beginCountInBar s).2).desk = s.desk ∧ ((beginCountInBar s).2).pending = s.pending := by
  simp [beginCountInBar]

@[simp] theorem beginFirstBar_keeps (s : State) :
    ((beginFirstBar s).2).time = s.time ∧ ((beginFirstBar s).2).tempo = s.tempo ∧
    ((beginFirstBar s).2).tables = s.tables ∧ ((beginFirstBar s).2).pointer = s.pointer ∧
    ((beginFirstBar s).2).rigs = s.rigs ∧ ((beginFirstBar s).2).picture = s.picture ∧
    ((beginFirstBar s).2).overlay = s.overlay ∧ ((beginFirstBar s).2).stops = s.stops ∧
    ((beginFirstBar s).2).resume = s.resume ∧ ((beginFirstBar s).2).pending = s.pending := by
  refine ⟨?_, ?_, ?_, ?_, ?_, ?_, ?_, ?_, ?_, ?_⟩ <;> (unfold beginFirstBar; (repeat' split) <;> simp_all)

@[simp] theorem beginMusicBar_keeps (n : Nat) (s : State) :
    ((beginMusicBar n s).2).time = s.time ∧ ((beginMusicBar n s).2).tempo = s.tempo ∧
    ((beginMusicBar n s).2).clicks = s.clicks ∧ ((beginMusicBar n s).2).tables = s.tables ∧
    ((beginMusicBar n s).2).pointer = s.pointer ∧ ((beginMusicBar n s).2).rigs = s.rigs ∧
    ((beginMusicBar n s).2).picture = s.picture ∧ ((beginMusicBar n s).2).overlay = s.overlay ∧
    ((beginMusicBar n s).2).stops = s.stops ∧ ((beginMusicBar n s).2).resume = s.resume ∧
    ((beginMusicBar n s).2).pending = s.pending := by
  refine ⟨?_, ?_, ?_, ?_, ?_, ?_, ?_, ?_, ?_, ?_, ?_⟩ <;> (dsimp only [beginMusicBar]; (repeat' split) <;> simp)

@[simp] theorem beginBar_keeps (b : Option Beat) (s : State) :
    ((beginBar b s).2).time = s.time ∧ ((beginBar b s).2).tempo = s.tempo ∧ ((beginBar b s).2).tables = s.tables ∧
    ((beginBar b s).2).pointer = s.pointer ∧ ((beginBar b s).2).rigs = s.rigs ∧
    ((beginBar b s).2).picture = s.picture ∧ ((beginBar b s).2).overlay = s.overlay ∧
    ((beginBar b s).2).stops = s.stops ∧ ((beginBar b s).2).resume = s.resume ∧
    ((beginBar b s).2).pending = s.pending := by
  refine ⟨?_, ?_, ?_, ?_, ?_, ?_, ?_, ?_, ?_, ?_⟩ <;> (dsimp only [beginBar]; (repeat' split) <;> simp)

@[simp] theorem fixTempo_keeps (s : State) :
    ((fixTempo s).2).time = s.time ∧ ((fixTempo s).2).beats = s.beats ∧ ((fixTempo s).2).clicks = s.clicks ∧
    ((fixTempo s).2).tables = s.tables ∧ ((fixTempo s).2).pointer = s.pointer ∧ ((fixTempo s).2).rigs = s.rigs ∧
    ((fixTempo s).2).picture = s.picture ∧ ((fixTempo s).2).overlay = s.overlay ∧ ((fixTempo s).2).stops = s.stops ∧
    ((fixTempo s).2).resume = s.resume ∧ ((fixTempo s).2).pending = s.pending := by
  simp [fixTempo]

@[simp] theorem fixBeat_keeps (n : Nat) (s : State) :
    ((fixBeat n s).2).time = s.time ∧ ((fixBeat n s).2).tables = s.tables ∧ ((fixBeat n s).2).pointer = s.pointer ∧
    ((fixBeat n s).2).rigs = s.rigs ∧ ((fixBeat n s).2).picture = s.picture ∧ ((fixBeat n s).2).overlay = s.overlay ∧
    ((fixBeat n s).2).stops = s.stops ∧ ((fixBeat n s).2).resume = s.resume ∧
    ((fixBeat n s).2).pending = s.pending := by
  refine ⟨?_, ?_, ?_, ?_, ?_, ?_, ?_, ?_, ?_⟩ <;> (dsimp only [fixBeat]; (repeat' split) <;> simp)

@[simp] theorem announceOutputs_keeps (b : Beat) (s : State) :
    (announceOutputs b s).time = s.time ∧ (announceOutputs b s).tempo = s.tempo ∧
    (announceOutputs b s).beats = s.beats ∧ (announceOutputs b s).tables = s.tables ∧
    (announceOutputs b s).pointer = s.pointer ∧ (announceOutputs b s).rigs = s.rigs ∧
    (announceOutputs b s).stops = s.stops ∧ (announceOutputs b s).resume = s.resume ∧
    (announceOutputs b s).desk = s.desk ∧ (announceOutputs b s).pending = s.pending := by
  refine ⟨?_, ?_, ?_, ?_, ?_, ?_, ?_, ?_, ?_, ?_⟩ <;> (unfold announceOutputs; (repeat' split) <;> simp_all)

@[simp] theorem handProfile_keeps (x y : Profile) (s : State) :
    (handProfile x y s).time = s.time ∧ (handProfile x y s).tempo = s.tempo ∧ (handProfile x y s).tables = s.tables ∧
    (handProfile x y s).resume = s.resume ∧ (handProfile x y s).pending = s.pending := by
  refine ⟨?_, ?_, ?_, ?_, ?_⟩ <;> (unfold handProfile; (repeat' split) <;> simp_all)

@[simp] theorem suspendResume_keeps (s : State) :
    (suspendResume s).time = s.time ∧ (suspendResume s).tempo = s.tempo ∧ (suspendResume s).beats = s.beats ∧
    (suspendResume s).clicks = s.clicks ∧ (suspendResume s).tables = s.tables ∧
    (suspendResume s).pointer = s.pointer ∧ (suspendResume s).rigs = s.rigs ∧ (suspendResume s).picture = s.picture ∧
    (suspendResume s).overlay = s.overlay ∧ (suspendResume s).stops = s.stops ∧ (suspendResume s).desk = s.desk ∧
    (suspendResume s).pending = s.pending := by
  refine ⟨?_, ?_, ?_, ?_, ?_, ?_, ?_, ?_, ?_, ?_, ?_, ?_⟩ <;> (unfold suspendResume; (repeat' split) <;> simp_all)

@[simp] theorem takeStop_keeps (i : StopSource) (s : State) :
    (takeStop i s).time = s.time ∧ (takeStop i s).tempo = s.tempo ∧ (takeStop i s).tables = s.tables ∧
    (takeStop i s).pending = s.pending := by
  refine ⟨?_, ?_, ?_, ?_⟩ <;> (unfold takeStop; (repeat' split) <;> simp_all)

@[simp] theorem sampleOnce_keeps (b : Bool) (s : State) :
    (sampleOnce b s).time = s.time ∧ (sampleOnce b s).tempo = s.tempo ∧ (sampleOnce b s).tables = s.tables ∧
    (sampleOnce b s).pending = s.pending := by
  refine ⟨?_, ?_, ?_, ?_⟩ <;> (unfold sampleOnce; (repeat' split) <;> simp_all)

@[simp] theorem sample_keeps (b : Bool) (s : State) :
    (sample b s).time = s.time ∧ (sample b s).tempo = s.tempo ∧ (sample b s).tables = s.tables ∧
    (sample b s).pending = s.pending := by
  refine ⟨?_, ?_, ?_, ?_⟩ <;> (dsimp only [sample]; (repeat' split) <;> simp)

@[simp] theorem halt_keeps (i : StopSource) (s : State) :
    (halt i s).time = s.time ∧ (halt i s).tempo = s.tempo ∧ (halt i s).tables = s.tables ∧
    (halt i s).resume = s.resume ∧ (halt i s).pending = s.pending := by
  simp [halt]

@[simp] theorem afterRaising_keeps (i : StopSource) (s : State) :
    (afterRaising i s).time = s.time ∧ (afterRaising i s).tempo = s.tempo ∧ (afterRaising i s).tables = s.tables ∧
    (afterRaising i s).pending = s.pending := by
  refine ⟨?_, ?_, ?_, ?_⟩ <;> (unfold afterRaising; (repeat' split) <;> simp_all)

@[simp] theorem raiseCondition_keeps (i : StopSource) (s : State) :
    (raiseCondition i s).time = s.time ∧ (raiseCondition i s).tempo = s.tempo ∧
    (raiseCondition i s).tables = s.tables ∧ (raiseCondition i s).pending = s.pending := by
  refine ⟨?_, ?_, ?_, ?_⟩ <;> (unfold raiseCondition; (repeat' split) <;> simp_all)

@[simp] theorem announceBeat_keeps (c : Bool) (b : Beat) (s : State) :
    (announceBeat c b s).time = s.time ∧ (announceBeat c b s).tempo = s.tempo ∧
    (announceBeat c b s).tables = s.tables ∧ (announceBeat c b s).pending = s.pending := by
  refine ⟨?_, ?_, ?_, ?_⟩ <;> (dsimp only [announceBeat]; (repeat' split) <;> simp)

@[simp] theorem commitBeat_keeps (c : Bool) (s : State) :
    (commitBeat c s).time = s.time ∧ (commitBeat c s).tables = s.tables ∧ (commitBeat c s).pending = s.pending := by
  refine ⟨?_, ?_, ?_⟩ <;> (dsimp only [commitBeat]; (repeat' split) <;> simp)

@[simp] theorem startClick_keeps (c : Bool) (m n : Nat) (s : State) :
    (startClick c m n s).time = s.time ∧ (startClick c m n s).tables = s.tables ∧
    (startClick c m n s).pending = s.pending := by
  refine ⟨?_, ?_, ?_⟩ <;> (unfold startClick; (repeat' split) <;> simp_all)

@[simp] theorem setPointer_keeps (p : Pointer) (s : State) :
    (setPointer p s).time = s.time ∧ (setPointer p s).tempo = s.tempo ∧ (setPointer p s).beats = s.beats ∧
    (setPointer p s).clicks = s.clicks ∧ (setPointer p s).tables = s.tables ∧ (setPointer p s).rigs = s.rigs ∧
    (setPointer p s).picture = s.picture ∧ (setPointer p s).overlay = s.overlay ∧ (setPointer p s).stops = s.stops ∧
    (setPointer p s).resume = s.resume ∧ (setPointer p s).pending = s.pending := by
  simp [setPointer]

@[simp] theorem takePointer_keeps (c : Cue) (s : State) :
    (takePointer c s).time = s.time ∧ (takePointer c s).tempo = s.tempo ∧ (takePointer c s).beats = s.beats ∧
    (takePointer c s).clicks = s.clicks ∧ (takePointer c s).tables = s.tables ∧ (takePointer c s).rigs = s.rigs ∧
    (takePointer c s).picture = s.picture ∧ (takePointer c s).overlay = s.overlay ∧
    (takePointer c s).stops = s.stops ∧ (takePointer c s).resume = s.resume ∧
    (takePointer c s).pending = s.pending := by
  simp [takePointer]

@[simp] theorem takeMeterAndBar_keeps (c : Cue) (s : State) :
    (takeMeterAndBar c s).time = s.time ∧ (takeMeterAndBar c s).tempo = s.tempo ∧
    (takeMeterAndBar c s).clicks = s.clicks ∧ (takeMeterAndBar c s).tables = s.tables ∧
    (takeMeterAndBar c s).pointer = s.pointer ∧ (takeMeterAndBar c s).rigs = s.rigs ∧
    (takeMeterAndBar c s).picture = s.picture ∧ (takeMeterAndBar c s).overlay = s.overlay ∧
    (takeMeterAndBar c s).stops = s.stops ∧ (takeMeterAndBar c s).resume = s.resume ∧
    (takeMeterAndBar c s).desk = s.desk ∧ (takeMeterAndBar c s).pending = s.pending := by
  simp [takeMeterAndBar]

@[simp] theorem startIgnored_keeps (s : State) :
    (startIgnored s).time = s.time ∧ (startIgnored s).tempo = s.tempo ∧ (startIgnored s).beats = s.beats ∧
    (startIgnored s).clicks = s.clicks ∧ (startIgnored s).tables = s.tables ∧ (startIgnored s).rigs = s.rigs ∧
    (startIgnored s).picture = s.picture ∧ (startIgnored s).overlay = s.overlay ∧ (startIgnored s).stops = s.stops ∧
    (startIgnored s).resume = s.resume ∧ (startIgnored s).pending = s.pending := by
  simp [startIgnored]

@[simp] theorem cueCut_keeps (s : State) :
    (cueCut s).time = s.time ∧ (cueCut s).tempo = s.tempo ∧ (cueCut s).tables = s.tables ∧
    (cueCut s).pending = s.pending := by
  refine ⟨?_, ?_, ?_, ?_⟩ <;> (unfold cueCut; (repeat' split) <;> simp_all)

@[simp] theorem takeClick_keeps (a : ClickAction) (s : State) :
    (takeClick a s).time = s.time ∧ (takeClick a s).tables = s.tables ∧ (takeClick a s).pending = s.pending := by
  refine ⟨?_, ?_, ?_⟩ <;> (unfold takeClick; (repeat' split) <;> simp_all)

@[simp] theorem takeVamp_keeps (c : Cue) (n : Option Nat) (s : State) :
    (takeVamp c n s).time = s.time ∧ (takeVamp c n s).tempo = s.tempo ∧ (takeVamp c n s).clicks = s.clicks ∧
    (takeVamp c n s).tables = s.tables ∧ (takeVamp c n s).pointer = s.pointer ∧ (takeVamp c n s).rigs = s.rigs ∧
    (takeVamp c n s).picture = s.picture ∧ (takeVamp c n s).overlay = s.overlay ∧ (takeVamp c n s).stops = s.stops ∧
    (takeVamp c n s).resume = s.resume ∧ (takeVamp c n s).pending = s.pending := by
  refine ⟨?_, ?_, ?_, ?_, ?_, ?_, ?_, ?_, ?_, ?_, ?_⟩ <;> (unfold takeVamp; (repeat' split) <;> simp_all)

@[simp] theorem handEntry_keeps (e : ChangeEntry) (s : State) :
    (handEntry s e).time = s.time ∧ (handEntry s e).tempo = s.tempo ∧ (handEntry s e).beats = s.beats ∧
    (handEntry s e).clicks = s.clicks ∧ (handEntry s e).tables = s.tables ∧ (handEntry s e).pointer = s.pointer ∧
    (handEntry s e).picture = s.picture ∧ (handEntry s e).overlay = s.overlay ∧ (handEntry s e).stops = s.stops ∧
    (handEntry s e).resume = s.resume ∧ (handEntry s e).pending = s.pending := by
  refine ⟨?_, ?_, ?_, ?_, ?_, ?_, ?_, ?_, ?_, ?_, ?_⟩ <;> (unfold handEntry; (repeat' split) <;> simp_all)

@[simp] theorem takeChanges_keeps (c : Cue) (s : State) :
    (takeChanges c s).time = s.time ∧ (takeChanges c s).tempo = s.tempo ∧ (takeChanges c s).beats = s.beats ∧
    (takeChanges c s).clicks = s.clicks ∧ (takeChanges c s).tables = s.tables ∧
    (takeChanges c s).picture = s.picture ∧ (takeChanges c s).overlay = s.overlay ∧
    (takeChanges c s).stops = s.stops ∧ (takeChanges c s).resume = s.resume ∧
    (takeChanges c s).pending = s.pending := by
  refine ⟨?_, ?_, ?_, ?_, ?_, ?_, ?_, ?_, ?_, ?_⟩
  · unfold takeChanges; (repeat' split) <;> (first | (simp) | (refine keep_foldl (fun t => t.time) _ _ _ ?_; intros; simp))
  · unfold takeChanges; (repeat' split) <;> (first | (simp) | (refine keep_foldl (fun t => t.tempo) _ _ _ ?_; intros; simp))
  · unfold takeChanges; (repeat' split) <;> (first | (simp) | (refine keep_foldl (fun t => t.beats) _ _ _ ?_; intros; simp))
  · unfold takeChanges; (repeat' split) <;> (first | (simp) | (refine keep_foldl (fun t => t.clicks) _ _ _ ?_; intros; simp))
  · unfold takeChanges; (repeat' split) <;> (first | (simp) | (refine keep_foldl (fun t => t.tables) _ _ _ ?_; intros; simp))
  · unfold takeChanges; (repeat' split) <;> (first | (simp) | (refine keep_foldl (fun t => t.picture) _ _ _ ?_; intros; simp))
  · unfold takeChanges; (repeat' split) <;> (first | (simp) | (refine keep_foldl (fun t => t.overlay) _ _ _ ?_; intros; simp))
  · unfold takeChanges; (repeat' split) <;> (first | (simp) | (refine keep_foldl (fun t => t.stops) _ _ _ ?_; intros; simp))
  · unfold takeChanges; (repeat' split) <;> (first | (simp) | (refine keep_foldl (fun t => t.resume) _ _ _ ?_; intros; simp))
  · unfold takeChanges; (repeat' split) <;> (first | (simp) | (refine keep_foldl (fun t => t.pending) _ _ _ ?_; intros; simp))

@[simp] theorem setAuto_keeps (k : Camera) (s : State) :
    (setAuto k s).time = s.time ∧ (setAuto k s).tempo = s.tempo ∧ (setAuto k s).beats = s.beats ∧
    (setAuto k s).clicks = s.clicks ∧ (setAuto k s).tables = s.tables ∧ (setAuto k s).pointer = s.pointer ∧
    (setAuto k s).rigs = s.rigs ∧ (setAuto k s).overlay = s.overlay ∧ (setAuto k s).stops = s.stops ∧
    (setAuto k s).resume = s.resume ∧ (setAuto k s).pending = s.pending := by
  simp [setAuto]

@[simp] theorem takeVideo_keeps (c : Cue) (s : State) :
    (takeVideo c s).time = s.time ∧ (takeVideo c s).tempo = s.tempo ∧ (takeVideo c s).beats = s.beats ∧
    (takeVideo c s).clicks = s.clicks ∧ (takeVideo c s).tables = s.tables ∧ (takeVideo c s).pointer = s.pointer ∧
    (takeVideo c s).rigs = s.rigs ∧ (takeVideo c s).stops = s.stops ∧ (takeVideo c s).resume = s.resume ∧
    (takeVideo c s).pending = s.pending := by
  refine ⟨?_, ?_, ?_, ?_, ?_, ?_, ?_, ?_, ?_, ?_⟩ <;> (unfold takeVideo; (repeat' split) <;> simp_all)

@[simp] theorem takeCue_keeps (c : Cue) (s : State) :
    (takeCue c s).time = s.time ∧ (takeCue c s).tables = s.tables ∧ (takeCue c s).pending = s.pending := by
  simp [takeCue]

@[simp] theorem takeArmedIfIdle_keeps (s : State) :
    (takeArmedIfIdle s).time = s.time ∧ (takeArmedIfIdle s).tables = s.tables ∧
    (takeArmedIfIdle s).pending = s.pending := by
  refine ⟨?_, ?_, ?_⟩ <;> (unfold takeArmedIfIdle; (repeat' split) <;> simp_all)

@[simp] theorem takeArmedAtCommit_keeps (b : Bool) (s : State) :
    (takeArmedAtCommit b s).time = s.time ∧ (takeArmedAtCommit b s).tables = s.tables ∧
    (takeArmedAtCommit b s).pending = s.pending := by
  refine ⟨?_, ?_, ?_⟩ <;> (unfold takeArmedAtCommit; (repeat' split) <;> simp_all)

@[simp] theorem beatCommit_keeps (s : State) :
    (beatCommit s).time = s.time ∧ (beatCommit s).tables = s.tables ∧ (beatCommit s).pending = s.pending := by
  refine ⟨?_, ?_, ?_⟩ <;> (unfold beatCommit; (repeat' split) <;> simp_all)

@[simp] theorem clearMdReady_keeps (s : State) :
    (clearMdReady s).time = s.time ∧ (clearMdReady s).tempo = s.tempo ∧ (clearMdReady s).beats = s.beats ∧
    (clearMdReady s).clicks = s.clicks ∧ (clearMdReady s).tables = s.tables ∧ (clearMdReady s).pointer = s.pointer ∧
    (clearMdReady s).picture = s.picture ∧ (clearMdReady s).overlay = s.overlay ∧
    (clearMdReady s).pending = s.pending := by
  refine ⟨?_, ?_, ?_, ?_, ?_, ?_, ?_, ?_, ?_⟩ <;> (dsimp only [clearMdReady]; (repeat' split) <;> simp)

@[simp] theorem dropResume_keeps (s : State) :
    (dropResume s).time = s.time ∧ (dropResume s).tempo = s.tempo ∧ (dropResume s).beats = s.beats ∧
    (dropResume s).clicks = s.clicks ∧ (dropResume s).tables = s.tables ∧ (dropResume s).pointer = s.pointer ∧
    (dropResume s).rigs = s.rigs ∧ (dropResume s).picture = s.picture ∧ (dropResume s).overlay = s.overlay ∧
    (dropResume s).stops = s.stops ∧ (dropResume s).pending = s.pending := by
  simp [dropResume]

@[simp] theorem restoreSlot_keeps (k : Slot) (s : State) :
    (restoreSlot s k).time = s.time ∧ (restoreSlot s k).tempo = s.tempo ∧ (restoreSlot s k).beats = s.beats ∧
    (restoreSlot s k).clicks = s.clicks ∧ (restoreSlot s k).tables = s.tables ∧
    (restoreSlot s k).pointer = s.pointer ∧ (restoreSlot s k).picture = s.picture ∧
    (restoreSlot s k).overlay = s.overlay ∧ (restoreSlot s k).stops = s.stops ∧
    (restoreSlot s k).pending = s.pending := by
  refine ⟨?_, ?_, ?_, ?_, ?_, ?_, ?_, ?_, ?_, ?_⟩ <;> (dsimp only [restoreSlot]; (repeat' split) <;> simp)

@[simp] theorem issueRestores_keeps (s : State) :
    (issueRestores s).time = s.time ∧ (issueRestores s).tempo = s.tempo ∧ (issueRestores s).beats = s.beats ∧
    (issueRestores s).clicks = s.clicks ∧ (issueRestores s).tables = s.tables ∧
    (issueRestores s).pointer = s.pointer ∧ (issueRestores s).picture = s.picture ∧
    (issueRestores s).overlay = s.overlay ∧ (issueRestores s).pending = s.pending := by
  refine ⟨?_, ?_, ?_, ?_, ?_, ?_, ?_, ?_, ?_⟩
  · unfold issueRestores; dsimp only; rw [keep_foldl (fun t => t.time) _ _ _ (by intros; simp)]; simp
  · unfold issueRestores; dsimp only; rw [keep_foldl (fun t => t.tempo) _ _ _ (by intros; simp)]; simp
  · unfold issueRestores; dsimp only; rw [keep_foldl (fun t => t.beats) _ _ _ (by intros; simp)]; simp
  · unfold issueRestores; dsimp only; rw [keep_foldl (fun t => t.clicks) _ _ _ (by intros; simp)]; simp
  · unfold issueRestores; dsimp only; rw [keep_foldl (fun t => t.tables) _ _ _ (by intros; simp)]; simp
  · unfold issueRestores; dsimp only; rw [keep_foldl (fun t => t.pointer) _ _ _ (by intros; simp)]; simp
  · unfold issueRestores; dsimp only; rw [keep_foldl (fun t => t.picture) _ _ _ (by intros; simp)]; simp
  · unfold issueRestores; dsimp only; rw [keep_foldl (fun t => t.overlay) _ _ _ (by intros; simp)]; simp
  · unfold issueRestores; dsimp only; rw [keep_foldl (fun t => t.pending) _ _ _ (by intros; simp)]; simp

@[simp] theorem reviewRestore_keeps (s : State) :
    (reviewRestore s).time = s.time ∧ (reviewRestore s).tempo = s.tempo ∧ (reviewRestore s).beats = s.beats ∧
    (reviewRestore s).clicks = s.clicks ∧ (reviewRestore s).tables = s.tables ∧
    (reviewRestore s).pointer = s.pointer ∧ (reviewRestore s).picture = s.picture ∧
    (reviewRestore s).overlay = s.overlay ∧ (reviewRestore s).pending = s.pending := by
  refine ⟨?_, ?_, ?_, ?_, ?_, ?_, ?_, ?_, ?_⟩ <;> (dsimp only [reviewRestore]; (repeat' split) <;> simp)

@[simp] theorem arrive_keeps (s : State) :
    (arrive s).time = s.time ∧ (arrive s).tempo = s.tempo ∧ (arrive s).beats = s.beats ∧
    (arrive s).clicks = s.clicks ∧ (arrive s).tables = s.tables ∧ (arrive s).pointer = s.pointer ∧
    (arrive s).picture = s.picture ∧ (arrive s).overlay = s.overlay ∧ (arrive s).resume = s.resume ∧
    (arrive s).pending = s.pending := by
  refine ⟨?_, ?_, ?_, ?_, ?_, ?_, ?_, ?_, ?_, ?_⟩ <;> (unfold arrive; (repeat' split) <;> simp_all)

@[simp] theorem endRun_keeps (s : State) :
    (endRun s).time = s.time ∧ (endRun s).tempo = s.tempo ∧ (endRun s).beats = s.beats ∧
    (endRun s).clicks = s.clicks ∧ (endRun s).tables = s.tables ∧ (endRun s).pointer = s.pointer ∧
    (endRun s).overlay = s.overlay ∧ (endRun s).pending = s.pending := by
  refine ⟨?_, ?_, ?_, ?_, ?_, ?_, ?_, ?_⟩ <;> (unfold endRun; (repeat' split) <;> simp_all)

@[simp] theorem popTest_keeps (s : State) :
    (popTest s).time = s.time ∧ (popTest s).tables = s.tables ∧ (popTest s).pending = s.pending := by
  refine ⟨?_, ?_, ?_⟩ <;> (dsimp only [popTest]; (repeat' split) <;> simp)

@[simp] theorem lowerCondition_keeps (i : StopSource) (s : State) :
    (lowerCondition i s).time = s.time ∧ (lowerCondition i s).tables = s.tables ∧
    (lowerCondition i s).pending = s.pending := by
  refine ⟨?_, ?_, ?_⟩ <;> (unfold lowerCondition; (repeat' split) <;> simp_all)

@[simp] theorem followCondition_keeps (i : StopSource) (b : Bool) (s : State) :
    (followCondition i b s).time = s.time ∧ (followCondition i b s).tables = s.tables ∧
    (followCondition i b s).pending = s.pending := by
  refine ⟨?_, ?_, ?_⟩ <;> (unfold followCondition; (repeat' split) <;> simp_all)

@[simp] theorem reviewRigs_keeps (s : State) :
    (reviewRigs s).time = s.time ∧ (reviewRigs s).tables = s.tables ∧ (reviewRigs s).pending = s.pending := by
  simp [reviewRigs]

@[simp] theorem reviewCameras_keeps (s : State) :
    (reviewCameras s).time = s.time ∧ (reviewCameras s).tables = s.tables ∧
    (reviewCameras s).pending = s.pending := by
  simp [reviewCameras]

@[simp] theorem finishingEnd_keeps (s : State) :
    (finishingEnd s).time = s.time ∧ (finishingEnd s).tables = s.tables ∧ (finishingEnd s).pending = s.pending := by
  refine ⟨?_, ?_, ?_⟩ <;> (unfold finishingEnd; (repeat' split) <;> simp_all)

@[simp] theorem buildOverlays_keeps (p : Picture) (s : State) :
    (buildOverlays p s).time = s.time ∧ (buildOverlays p s).tempo = s.tempo ∧ (buildOverlays p s).beats = s.beats ∧
    (buildOverlays p s).clicks = s.clicks ∧ (buildOverlays p s).tables = s.tables ∧
    (buildOverlays p s).pointer = s.pointer ∧ (buildOverlays p s).rigs = s.rigs ∧
    (buildOverlays p s).picture = s.picture ∧ (buildOverlays p s).stops = s.stops ∧
    (buildOverlays p s).resume = s.resume ∧ (buildOverlays p s).desk = s.desk ∧
    (buildOverlays p s).pending = s.pending := by
  simp [buildOverlays]

@[simp] theorem reportBanner_keeps (s : State) :
    (reportBanner s).time = s.time ∧ (reportBanner s).tempo = s.tempo ∧ (reportBanner s).beats = s.beats ∧
    (reportBanner s).clicks = s.clicks ∧ (reportBanner s).tables = s.tables ∧ (reportBanner s).pointer = s.pointer ∧
    (reportBanner s).rigs = s.rigs ∧ (reportBanner s).picture = s.picture ∧ (reportBanner s).overlay = s.overlay ∧
    (reportBanner s).resume = s.resume ∧ (reportBanner s).desk = s.desk ∧ (reportBanner s).pending = s.pending := by
  refine ⟨?_, ?_, ?_, ?_, ?_, ?_, ?_, ?_, ?_, ?_, ?_, ?_⟩ <;> (unfold reportBanner; (repeat' split) <;> simp_all)

@[simp] theorem tickWork_keeps (s : State) :
    (tickWork s).time = s.time ∧ (tickWork s).tempo = s.tempo ∧ (tickWork s).beats = s.beats ∧
    (tickWork s).clicks = s.clicks ∧ (tickWork s).tables = s.tables ∧ (tickWork s).pointer = s.pointer ∧
    (tickWork s).resume = s.resume ∧ (tickWork s).pending = s.pending := by
  simp [tickWork]

@[simp] theorem putLane_keeps (k : LaneNo) (l : Lane) (s : State) :
    (putLane k l s).time = s.time ∧ (putLane k l s).tempo = s.tempo ∧ (putLane k l s).beats = s.beats ∧
    (putLane k l s).tables = s.tables ∧ (putLane k l s).pointer = s.pointer ∧ (putLane k l s).rigs = s.rigs ∧
    (putLane k l s).picture = s.picture ∧ (putLane k l s).overlay = s.overlay ∧ (putLane k l s).stops = s.stops ∧
    (putLane k l s).resume = s.resume ∧ (putLane k l s).pending = s.pending := by
  simp [putLane]

@[simp] theorem countSample_keeps (b : Bool) (s : State) :
    (countSample b s).tempo = s.tempo ∧ (countSample b s).beats = s.beats ∧ (countSample b s).tables = s.tables ∧
    (countSample b s).pointer = s.pointer ∧ (countSample b s).rigs = s.rigs ∧ (countSample b s).picture = s.picture ∧
    (countSample b s).overlay = s.overlay ∧ (countSample b s).resume = s.resume ∧ (countSample b s).desk = s.desk ∧
    (countSample b s).pending = s.pending := by
  simp [countSample]

@[simp] theorem qualifyWord_keeps (b : Bool) (s : State) :
    (qualifyWord b s).tables = s.tables ∧ (qualifyWord b s).pending = s.pending := by
  simp [qualifyWord]

@[simp] theorem putClip_keeps (k : Fin 16) (c : Option Clip) (s : State) :
    (putClip k c s).time = s.time ∧ (putClip k c s).tempo = s.tempo ∧ (putClip k c s).beats = s.beats ∧
    (putClip k c s).tables = s.tables ∧ (putClip k c s).pointer = s.pointer ∧ (putClip k c s).rigs = s.rigs ∧
    (putClip k c s).picture = s.picture ∧ (putClip k c s).overlay = s.overlay ∧ (putClip k c s).stops = s.stops ∧
    (putClip k c s).resume = s.resume ∧ (putClip k c s).pending = s.pending := by
  simp [putClip]

@[simp] theorem setCues_keeps (l : List Cue) (s : State) :
    (setCues l s).time = s.time ∧ (setCues l s).tempo = s.tempo ∧ (setCues l s).beats = s.beats ∧
    (setCues l s).clicks = s.clicks ∧ (setCues l s).pointer = s.pointer ∧ (setCues l s).rigs = s.rigs ∧
    (setCues l s).picture = s.picture ∧ (setCues l s).overlay = s.overlay ∧ (setCues l s).stops = s.stops ∧
    (setCues l s).resume = s.resume ∧ (setCues l s).pending = s.pending := by
  simp [setCues]

@[simp] theorem setSession_keeps (x : Session) (s : State) :
    (setSession x s).time = s.time ∧ (setSession x s).tempo = s.tempo ∧ (setSession x s).beats = s.beats ∧
    (setSession x s).clicks = s.clicks ∧ (setSession x s).pointer = s.pointer ∧ (setSession x s).rigs = s.rigs ∧
    (setSession x s).picture = s.picture ∧ (setSession x s).overlay = s.overlay ∧ (setSession x s).stops = s.stops ∧
    (setSession x s).resume = s.resume ∧ (setSession x s).pending = s.pending := by
  simp [setSession]

@[simp] theorem beginShow_keeps (n : Nat) (s : State) :
    (beginShow n s).time = s.time ∧ (beginShow n s).pending = s.pending := by
  simp [beginShow]

@[simp] theorem endBeats_keeps (s : State) :
    (endBeats s).time = s.time ∧ (endBeats s).tables = s.tables ∧ (endBeats s).pointer = s.pointer ∧
    (endBeats s).rigs = s.rigs ∧ (endBeats s).picture = s.picture ∧ (endBeats s).overlay = s.overlay ∧
    (endBeats s).stops = s.stops ∧ (endBeats s).resume = s.resume ∧ (endBeats s).pending = s.pending := by
  simp [endBeats]

@[simp] theorem endStops_keeps (s : State) :
    (endStops s).time = s.time ∧ (endStops s).tempo = s.tempo ∧ (endStops s).beats = s.beats ∧
    (endStops s).clicks = s.clicks ∧ (endStops s).tables = s.tables ∧ (endStops s).pointer = s.pointer ∧
    (endStops s).rigs = s.rigs ∧ (endStops s).picture = s.picture ∧ (endStops s).overlay = s.overlay ∧
    (endStops s).pending = s.pending := by
  simp [endStops]

@[simp] theorem endShow_keeps (s : State) :
    (endShow s).time = s.time ∧ (endShow s).pending = s.pending := by
  simp [endShow]

@[simp] theorem callCue_keeps (c : Cue) (s : State) :
    (callCue c s).time = s.time ∧ (callCue c s).tables = s.tables ∧ (callCue c s).pending = s.pending := by
  refine ⟨?_, ?_, ?_⟩ <;> (unfold callCue; (repeat' split) <;> simp_all)

@[simp] theorem countInvalid_keeps (p : RigPort) (s : State) :
    (countInvalid p s).time = s.time ∧ (countInvalid p s).tempo = s.tempo ∧ (countInvalid p s).beats = s.beats ∧
    (countInvalid p s).clicks = s.clicks ∧ (countInvalid p s).tables = s.tables ∧
    (countInvalid p s).pointer = s.pointer ∧ (countInvalid p s).picture = s.picture ∧
    (countInvalid p s).overlay = s.overlay ∧ (countInvalid p s).stops = s.stops ∧
    (countInvalid p s).resume = s.resume ∧ (countInvalid p s).pending = s.pending := by
  simp [countInvalid]

@[simp] theorem takeAnnounce_keeps (p : RigPort) (t : Text) (s : State) :
    (takeAnnounce p t s).time = s.time ∧ (takeAnnounce p t s).tables = s.tables ∧
    (takeAnnounce p t s).pending = s.pending := by
  refine ⟨?_, ?_, ?_⟩ <;> (dsimp only [takeAnnounce]; (repeat' split) <;> simp)

@[simp] theorem takeStatus_keeps (k : Slot) (x : Sustain) (n : Nat) (s : State) :
    (takeStatus k x n s).time = s.time ∧ (takeStatus k x n s).tempo = s.tempo ∧
    (takeStatus k x n s).beats = s.beats ∧ (takeStatus k x n s).clicks = s.clicks ∧
    (takeStatus k x n s).tables = s.tables ∧ (takeStatus k x n s).pointer = s.pointer ∧
    (takeStatus k x n s).picture = s.picture ∧ (takeStatus k x n s).overlay = s.overlay ∧
    (takeStatus k x n s).stops = s.stops ∧ (takeStatus k x n s).resume = s.resume ∧
    (takeStatus k x n s).pending = s.pending := by
  refine ⟨?_, ?_, ?_, ?_, ?_, ?_, ?_, ?_, ?_, ?_, ?_⟩ <;> (dsimp only [takeStatus]; (repeat' split) <;> simp)

@[simp] theorem takeDone_keeps (k : Slot) (f : InFlight) (s : State) :
    (takeDone k f s).time = s.time ∧ (takeDone k f s).tempo = s.tempo ∧ (takeDone k f s).beats = s.beats ∧
    (takeDone k f s).clicks = s.clicks ∧ (takeDone k f s).tables = s.tables ∧ (takeDone k f s).pointer = s.pointer ∧
    (takeDone k f s).picture = s.picture ∧ (takeDone k f s).overlay = s.overlay ∧ (takeDone k f s).stops = s.stops ∧
    (takeDone k f s).resume = s.resume ∧ (takeDone k f s).pending = s.pending := by
  refine ⟨?_, ?_, ?_, ?_, ?_, ?_, ?_, ?_, ?_, ?_, ?_⟩ <;> (dsimp only [takeDone]; (repeat' split) <;> simp)

@[simp] theorem resend_keeps (k : Slot) (p : RigPort) (f : InFlight) (s : State) :
    (resend k p f s).time = s.time ∧ (resend k p f s).tempo = s.tempo ∧ (resend k p f s).beats = s.beats ∧
    (resend k p f s).clicks = s.clicks ∧ (resend k p f s).tables = s.tables ∧ (resend k p f s).pointer = s.pointer ∧
    (resend k p f s).picture = s.picture ∧ (resend k p f s).overlay = s.overlay ∧ (resend k p f s).stops = s.stops ∧
    (resend k p f s).resume = s.resume ∧ (resend k p f s).pending = s.pending := by
  simp [resend]

@[simp] theorem breakPort_keeps (p : RigPort) (s : State) :
    (breakPort p s).time = s.time ∧ (breakPort p s).tempo = s.tempo ∧ (breakPort p s).beats = s.beats ∧
    (breakPort p s).clicks = s.clicks ∧ (breakPort p s).tables = s.tables ∧ (breakPort p s).pointer = s.pointer ∧
    (breakPort p s).picture = s.picture ∧ (breakPort p s).overlay = s.overlay ∧ (breakPort p s).stops = s.stops ∧
    (breakPort p s).resume = s.resume ∧ (breakPort p s).pending = s.pending := by
  refine ⟨?_, ?_, ?_, ?_, ?_, ?_, ?_, ?_, ?_, ?_, ?_⟩ <;> (dsimp only [breakPort]; (repeat' split) <;> simp)

@[simp] theorem putCamera_keeps (k : Camera) (c : CameraRec) (s : State) :
    (putCamera k c s).time = s.time ∧ (putCamera k c s).tables = s.tables ∧
    (putCamera k c s).pending = s.pending := by
  refine ⟨?_, ?_, ?_⟩ <;> (dsimp only [putCamera]; (repeat' split) <;> simp)

@[simp] theorem changeRelay_keeps (s : State) :
    (changeRelay s).time = s.time ∧ (changeRelay s).tables = s.tables ∧ (changeRelay s).pending = s.pending := by
  simp [changeRelay]

@[simp] theorem resumeAt_keeps (t : Target) (s : State) :
    (resumeAt t s).time = s.time ∧ (resumeAt t s).tempo = s.tempo ∧ (resumeAt t s).beats = s.beats ∧
    (resumeAt t s).clicks = s.clicks ∧ (resumeAt t s).tables = s.tables ∧ (resumeAt t s).pointer = s.pointer ∧
    (resumeAt t s).picture = s.picture ∧ (resumeAt t s).overlay = s.overlay ∧ (resumeAt t s).pending = s.pending := by
  simp [resumeAt]

@[simp] theorem restart_keeps (a : ChaseAt) (n : Nat) (s : State) :
    (restart a n s).time = s.time ∧ (restart a n s).tables = s.tables ∧ (restart a n s).pending = s.pending := by
  simp [restart]

@[simp] theorem resumePointer_keeps (n : Nat) (s : State) :
    (resumePointer n s).time = s.time ∧ (resumePointer n s).tempo = s.tempo ∧ (resumePointer n s).beats = s.beats ∧
    (resumePointer n s).clicks = s.clicks ∧ (resumePointer n s).tables = s.tables ∧
    (resumePointer n s).rigs = s.rigs ∧ (resumePointer n s).picture = s.picture ∧
    (resumePointer n s).overlay = s.overlay ∧ (resumePointer n s).stops = s.stops ∧
    (resumePointer n s).resume = s.resume ∧ (resumePointer n s).pending = s.pending := by
  simp [resumePointer]

@[simp] theorem resumeGo_keeps (t : Target) (s : State) :
    (resumeGo t s).time = s.time ∧ (resumeGo t s).tables = s.tables ∧ (resumeGo t s).pending = s.pending := by
  simp [resumeGo]

@[simp] theorem showReset_keeps (s : State) :
    (showReset s).time = s.time ∧ (showReset s).tempo = s.tempo ∧ (showReset s).tables = s.tables ∧
    (showReset s).pending = s.pending := by
  simp [showReset]

@[simp] theorem setRole_keeps (p : DeskPort) (r : Option Role) (s : State) :
    (setRole p r s).time = s.time ∧ (setRole p r s).tempo = s.tempo ∧ (setRole p r s).beats = s.beats ∧
    (setRole p r s).clicks = s.clicks ∧ (setRole p r s).tables = s.tables ∧ (setRole p r s).pointer = s.pointer ∧
    (setRole p r s).rigs = s.rigs ∧ (setRole p r s).picture = s.picture ∧ (setRole p r s).overlay = s.overlay ∧
    (setRole p r s).stops = s.stops ∧ (setRole p r s).resume = s.resume ∧ (setRole p r s).pending = s.pending := by
  simp [setRole]

@[simp] theorem loseRole_keeps (p : DeskPort) (s : State) :
    (loseRole p s).time = s.time ∧ (loseRole p s).tempo = s.tempo ∧ (loseRole p s).tables = s.tables ∧
    (loseRole p s).pending = s.pending := by
  refine ⟨?_, ?_, ?_, ?_⟩ <;> (dsimp only [loseRole]; (repeat' split) <;> simp)

@[simp] theorem losePort_keeps (p : DeskPort) (s : State) :
    (losePort p s).time = s.time ∧ (losePort p s).tempo = s.tempo ∧ (losePort p s).tables = s.tables ∧
    (losePort p s).pending = s.pending := by
  simp [losePort]

@[simp] theorem clearRigCounter_keeps (c : RigCounter) (k : Fin 8) (s : State) :
    (clearRigCounter c k s).time = s.time ∧ (clearRigCounter c k s).tempo = s.tempo ∧
    (clearRigCounter c k s).beats = s.beats ∧ (clearRigCounter c k s).clicks = s.clicks ∧
    (clearRigCounter c k s).tables = s.tables ∧ (clearRigCounter c k s).pointer = s.pointer ∧
    (clearRigCounter c k s).picture = s.picture ∧ (clearRigCounter c k s).overlay = s.overlay ∧
    (clearRigCounter c k s).stops = s.stops ∧ (clearRigCounter c k s).resume = s.resume ∧
    (clearRigCounter c k s).desk = s.desk ∧ (clearRigCounter c k s).pending = s.pending := by
  refine ⟨?_, ?_, ?_, ?_, ?_, ?_, ?_, ?_, ?_, ?_, ?_, ?_⟩ <;> (unfold clearRigCounter; (repeat' split) <;> simp_all)

@[simp] theorem clearCameraCounter_keeps (c : CameraCounter) (k : Camera) (s : State) :
    (clearCameraCounter c k s).time = s.time ∧ (clearCameraCounter c k s).tempo = s.tempo ∧
    (clearCameraCounter c k s).beats = s.beats ∧ (clearCameraCounter c k s).clicks = s.clicks ∧
    (clearCameraCounter c k s).tables = s.tables ∧ (clearCameraCounter c k s).pointer = s.pointer ∧
    (clearCameraCounter c k s).rigs = s.rigs ∧ (clearCameraCounter c k s).overlay = s.overlay ∧
    (clearCameraCounter c k s).stops = s.stops ∧ (clearCameraCounter c k s).resume = s.resume ∧
    (clearCameraCounter c k s).desk = s.desk ∧ (clearCameraCounter c k s).pending = s.pending := by
  simp [clearCameraCounter]

end Sys2Proof.Machine
end

