-- ==== Sys2Proof/Laws/Invariants.lean ====
section
/-!
SUPPORT. What the invariants give: a bound slot and its port are a pair, and a reader count lies within 0 to 6.
-/

namespace Sys2Proof.Machine

/-- Under the one-to-one binding map, a bound slot and its port hold each other and no other (R101). -/
theorem BindInv.boundPair {s : State} (h : BindInv s) {p : RigPort} {k : Slot} (e : (s.rig k).boundPort = some p) :
    BoundPair p k s where
  slot := (h p k).2 e
  port := e
  ports q n c := n (Option.some.inj (((h q k).1 c).symm.trans e))
  slots j n c := n (Option.some.inj (((h p j).2 c).symm.trans ((h p k).2 e)))

/-- There are six monitors, so that no frame slot has more than six readers (R134). -/
theorem PictureInv.readers_le {s : State} (h : PictureInv s) (k : Camera) (i : Fin 6) :
    ((s.picture.cam k).slot i).readers ≤ 6 := by
  rw [h.readers]; exact List.countP_le_length

end Sys2Proof.Machine
end

