-- ==== Sys2Proof/Laws/Request.lean ====
section
/-!
SUPPORT. Requests: what taking a request does when the port is free and when it is not (R189), and how an owner's decision
makes a served request.
-/

namespace Sys2Proof.Machine

/-- The state in which an owner decides a request: presence has been seen to (R187). -/
theorem port_validFrame (p q : DeskPort) (s : State) :
    (validFrame p s).port q = if p = q then { s.port p with active := true, presentAt := s.now, rx := [] }
      else s.port q := by
  simp [validFrame, port_setPort]

/-- A port's record once the reply to its request is in progress and the transmitter has chosen. -/
theorem choose_progress (d : DeskPortRec) (tag : Byte) (reply : Reply) :
    ({ d with inProgress := some (progressOf tag reply) } : DeskPortRec).choose =
      { d with
        inProgress := some { tag := tag, reply := reply, begun := d.tx.isNone },
        tx := d.tx <|> some ⟨.reply, replyFrame tag reply⟩ } := by
  cases h : d.tx <;> simp [DeskPortRec.choose, progressOf]

/-- A request taken on a free port (R189): its owner decides it, and the reply is in progress. -/
theorem request_free {r : Req} {s : State} (act : State → Answer) (h : Free r s) :
    request r act s =
      ((act (validFrame r.port s)).state.setPort r.port
        { (act (validFrame r.port s)).state.port r.port with
          inProgress := some (progressOf r.tag (act (validFrame r.port s)).reply) }).setPort r.port
        ({ (act (validFrame r.port s)).state.port r.port with
          inProgress := some (progressOf r.tag (act (validFrame r.port s)).reply) } : DeskPortRec).choose := by
  have hv : ((validFrame r.port s).port r.port).inProgress = none := by
    rw [port_validFrame]; simpa [Free] using h
  simp [request, hv, chooseFrame]

/-- The parts of the state other than the desk after a request on a free port are those its owner leaves. -/
theorem request_state {r : Req} {s : State} (act : State → Answer) (h : Free r s) :
    request r act s =
      { (act (validFrame r.port s)).state with desk := (request r act s).desk } := by
  rw [request_free act h]; simp [State.setPort]

/-- A request on a free port whose owner leaves the port records but for kinds made pending is served. -/
theorem served_request {r : Req} {s : State} (act : State → Answer) (kinds : BitVec 8) (h : Free r s)
    (hk : ∀ q, (act (validFrame r.port s)).state.port q = ((validFrame r.port s).port q).addKinds kinds) :
    Served r (act (validFrame r.port s)).reply.code (act (validFrame r.port s)).reply.payload kinds s
      (request r act s) := by
  rw [request_free act h, choose_progress]
  generalize hu : (act (validFrame r.port s)).state = u at hk ⊢
  generalize (act (validFrame r.port s)).reply = reply
  have hr : u.port r.port =
      ({ s.port r.port with active := true, presentAt := s.now, rx := [] } : DeskPortRec).addKinds kinds := by
    rw [hk, port_validFrame]; simp
  have hq : ∀ q, q ≠ r.port → u.port q = (s.port q).addKinds kinds := by
    intro q hq; rw [hk, port_validFrame]; simp [Ne.symm hq]
  constructor
  · simp [hr, DeskPortRec.addKinds]
  · simp [hr, DeskPortRec.addKinds]
  · simp [hr, DeskPortRec.addKinds]
  · simp [hr, DeskPortRec.addKinds]
  · simp [hr, DeskPortRec.addKinds]
  · simp [hr, DeskPortRec.addKinds]
  · intro q
    by_cases e : q = r.port
    · subst e; simp [hr, DeskPortRec.addKinds]
    · simp [port_setPort_ne, e, hq q e, DeskPortRec.addKinds]
  · intro q
    by_cases e : q = r.port
    · subst e; simp [hr, DeskPortRec.addKinds]
    · simp [port_setPort_ne, e, hq q e, DeskPortRec.addKinds]
  · intro q e
    simp [port_setPort_ne, e, hq q e, DeskPortRec.addKinds]

/-- Whatever its owner does, a request on a free port has its owner's reply in progress. -/
theorem replied_request {r : Req} {s : State} (act : State → Answer) (h : Free r s) :
    Replied r (act (validFrame r.port s)).reply.code (act (validFrame r.port s)).reply.payload (request r act s) := by
  rw [request_free act h, choose_progress]; simp [Replied]

/-- A request on a free port, where its owner's answer is known: the next state, with its desk served. -/
theorem request_served {r : Req} {s u : State} {act : State → Answer} {code : ReplyCode} {value : List Byte}
    (kinds : BitVec 8) (h : Free r s) (ha : act (validFrame r.port s) = ⟨⟨code, value⟩, u⟩)
    (hk : ∀ q, u.port q = ((validFrame r.port s).port q).addKinds kinds) :
    request r act s = { u with desk := (request r act s).desk } ∧ Served r code value kinds s (request r act s) := by
  have h1 := request_state act h
  have h2 := served_request act kinds h (by rw [ha]; exact hk)
  rw [ha] at h1 h2
  exact ⟨h1, h2⟩

/-- A request on a free port, where its owner's answer is known: the next state, with the reply in progress. -/
theorem request_replied {r : Req} {s u : State} {act : State → Answer} {code : ReplyCode} {value : List Byte}
    (h : Free r s) (ha : act (validFrame r.port s) = ⟨⟨code, value⟩, u⟩) :
    request r act s = { u with desk := (request r act s).desk } ∧ Replied r code value (request r act s) := by
  have h1 := request_state act h
  have h2 := replied_request act h
  rw [ha] at h1 h2
  exact ⟨h1, h2⟩

theorem validFrame_role (p q : DeskPort) (s : State) : ((validFrame p s).port q).role = (s.port q).role := by
  rw [port_validFrame]; split
  · next h => subst h; rfl
  · rfl

/-- A port's role passes a role set exactly as it did before presence was seen to. -/
theorem holds_validFrame (roles : List Role) (p q : DeskPort) (s : State) :
    holds roles ((validFrame p s).port q) = holds roles (s.port q) := by
  simp [holds, validFrame_role]

theorem holds_of_role {roles : List Role} {d : DeskPortRec} {role : Role} (h : d.role = some role)
    (hr : roles.contains role = true) : holds roles d = true := by
  simp only [holds, h]; exact hr

/-- A change of the parts of the state other than the desk leaves the port records. -/
theorem port_of_desk {s t : State} (h : t.desk = s.desk) (q : DeskPort) : t.port q = (s.port q).addKinds 0 := by
  rw [addKinds_zero, port_congr h]

@[simp] theorem request_pending {r : Req} {s : State} (act : State → Answer)
    (h : ∀ t, (act t).state.pending = t.pending) : (request r act s).pending = s.pending := by
  unfold request
  dsimp only
  split <;> simp [h]

/-! ## What becomes of a request -/

/-- A request on a free port whose owner refuses it: nothing but the desk changes, and it is served with that code. -/
theorem refused_served {r : Req} {s : State} {act : State → Answer} {code : ReplyCode} {value : List Byte} (h : Free r s)
    (ha : act (validFrame r.port s) = ⟨⟨code, value⟩, validFrame r.port s⟩) :
    request r act s = { s with desk := (request r act s).desk } ∧ Served r code value 0 s (request r act s) := by
  have ht := request_served 0 h ha fun _ => (addKinds_zero _).symm
  refine ⟨?_, ht.2⟩
  rw [ht.1]; simp [validFrame, State.setPort]

/-- A command whose payload decodes, from a port whose role may send it, comes to its owner. -/
theorem command_owner {α : Type} {r : Req} {roles : List Role} {decode : List Byte → Option α} {payload : List Byte}
    {owner : α → State → Answer} {s : State} {a : α} (hd : decode payload = some a)
    (hr : holds roles (s.port r.port) = true) :
    (match decode payload with
      | none => refuse .range (validFrame r.port s)
      | some a =>
        if holds roles ((validFrame r.port s).port r.port) then owner a (validFrame r.port s)
        else refuse .noRight (validFrame r.port s)) = owner a (validFrame r.port s) := by
  simp [hd, holds_validFrame, hr]

/-- A command that comes to its owner, where the owner leaves the port records but for kinds made pending, is served with
the owner's answer. -/
theorem command_served {α : Type} {r : Req} {roles : List Role} {decode : List Byte → Option α} {payload : List Byte}
    {s u : State} {owner : α → State → Answer} {a : α} {role : Role} {code : ReplyCode} {value : List Byte}
    (kinds : BitVec 8) (h : Free r s) (hm : FromRole role r s) (hr : roles.contains role = true)
    (hd : decode payload = some a) (ho : owner a (validFrame r.port s) = ⟨⟨code, value⟩, u⟩)
    (hk : ∀ q, u.port q = ((validFrame r.port s).port q).addKinds kinds) :
    command r roles decode payload owner s = { u with desk := (command r roles decode payload owner s).desk } ∧
    Served r code value kinds s (command r roles decode payload owner s) :=
  request_served kinds h ((command_owner hd (holds_of_role hm hr)).trans ho) hk

/-- A command that comes to its owner has the owner's answer in progress, whatever the owner does. -/
theorem command_replied {α : Type} {r : Req} {roles : List Role} {decode : List Byte → Option α} {payload : List Byte}
    {s u : State} {owner : α → State → Answer} {a : α} {role : Role} {code : ReplyCode} {value : List Byte}
    (h : Free r s) (hm : FromRole role r s) (hr : roles.contains role = true) (hd : decode payload = some a)
    (ho : owner a (validFrame r.port s) = ⟨⟨code, value⟩, u⟩) :
    command r roles decode payload owner s = { u with desk := (command r roles decode payload owner s).desk } ∧
    Replied r code value (command r roles decode payload owner s) :=
  request_replied h ((command_owner hd (holds_of_role hm hr)).trans ho)

/-- Presence at a port changes nothing but the desk. -/
theorem validFrame_desk (p : DeskPort) (s : State) (d : Vector DeskPortRec 4) :
    ({ validFrame p s with desk := d } : State) = { s with desk := d } := by
  simp [validFrame, State.setPort]

/-- A kind made pending after a change of no port record. -/
theorem notify_validFrame (p q : DeskPort) (k : NoticeKind) (s : State) {u : State} (h : u.desk = (validFrame p s).desk) :
    (notify k u).port q = ((validFrame p s).port q).addKinds k.bit := by
  rw [port_notify, port_congr h]

/-- A kind made pending where something has changed, after a change of no port record. -/
theorem notifyIf_validFrame (p q : DeskPort) (b : Bool) (k : NoticeKind) (s : State) {u : State}
    (h : u.desk = (validFrame p s).desk) :
    (notifyIf b k u).port q = ((validFrame p s).port q).addKinds (kindIf b k) := by
  rw [port_notifyIf, port_congr h]

/-- An item write that passes the checks of R190 and R196 is served with its owner's answer, and the reply of an accepted
write carries the item's old value. -/
theorem write_served {item : Item} {w : FlagOp} {r : Req} {i : Byte} {rest : List Byte} {s u : State} {code : ReplyCode}
    (kinds : BitVec 8) (h : Free r s) (hf : opFormOk (opOfFlag w) rest = true) (hi : i.toNat < item.instances)
    (hfl : w = .swap ∨ (item.isFlag = true ∧ rest ≠ [0])) (hw : item.writers ≠ .roles [])
    (hm : item.mayWrite r.port i.toNat s = true)
    (ho : item.store w i.toNat rest (validFrame r.port s) = ⟨⟨code, []⟩, u⟩)
    (hk : ∀ q, u.port q = ((validFrame r.port s).port q).addKinds kinds) :
    let value := if code = .ok ∨ code = .clamped then item.value i.toNat (validFrame r.port s) else []
    itemRequest item (opOfFlag w) r i rest s =
      { u with desk := (itemRequest item (opOfFlag w) r i rest s).desk } ∧
    Served r code value kinds s (itemRequest item (opOfFlag w) r i rest s) := by
  intro value
  apply request_served kinds h _ hk
  unfold Item.operate
  have hmv : item.mayWrite r.port i.toNat (validFrame r.port s) = true := by
    rw [← hm]; unfold Item.mayWrite; split <;> simp [holds_validFrame]
  have hop : opWrite (opOfFlag w) rest = some w := by
    rcases hfl with rfl | ⟨_, hr⟩
    · rfl
    · cases w <;> simp [opOfFlag, opWrite] <;> exact hr
  have hmask : ¬ (item.instances ≤ i.toNat ∨ (opIsMask (opOfFlag w) && !item.isFlag) = true) := by
    rintro (h3 | h3)
    · omega
    · rcases hfl with rfl | ⟨hf, _⟩
      · simp [opOfFlag, opIsMask] at h3
      · simp [hf] at h3
  rw [if_neg (by simp [hf]), if_neg hmask, hop]
  dsimp only
  rw [if_neg hw, if_neg (by simp [hmv]), ho]
  show Answer.withOld _ _ = _
  unfold Answer.withOld
  dsimp only [value]
  cases code <;> simp

end Sys2Proof.Machine
end

