-- ==== Sys2Proof/Laws/Receive.lean ====
section
/-!
SUPPORT. Receivers: a request taken from the line is the command that its code names (R203), and what a run of
characters that ends nothing bad does.
-/

namespace Sys2Proof.Machine

/-- A request is served as its command is carried out. -/
theorem serve_request {c : Instr} {r : Req} (h : requestFrom c = some r) (s : State) : serve c s = exec c s := by
  cases c <;> first | rfl | cases h

/-- The row that writes an item is a request. -/
theorem itemRow_request {item : Item} {op : FlagOp} {r : Req} {i : Byte} {v : List Byte} {c : Instr}
    (h : itemRow item op r i v = some c) : requestFrom c = some r := by
  unfold itemRow at h
  split at h <;> first | (cases h; done) | (obtain rfl := Option.some.inj h; rfl)

theorem itemCommand_request (r : Req) (op : ItemOp) (payload : List Byte) :
    requestFrom (itemCommand r op payload) = some r := by
  unfold itemCommand
  (repeat' split) <;> try rfl
  next item w _ _ =>
    cases h : itemRow item w r _ _ with
    | none => rfl
    | some c => exact itemRow_request h

/-- The code of a REQUEST names a request of its port and tag (R203). -/
theorem commandOf_request (r : Req) (code : Byte) (payload : List Byte) :
    requestFrom (commandOf r code payload) = some r := by
  unfold commandOf
  split <;> first | rfl | exact itemCommand_request ..

/-- A REQUEST taken from the line is carried out as the command that its code names (R203). -/
theorem serve_commandOf (r : Req) (code : Byte) (payload : List Byte) (s : State) :
    serve (commandOf r code payload) s = exec (commandOf r code payload) s :=
  serve_request (commandOf_request r code payload) s

/-- What DESK_BAD_FRAME can do: take the run, or nothing where it ends no bad frame. -/
theorem execDeskBadFrame_cases (p : DeskPort) (chars : List LineChar) (s : State) :
    (none ∈ (receiveFrames (s.port p).rx chars).ended ∧
      execDeskBadFrame p chars s = .next (takeDeskChars p (receiveFrames (s.port p).rx chars) s)) ∨
    (none ∉ (receiveFrames (s.port p).rx chars).ended ∧ execDeskBadFrame p chars s = .next s) := by
  unfold execDeskBadFrame
  by_cases h : none ∈ (receiveFrames (s.port p).rx chars).ended
  · exact .inl ⟨h, by simp [h]⟩
  · exact .inr ⟨h, by simp [h]⟩

/-- What RIG_INVALID_MESSAGE can do: take the run, or nothing where it ends no invalid message. -/
theorem execRigInvalidMessage_cases (p : RigPort) (chars : List LineChar) (s : State) :
    (none ∈ (receiveMessages (s.rigPort p).rx chars).ended ∧
      execRigInvalidMessage p chars s = .next (takeRigChars p (receiveMessages (s.rigPort p).rx chars) s)) ∨
    (none ∉ (receiveMessages (s.rigPort p).rx chars).ended ∧ execRigInvalidMessage p chars s = .next s) := by
  unfold execRigInvalidMessage
  by_cases h : none ∈ (receiveMessages (s.rigPort p).rx chars).ended
  · exact .inl ⟨h, by simp [h]⟩
  · exact .inr ⟨h, by simp [h]⟩

/-- A port record put back as it stands changes nothing. -/
theorem setRigPort_same (p : RigPort) (s : State) : setRigPort p (s.rigPort p) s = s := by
  simp [setRigPort, notifyIf, RigPortRec.differs, State.rigPort]

/-- What a receiver holds makes no kind pending (R96). -/
theorem setRigPort_rx (p : RigPort) (held : List Byte) (s : State) :
    setRigPort p { s.rigPort p with rx := held } s =
      { s with rigs := { s.rigs with ports := tput s.rigs.ports p { s.rigPort p with rx := held } } } := by
  simp [setRigPort, notifyIf, RigPortRec.differs]

end Sys2Proof.Machine
end

