-- ==== Sys2Proof/Tests/Slice0.lean ====
section
/-!
SUPPORT. Tests of the model. The expected values of the `test_` theorems are the manual's own examples and tables; each
`witness_` theorem shows states and operands that meet the hypotheses of the statement it names, clause by clause, with
what the part then does.
-/

namespace Sys2Proof.Tests

open Sys2Proof Sys2Proof.Machine

-- One theorem at a time: a thread for each of them at once would ask for too much memory.
set_option Elab.async false

/-! ## Small states -/

/-- A request on desk port 0. -/
def rq : Req := ⟨0, 7⟩

/-- The state after a command. -/
def after (c : Instr) (s : State) : State :=
  match exec c s with
  | .next t => t
  | _ => s

/-- The reply code and the value of the request in progress on port 0. -/
def code (s : State) : Option ReplyCode := (s.port 0).inProgress.map (·.reply.code)
def value (s : State) : Option (List Byte) := (s.port 0).inProgress.map (·.reply.payload)

/-- Port 0 holds a role, and nothing is in progress on it. -/
def held (role : Role) (s : State) : State := s.setPort 0 { DeskPortRec.reset with role := some role }

/-- Such a port is free and holds the role: the hypotheses that most statements share. -/
theorem held_ready (role : Role) (s : State) : Free rq (held role s) ∧ FromRole role rq (held role s) := by
  simp [Free, FromRole, held, rq, DeskPortRec.reset]

/-- The session is SHOW. -/
def onAir (s : State) : State := { s with tables := { s.tables with session := .inShow } }

/-- The show clock stands at a sample. -/
def clockAt (n : Nat) (s : State) : State := { s with time := { s.time with clock := n } }

/-- A cue with nothing in it, and a cue list. -/
def cue (n : Nat) : Cue :=
  { number := n, label := [], scoreBar := none, tempo := .keep, meter := none, click := .keep, vamp := none,
    boundary := .immediate, changes := [], video := none }
def listed (l : List Cue) (s : State) : State := { s with tables := { s.tables with cues := l } }

/-- The click at 120 BPM in a meter of 4, with a beat of bar 20 as CURRENT and the next onset a period later. -/
def beatOf (n : Nat) : Beat :=
  { onset := 10000 * 65536, period := 24000 * 65536, tempo := 12000, bar := 20, beat := n, downbeat := n == 1,
    countIn := false, vampLoop := false, lastPass := false }
def running (n : Nat) (s : State) : State :=
  { s with beats := { s.beats with click := .running, current := some (beatOf n), nextOnset := some (34000 * 65536) } }

/-- A running click whose next commit is due. -/
def due (n : Nat) : State := clockAt 29200 (running n State.reset)

/-- A rig bound to port 5 and slot 2 with a record of its own. -/
def bound (r : Rig) (s : State) : State :=
  { s with rigs := {
      ports := tput s.rigs.ports 5 { RigPortRec.reset with boundSlot := some 2, linkUp := true }
      slots := tput s.rigs.slots 2 { r with boundPort := some 5 } } }
def readyRig : Rig := { Rig.reset with state := .ready, applied := some ⟨7, 3, 2⟩ }
def flying (bit resent : Bool) : InFlight := { patch := ⟨7, 4, 2⟩, kind := .cue, bit := bit, sent := 0, resent := resent }
def changingRig : Rig := { readyRig with state := .changing, inFlight := some (flying false false) }

/-- A stop record, and a stop state with its stack. -/
def record (i : StopSource) (n : Nat) (acked : Bool) : StopRecord := { source := i, level := n, acked := acked }
def stopped (x : StopState) (l : List StopRecord) (s : State) : State :=
  { s with stops := { s.stops with state := x, stack := l } }

def inState (x : StopState) (s : State) : State := stopped x [] s

/-- A state whose flags are all lowered has nothing raised. -/
theorem nothing_raised {s : State} (h : s.stops.raised = Vector.replicate 9 false) : NothingRaised s := by
  intro i; simp [Stops.isRaised, h]

/-- A commit that is due, with nothing armed and nothing raised. -/
theorem commit_due {s : State} {o : Nat} (h : s.beats.nextOnset = some o) (d : o / 65536 ≤ s.now + 4800)
    (a : s.pointer.armed = none) (r : s.stops.raised = Vector.replicate 9 false) : CommitDue o s :=
  ⟨h, d, a, nothing_raised r⟩

/-! ## Well-formedness: each check refuses an ill-formed command -/

theorem test_wf_announce : (Instr.announce 0 []).wf = false ∧ (Instr.announce 0 (List.replicate 17 0x41)).wf = false ∧
    (Instr.announce 0 [0x7F]).wf = false ∧ (Instr.announce 0 (List.replicate 16 0x41)).wf = true := by decide

theorem test_wf_bad_characters : (Instr.rigInvalidMessage 0 []).wf = false ∧ (Instr.deskBadFrame 0 []).wf = false ∧
    (Instr.rigInvalidMessage 0 [.ok 0x55, .damaged]).wf = true ∧
    (Instr.deskBadFrame 0 [.ok 0x7E, .ok 0x04]).wf = true := by
  decide

theorem test_wf_stray_frame : (Instr.deskStrayFrame 0 ⟨.request, 0, 0, []⟩).wf = false ∧
    (Instr.deskStrayFrame 0 ⟨.reply, 0, 0, List.replicate 251 0⟩).wf = false ∧
    (Instr.deskStrayFrame 0 ⟨.notice, 0, 0, []⟩).wf = true := by decide +kernel

theorem test_wf_unknown_code : (Instr.unknownCode rq 0x10 []).wf = false ∧ (Instr.unknownCode rq 0x00 []).wf = true ∧
    (Instr.unknownCode rq 0x00 (List.replicate 251 0)).wf = false := by decide +kernel

theorem test_wf_lengths : (Instr.clipWrite rq (List.replicate 250 0)).wf = true ∧
    (Instr.clipWrite rq (List.replicate 251 0)).wf = false ∧ (Instr.slotNameWrite rq 0 (List.replicate 247 0)).wf = true ∧
    (Instr.slotNameWrite rq 0 (List.replicate 248 0)).wf = false ∧
    (Instr.requestWhileBusy rq 0 (List.replicate 251 0)).wf = false := by decide +kernel

/-! ## The manual's examples and tables -/

/-- The check value of R201: the CRC of the characters 1 to 9. -/
theorem test_crc_check_value : crc [0x31, 0x32, 0x33, 0x34, 0x35, 0x36, 0x37, 0x38, 0x39] = 0x29B1 := by decide +kernel

/-- 12.7: a payload whose last byte is a start byte goes out escaped, with a payload length of 4. -/
def escaped : Frame := { kind := .request, tag := 0x21, code := 0x02, payload := [0x03, 0x07, 0x07, 0x7E] }
theorem test_escaped_frame : escaped.line.take 10 = [0x7E, 0x01, 0x21, 0x02, 0x04, 0x03, 0x07, 0x07, 0x7D, 0x5E] ∧
    escaped.line.length = 12 := by decide
theorem test_escaped_frame_read : parseFrame ((0x00 :: escaped.line).map .ok) = .valid escaped [] := by decide +kernel
theorem test_damaged_frame_bad : parseFrame ((escaped.line.take 11).map .ok ++ [.ok 0x7E]) = .bad [] := by decide +kernel

/-- 12.7: FOH writes 126 to the level of lane 7: it is stored as 64, CLAMPED, the old level 0 returned. -/
theorem test_level_clamped : ((after (.laneLevelWrite rq 7 [0x7E]) (held .foh State.reset)).clicks.lane 7).level = 64 ∧
    code (after (.laneLevelWrite rq 7 [0x7E]) (held .foh State.reset)) = some .clamped ∧
    value (after (.laneLevelWrite rq 7 [0x7E]) (held .foh State.reset)) = some [0] ∧
    code (after (.laneLevelWrite rq 16 [0x7E]) (held .foh State.reset)) = some .range := by decide

/-- 1.4.1: at 59.94 fps tick 2 falls at 1,601 + 38,502 / 65,536 and tick 5 on sample 4,003. -/
theorem test_ticks_5994 : 2 * VideoRate.period .fps5994 = 1601 * 65536 + 38502 ∧
    q16Sample (5 * VideoRate.period .fps5994) = 4003 := by decide

/-- 1.9.1: the period at 132.50 BPM, and the second of three subdivisions of a beat at sample 1,000,000. -/
theorem test_period : periodOf 13250 = 1424480603 ∧ periodOf 12000 = 24000 * 65536 ∧
    q16Sample (subdivisionAt (1000000 * 65536) (periodOf 13250) 2 3) = 1014490 := by decide

/-- TABLE 1-4: the nudges at the limits. -/
def tempoAt (v : Nat) : State := held .md { State.reset with tempo := { TempoState.reset with current := v, live := v } }
theorem test_nudges : (after (.nudgeUp rq []) (tempoAt 12000)).tempo.live = 12120 ∧
    (after (.nudgeDown rq []) (tempoAt 13250)).tempo.live = 13117 ∧
    (after (.nudgeUp rq []) (tempoAt 30000)).tempo.live = 30000 ∧
    (after (.nudgeDown rq []) (tempoAt 2020)).tempo.live = 2000 ∧
    code (after (.nudgeDown rq []) (tempoAt 2020)) = some .clamped := by decide

/-- 1.8.1: the second tap gives 11,950 and the third 12,000. -/
def tapped (now : Nat) (taps : List Nat) : TempoState :=
  (after (.tap rq []) (clockAt now (held .md { State.reset with tempo := { TempoState.reset with taps := taps } }))).tempo
theorem test_taps : (tapped 524100 [500000]).live = 11950 ∧ (tapped 548000 [500000, 524100]).live = 12000 ∧
    (tapped 575000 [500000, 524100, 548000, 572000]).live = 12000 ∧
    (tapped 800000 [500000, 572000]).taps = [800000] := by
  decide

/-- 1.10.1: a ramp from 12,000 to 9,000 over 4 beats, and one from 12,100 to 12,000 over 3. -/
def ramped (t0 t1 n i : Nat) : Nat × TempoState :=
  ({ TempoState.reset with mode := .ramp, ramp := some ⟨t0, t1, n, i⟩ } : TempoState).commit
theorem test_ramps : (ramped 12000 9000 4 0).1 = 11250 ∧ (ramped 12000 9000 4 2).1 = 9750 ∧
    (ramped 12000 9000 4 3).2.mode = .fixed ∧ (ramped 12100 12000 3 0).1 = 12067 ∧
    (ramped 12000 12100 3 1).1 = 12066 := by
  decide

/-- 2.5.1: the vamp test, row by row. -/
def openVamp (pass : Nat) (released : Bool) : Vamp := ⟨.opened, 21, 2, 22, none, pass, released⟩
def repeatVamp (pass : Nat) : Vamp := ⟨.repeated, 22, 1, 22, some 2, pass, false⟩
theorem test_vamps : vampTest 22 [repeatVamp 1, openVamp 1 false] = ⟨[repeatVamp 2, openVamp 1 false], some 22, true, true⟩ ∧
    vampTest 22 [repeatVamp 2, openVamp 1 false] = ⟨[openVamp 2 false], some 21, true, false⟩ ∧
    vampTest 21 [openVamp 2 true] = ⟨[openVamp 2 true], some 22, false, false⟩ ∧
    vampTest 22 [openVamp 2 true] = ⟨[], none, false, false⟩ := by decide

/-- 3.4.1: lane 3 of the count-in, subdivision 3 and lead 2,400, and lane 7, FLAT with lead 1,200 and the count voice. -/
def clips : ClickGen :=
  { ClickGen.reset with directory := tput ClickGen.reset.directory 0 (some ⟨0, 10⟩), roles := Vector.replicate 28 (some 0) }
def countBeat : Beat := ⟨2004800 * 65536, 24000 * 65536, 12000, -1, 1, true, true, false, false⟩
theorem test_starts :
    (clips.newEntries { Lane.reset with enabled := true, subdivision := 3, lead := 2400 } countBeat).map (·.sample) =
      [2002400, 2010400, 2018400] ∧
    (clips.newEntries { Lane.reset with enabled := true, accent := .flat, lead := 1200, countVoice := true }
      countBeat).map (fun e => (e.sample, e.voice)) = [(2003600, .click), (2003600, .count)] := by decide

/-- 3.6.1: the voice and lane arithmetic, and the rounding of a negative product. -/
theorem test_voices : voiceOut [(0, 6000000)] (gainOf 0) (some ⟨0, 1, 0⟩) = 5999816 ∧
    voiceOut [(0, 6000000)] (gainOf 6) (some ⟨0, 1, 0⟩) = 3006958 ∧
    voiceOut [(0, 16777213)] (gainOf 6) (some ⟨0, 1, 0⟩) = -2 ∧
    saturate (5999816 + 4999847) = 8388607 := by decide

/-- 4.6.1: the chases of 2.0 and 4.0 in the finished list. -/
def entry (k : Nat) (main : Patch) (cover : Option Patch) : ChangeEntry := ⟨k, ⟨main, cover⟩, .cut, 0⟩
def chased : Tables :=
  { Tables.reset with cues :=
      [{ cue 10 with
          tempo := .fixed 9600, meter := some 4, scoreBar := some 1,
          changes := [entry 0 ⟨2, 5, 0⟩ none, entry 1 ⟨4, 20, 1⟩ (some ⟨4, 21, 1⟩)] },
       { cue 20 with changes := [entry 2 ⟨7, 3, 2⟩ none, entry 3 ⟨10, 1, 0⟩ none] },
       { cue 25 with tempo := .ramp 12000 8, meter := some 3, scoreBar := some 33, changes := [entry 0 ⟨2, 6, 0⟩ none] },
       { cue 30 with tempo := .live }, { cue 40 with scoreBar := some 57, changes := [entry 1 ⟨4, 22, 0⟩ none] }] }
theorem test_chases : chased.freeCount = 3994 ∧ chased.patchChase (.cue 20) 1 = (⟨⟨4, 20, 1⟩, some ⟨4, 21, 1⟩⟩, some 10) ∧
    chased.patchChase (.cue 40) 1 = (⟨⟨4, 22, 0⟩, none⟩, some 40) ∧ chased.tempoChase (.cue 20) = .fixed 9600 ∧
    chased.tempoChase (.cue 40) = .live ∧ chased.meterChase (.cue 30) = 3 ∧ chased.barChase (.cue 40) = 57 := by decide

/-- R140 and R141: the printed tempo, cue number and count-in bar. -/
theorem test_printed : tempoText 13250 = chars "132.50" ∧ tempoText 2000 = chars "20.00" ∧ cueText 105 = chars "10.5" ∧
    positionText 2 ⟨-2, 2, true⟩ = chars "C1:2" ∧ positionText 2 ⟨12, 3, false⟩ = chars "12:3" := by decide

/-- TABLE 9-1: levels, and the kinds of the first and the last source. -/
theorem test_sources : allSources.map State.reset.stops.level = [15, 14, 13, 9, 8, 6, 5, 4, 0] ∧
    State.reset.stops.profile .fohStop = ⟨.bar, .safe, .banner⟩ ∧ StopSource.isHard .relay = true ∧
    StopSource.isHard .cameraLost = false := by decide

/-- R52: the gain at 6 dB, at 63 dB and at MUTE. -/
theorem test_gains : gainOf 0 = 32767 ∧ gainOf 6 = 16422 ∧ gainOf 63 = 23 ∧ gainOf 64 = 0 := by decide

/-! ## Witnesses: the step, and requests turned away -/

theorem witness_StepIdles : State.reset.pending = [] := rfl

/-- A port with a request in progress, sending or not, with a BUSY reply waiting or not. -/
def busyPort (tx : Option Transmission) (waiting : Option Byte) : State :=
  State.reset.setPort 0 { DeskPortRec.reset with
    inProgress := some ⟨1, ⟨.ok, []⟩, true⟩, tx := tx, waitingBusy := waiting }
def sending (k : TxKind) : Option Transmission := some ⟨k, ⟨.reply, 1, 0, []⟩⟩
theorem witness_RequestWhileBusyRefused :
    (Instr.tap rq []).wf = true ∧ requestFrom (.tap rq []) = some rq ∧
    requestFrom (.requestWhileBusy rq 0 []) = some rq ∧
    ((after (.tap rq []) (busyPort (sending .reply) none)).port 0).waitingBusy = some 7 ∧
    ((after (.requestWhileBusy rq 0 []) (busyPort none none)).port 0).tx =
      some ⟨.busy, replyFrame 7 ⟨.busy, []⟩⟩ ∧
    ((after (.tap rq []) (busyPort (sending .reply) (some 3))).port 0).badFrames = 1 ∧
    ((after (.tap rq []) (busyPort (sending .reply) (some 3))).port 0).waitingBusy = some 3 := by decide

theorem witness_RequestsTurnedAway : Free rq State.reset ∧ (State.reset.port 0).role = none ∧
    commandRequest (.tap rq [0]) = some ⟨rq, some [.md], false⟩ ∧
    commandRequest (.tap rq []) = some ⟨rq, some [.md], true⟩ ∧
    commandRequest (.claimRole rq [4]) = some ⟨rq, none, false⟩ ∧ commandCodes.contains 0x00 = false ∧
    code (after (.tap rq [0]) State.reset) = some .range ∧ code (after (.tap rq []) State.reset) = some .noRight ∧
    code (after (.unknownCode rq 0 []) State.reset) = some .unknownCode :=
  ⟨rfl, by decide⟩

theorem witness_ItemWriteChecks : Free rq (held .foh State.reset) ∧
    itemWrite (.laneLevelWrite rq 16 [0]) = some ⟨rq, .laneLevel, .swap, 16, [0]⟩ ∧
    code (after (.laneLevelWrite rq 16 [0]) (held .foh State.reset)) = some .range ∧
    opFormOk (opOfFlag .set) [] = false ∧ code (after (.tempoClampedClear rq .set 0 []) (held .md State.reset)) = some .range ∧
    value (after (.tempoClampedClear rq .set 0 [0]) State.reset) = some [0] ∧
    Item.mayWrite .laneLevel 0 15 (held .md State.reset) = false ∧
    code (after (.laneLevelWrite rq 15 [0]) (held .md State.reset)) = some .noRight ∧
    code (after (.tempoClampedClear rq .clear 0 [1]) (held .foh State.reset)) = some .noRight :=
  ⟨(held_ready _ _).1, by decide +kernel⟩

theorem witness_ReadReturnsTheValue : Free rq State.reset ∧ opFormOk .read [] = true ∧ opFormOk .clear [0] = true ∧
    Item.ofNumber (word2 0x01 0x06) = none ∧ Item.ofNumber (word2 0x03 0x07) = some .laneLevel ∧
    Item.ofNumber (word2 0x02 0x06) = some .tempoClamped ∧ Item.writers .clickState = .roles [] ∧
    code (after (.read rq .read [0x01, 0x06, 0]) State.reset) = some .unknownCode ∧
    code (after (.read rq .read [0x03, 0x07, 16]) State.reset) = some .range ∧
    value (after (.read rq .read [0x03, 0x07, 15]) State.reset) = some [0] ∧
    value (after (.read rq .clear [0x02, 0x06, 0, 0]) State.reset) = some [0] ∧
    Item.ofNumber (word2 0x09 0x04) = some .pendingSet ∧ Item.writers .pendingSet = .roles [] ∧
    value (after (.read rq .set [0x09, 0x04, 3, 0]) State.reset) = some [0] ∧
    code (after (.read rq .set [0x09, 0x04, 3, 1]) State.reset) = some .readOnly ∧
    code (after (.read rq .set [0x02, 0x02, 0, 0]) State.reset) = some .range ∧
    value (after (.read rq .read [0x02, 0x02, 0]) State.reset) = some [0x2E, 0xE0] ∧
    code (after (.read rq .swap [0x02, 0x07, 0, 1]) State.reset) = some .readOnly :=
  ⟨rfl, by decide +kernel⟩

/-! ## Witnesses: timebase and tempo -/

/-- A voice playing the only sample of a clip, on lane 0. -/
def playing : State :=
  { State.reset with clicks := { ClickGen.reset with
      memory := [(0, 8388607)]
      lanes := tput ClickGen.reset.lanes 0 { Lane.reset with
        clickVoice := some ⟨0, 1, 0⟩, countVoicePlaying := some ⟨0, 2, 0⟩, level := 64 } } }
def relayRun (n : Option Nat) (s : State) : State := { s with stops := { s.stops with relayRun := n } }
theorem witness_SampleCounted :
    tget (after (.showClockSample false) playing).clicks.tdm 0 = 8388607 ∧
    ((after (.showClockSample false) playing).clicks.lane 0).clipCount = 1 ∧
    ((after (.showClockSample false) playing).clicks.lane 0).clickVoice = none ∧
    ((after (.showClockSample false) playing).clicks.lane 0).gainLevel = 64 ∧
    (after (.showClockSample false) (relayRun (some 479) playing)).stops.relayRun = none ∧
    (after (.showClockSample true) playing).stops.relayRun = some 0 ∧
    (after (.showClockSample true) (relayRun (some 479) playing)).stops.relayRun = some 480 ∧
    (after (.showClockSample true) (relayRun (some 480) playing)).stops.relayRun = some 480 := by decide +kernel

theorem witness_VoiceOutputIsTheScaledSample :
    voiceOut [(0, 0x800000)] 32767 (some ⟨0, 1, 0⟩) = -8388352 ∧
    voiceOut [(0, 0x7FFFFF)] 32767 (some ⟨0, 1, 0⟩) = 8388351 ∧
    voiceOut [(0, 0x7FFFFF)] (gainOf 64) (some ⟨0, 1, 0⟩) = 0 := by decide +kernel

/-- The Timebase on the internal reference with a count of good edges, and on the word clock. -/
def qualifying (edges : Nat) : State :=
  { State.reset with time := { Timebase.reset with edgeSeen := true, goodEdges := edges } }
def onWord (missed : Nat) : State := { State.reset with time := { Timebase.reset with source := .word, missed := missed } }
theorem witness_WordClockEdges :
    (after (.wordClockEdge 5000000 false) State.reset).time.edgeSeen = true ∧
    (after (.wordClockEdge 970000 false) (qualifying 47998)).time.goodEdges = 47999 ∧
    (after (.wordClockEdge 1030000 false) (qualifying 0)).time.goodEdges = 1 ∧
    (after (.wordClockEdge 969999 false) (qualifying 47999)).time.goodEdges = 0 ∧
    (after (.wordClockEdge 1030001 false) (qualifying 47999)).time.goodEdges = 0 ∧
    (after (.wordClockEdge 499999 false) (onWord 3)).time = (onWord 3).time ∧
    (after (.wordClockEdge 500000 false) (onWord 3)).time = { (onWord 0).time with clock := 1 } ∧
    (after .wordClockSilence (qualifying 5)).time.goodEdges = 0 ∧
    (after .wordClockSilence (onWord 3)).time = (onWord 3).time := by decide +kernel

theorem witness_ClockSourceSwitches :
    (after (.wordClockQualified 970000 false) (qualifying 47999)).time.source = .word ∧
    (after (.wordClockEdge 1030000 false) (qualifying 47999)).time.clock = 1 ∧
    (after (.wordClockQualified 1030000 false) (qualifying 47998)).time.source = .internal ∧
    (after (.wordClockQualified 969999 false) (qualifying 47999)).time.goodEdges = 47999 ∧
    (after (.wordClockQualified 1000000 false) (onWord 3)).time = (onWord 3).time ∧
    (after .holdover (onWord 4)).time.source = .internal ∧ (after .holdover (onWord 4)).stops.isRaised .clock = true ∧
    (after .holdover (onWord 3)).time.source = .word ∧ (after .holdover State.reset).time.holdovers = 0 := by
  decide +kernel

/-- The video rate written: the three values, a value next to one of them, the rate already held, and SHOW. -/
def rated (hi lo : Byte) (s : State) : State := after (.videoRateWrite rq 0 [hi, lo]) (held .prog s)
theorem witness_VideoRateWritten : (rated 0x17 0x6A State.reset).time.rate = .fps5994 ∧
    (rated 0x17 0x6A (clockAt 9 State.reset)).time.tickPos = 10 * 65536 ∧
    (rated 0x17 0x70 State.reset).time.rate = .fps60 ∧ code (rated 0x13 0x88 (clockAt 9 State.reset)) = some .ok ∧
    (rated 0x13 0x88 (clockAt 9 State.reset)).time.tickPos = 0 ∧ code (rated 0x13 0x89 State.reset) = some .range ∧
    code (rated 0x17 0x70 (onAir State.reset)) = some .frozen := by decide +kernel

/-- Camera A with a newest READY slot, a monitor of each kind, and a stop that asks only for its banner. -/
def pictured (state : CameraState) (m : Monitor) : State :=
  { State.reset with picture := { Picture.reset with
      camA := { CameraRec.reset with
        enabled := true, state := state, ready := [0, 1],
        ring := tput (tput CameraRec.reset.ring 0 { FrameSlot.reset with state := .ready }) 1
          { FrameSlot.reset with state := .ready } }
      monitors := tput Picture.reset.monitors 0 m } }
def watching (frozen : Bool) (slot : Option SlotId) : Monitor :=
  { Monitor.reset with source := .camA, frozen := frozen, held := slot }
theorem witness_FrameTickVisitsMonitors :
    ((after .frameTick (pictured .ok (watching false (some ⟨.a, 0⟩)))).picture.monitor 0).held = some ⟨.a, 1⟩ ∧
    ((after .frameTick (pictured .ok (watching true (some ⟨.a, 0⟩)))).picture.monitor 0).held = some ⟨.a, 0⟩ ∧
    ((after .frameTick (pictured .lost (watching false (some ⟨.a, 0⟩)))).picture.monitor 0).held = some ⟨.a, 0⟩ ∧
    ((after .frameTick (pictured .ok { Monitor.reset with held := some ⟨.a, 0⟩ })).picture.monitor 0).held = none ∧
    (after .frameTick { State.reset with time := { Timebase.reset with tickPos := 65536 } }).time.tickPos = 65536 ∧
    (stopped .stopping [record .clock 9 false] State.reset).stops.effective.click = .continued ∧
    (after .frameTick (stopped .stopping [record .clock 9 false] State.reset)).stops.state = .stopped := by decide +kernel

/-- SET TEMPO just below and just above each limit; a write of live_tempo during a ramp. -/
theorem witness_TempoSet : (∀ s, Free rq (held .md s) ∧ FromRole .md rq (held .md s)) ∧
    (after (.setTempo rq [0x07, 0xCF]) (tempoAt 2000)).tempo.live = 2000 ∧
    (after (.setTempo rq [0x07, 0xCF]) (tempoAt 2000)).tempo.clamped = true ∧
    (after (.setTempo rq [0x75, 0x31]) (tempoAt 2000)).tempo.current = 30000 ∧
    code (after (.setTempo rq [0x75, 0x30]) (tempoAt 2000)) = some .ok ∧
    value (after (.liveTempoWrite rq 0 [0x75, 0x31]) (tempoAt 2000)) = some [0x07, 0xD0] :=
  ⟨held_ready _, by decide +kernel⟩

theorem witness_TempoNudged : Free rq (tempoAt 12000) ∧ FromRole .md rq (tempoAt 12000) := held_ready _ _

/-- A tap at each edge of the windows: 5,759 and 5,760, 144,000 and 144,001 samples after the one before; and a sixth. -/
theorem witness_TempoTapped : (tapped 10000 []).taps = [10000] ∧ (tapped 10759 [5000]).taps = [5000] ∧
    (tapped 10760 [5000]).taps = [5000, 10760] ∧ (tapped 149000 [5000]).taps = [5000, 149000] ∧
    (tapped 149001 [5000]).taps = [149001] ∧
    (tapped 130000 [10000, 34000, 58000, 82000, 106000]).taps = [34000, 58000, 82000, 106000, 130000] ∧
    (tapped 10760 [5000]).live = 30000 := by decide +kernel

theorem witness_StickyFlagsCleared :
    (after (.tempoClampedClear rq .swap 0 [0])
      (held .md { State.reset with tempo := { TempoState.reset with clamped := true } })).tempo.clamped = false ∧
    (after (.vampOverflowClear rq .clear 0 [1])
      (held .md { State.reset with beats := { BeatState.reset with overflow := true } })).beats.overflow = false ∧
    (after (.startIgnoredClear rq .clear 0 [1])
      (held .md { State.reset with pointer := { Pointer.reset with startIgnored := true } })).pointer.startIgnored = false ∧
    code (after (.startIgnoredClear rq .swap 0 [1]) (held .md State.reset)) = some .range ∧
    code (after (.vampOverflowClear rq .set 0 [1]) (held .md State.reset)) = some .range ∧
    code (after (.tempoClampedClear rq .clear 0 [2]) (held .md State.reset)) = some .range := by decide +kernel

/-! ## Witnesses: beats -/

theorem witness_BeatCommittedInBar : CommitDue (34000 * 65536) (due 3) ∧ (due 3).beats.latest = some (beatOf 3) ∧
    1 ≤ (beatOf 3).beat ∧ (beatOf 3).beat < (due 3).beats.meter ∧
    ((after .beatCommit (due 3)).beats.next.map fun b => (b.bar, b.beat, b.onset)) = some (20, 4, 34000 * 65536) ∧
    (after .beatCommit (clockAt 29199 (due 3))).beats.next = none :=
  ⟨commit_due rfl (by decide) rfl rfl, by decide +kernel⟩

/-- The last beat of a ramp on a part with clips, lane 3 FLAT with lead 2,400, and monitor 1 in CLICK mode paired with it. -/
def fed : State :=
  { due 3 with
    tempo := { TempoState.reset with mode := .ramp, ramp := some ⟨12000, 9000, 4, 3⟩ }
    clicks := clips.setLane 3 { Lane.reset with enabled := true, accent := .flat, lead := 2400 }
    picture := { Picture.reset with
      monitors := tput Picture.reset.monitors 1 { Monitor.reset with flashMode := .click, pairedLane := some 3 } } }
theorem witness_BeatFeedsLanesAndFlashes : CommitDue (34000 * 65536) fed ∧ fed.beats.latest = some (beatOf 3) ∧
    (∀ r, fed.tempo.ramp = some r → r.done < r.length) ∧
    (after .beatCommit fed).tempo = { TempoState.reset with current := 9000 } ∧
    ((after .beatCommit fed).beats.next.map (·.tempo)) = some 9000 ∧
    ((after .beatCommit fed).clicks.lane 3).starts = [⟨31600, .click, 0, 10, 34000 * 65536⟩] ∧
    (tget (after .beatCommit fed).overlay.flashes 1).target = some ⟨31600, false, 34000 * 65536⟩ ∧
    (tget (after .beatCommit fed).overlay.flashes 0).target = none :=
  ⟨commit_due rfl (by decide) rfl rfl, by decide +kernel, fun r h => by cases h; decide, by decide +kernel⟩

/-- The last beat of bar 20, with a vamp stack. -/
def vamping (l : List Vamp) : State := { due 4 with beats := { (due 4).beats with vamps := l } }
def begun (s : State) : Option (Int × Nat × Bool × Bool) :=
  (after .beatCommit s).beats.next.map fun b => (b.bar, b.beat, b.vampLoop, b.lastPass)
def vampAt (k : VampKind) (last : Nat) (passes : Option Nat) (pass : Nat) (released : Bool) : Vamp :=
  ⟨k, 19, 1, last, passes, pass, released⟩
theorem witness_MusicBarBegun : CommitDue (34000 * 65536) (due 4) ∧ (due 4).beats.latest = some (beatOf 4) ∧
    (due 4).beats.meter ≤ (beatOf 4).beat ∧ (due 4).beats.discardsNext = false ∧ (due 4).beats.firstBarDue = false ∧
    (due 4).beats.pushes = [] :=
  ⟨commit_due rfl (by decide) rfl rfl, rfl, by decide, rfl, rfl, rfl⟩
theorem witness_MusicBarBegun_vamps : [due 4, vamping [vampAt .opened 21 none 1 false],
      vamping [vampAt .opened 20 none 255 false], vamping [vampAt .repeated 20 (some 3) 2 false],
      vamping [vampAt .repeated 20 (some 3) 3 false],
      vamping [vampAt .opened 20 none 1 true, vampAt .opened 21 none 1 false]].map begun =
    [some (21, 1, false, false), some (21, 1, false, false), some (19, 1, true, false), some (19, 1, true, true),
      some (21, 1, false, false), some (21, 1, false, false)] := by decide +kernel

/-- A click that has just started, with a count-in left and the meter 4. -/
def starting (left : Nat) : State :=
  { due 4 with beats := { (due 4).beats with
      click := .countIn, current := none, countInLeft := left, firstBarDue := true, startBar := 9, pushes := [⟨.opened, 2, none⟩] } }
theorem witness_FirstBarsBegun : CommitDue (34000 * 65536) (starting 1) ∧ CommitDue (34000 * 65536) (starting 0) ∧
    (starting 1).beats.latest = none ∧ (starting 1).beats.discardsNext = false ∧ (starting 1).beats.firstBarDue = true ∧
    begun (starting 1) = some (-1, 1, false, false) ∧ begun (starting 0) = some (9, 1, false, false) ∧
    (after .beatCommit (starting 0)).beats.vamps = [⟨.opened, 9, 2, 10, none, 1, false⟩] ∧
    (after .beatCommit (starting 0)).beats.click = .running :=
  ⟨commit_due rfl (by decide) rfl rfl, commit_due rfl (by decide) rfl rfl, by decide +kernel⟩

/-- A push at a bar that is not the first, onto an empty stack and onto a full one. -/
def pushing (l : List Vamp) : State := { vamping l with beats := { (vamping l).beats with pushes := [⟨.opened, 2, none⟩] } }
theorem witness_PushesMade : CommitDue (34000 * 65536) (pushing []) ∧ (pushing []).beats.firstBarDue = false ∧
    (after .beatCommit (pushing [])).beats.vamps = [⟨.opened, 21, 2, 22, none, 1, false⟩] ∧
    (after .beatCommit (pushing [])).beats.overflow = false ∧
    (after .beatCommit (pushing (List.replicate 4 (vampAt .opened 21 none 1 false)))).beats.vamps.length = 4 ∧
    (after .beatCommit (pushing (List.replicate 4 (vampAt .opened 21 none 1 false)))).beats.overflow = true ∧
    ((after .beatCommit (pushing (List.replicate 4 (vampAt .opened 21 none 1 false)))).port 1).pendingSet &&& 0x80 = 0x80 :=
  ⟨commit_due rfl (by decide) rfl rfl, by decide +kernel⟩

/-- FINISHING: the bar start after the last bar due, and the last beat run out. -/
def finishing (o : Option Nat) : State := { due 4 with beats := { (due 4).beats with click := .finishing, nextOnset := o } }
theorem witness_RunOfBeatsEnds : (finishing (some (34000 * 65536))).beats.lastBarToBegin = false ∧
    (after .beatCommit (finishing (some (34000 * 65536)))).beats.nextOnset = none ∧
    (after .beatCommit { finishing (some (34000 * 65536)) with beats :=
      { (finishing (some (34000 * 65536))).beats with current := none, next := some (beatOf 4) } }).beats.current = some (beatOf 4) ∧
    (clockAt 34000 (finishing none)).pointer.armed = none ∧ NothingRaised (clockAt 34000 (finishing none)) ∧
    (after .finishingEnd (clockAt 34000 (finishing none))).beats.click = .idle ∧
    (after .finishingEnd (clockAt 33999 (finishing none))).beats.click = .finishing ∧
    (after .beatOnset (clockAt 34000 (after .beatCommit (due 3)))).beats.next = none ∧
    (after .beatOnset (clockAt 33999 (after .beatCommit (due 3)))).beats.next.isSome = true :=
  ⟨rfl, by decide +kernel, by decide +kernel, rfl, nothing_raised rfl, by decide +kernel⟩

theorem witness_ReleaseEndsAnOpenVamp : Free rq State.reset ∧ ¬ FromRole .md rq State.reset ∧
    Free rq (held .md (vamping [openVamp 1 false])) ∧ FromRole .md rq (held .md (vamping [openVamp 1 false])) ∧
    code (after (.release rq []) (held .md (vamping [openVamp 1 false]))) = some .ok ∧
    (after (.release rq []) (held .md (vamping [openVamp 1 false]))).beats.vamps = [openVamp 1 true] ∧
    code (after (.release rq []) (held .md (vamping [openVamp 1 true]))) = some .ok ∧
    code (after (.release rq []) (held .md (vamping [repeatVamp 1]))) = some .noVamp ∧
    code (after (.release rq []) (held .md (vamping []))) = some .noVamp ∧
    code (after (.release rq []) (held .sm (vamping [openVamp 1 false]))) = some .noRight :=
  ⟨rfl, by unfold FromRole; decide, (held_ready _ _).1, (held_ready _ _).2, by decide +kernel⟩

/-- A slot whose deferred change has no force bars left, and one with a bar left, at a bar-start commit. -/
def deferred (bars : Nat) : State :=
  bound { readyRig with sustain := .down, pendingChange := some ⟨⟨7, 4, 2⟩, .cue, .atRelease bars⟩ } (due 4)
def bannered (bars taken : Nat) : State := { due 4 with overlay := { (due 4).overlay with banner := some ⟨[], bars, taken⟩ } }
theorem witness_BarStartOutcomes : CommitDue (34000 * 65536) (deferred 0) ∧ CommitDue (34000 * 65536) (bannered 1 0) ∧
    (deferred 0).beats.barStartNext = true ∧ (deferred 0).beats.discardsNext = false ∧
    (deferred 0).stops.state = .clear ∧
    ((deferred 0).rig 2).state = .ready ∧ ((deferred 0).rig 2).boundPort = some 5 ∧
    (∀ j : Slot, j ≠ 2 → ((deferred 0).rig j).boundPort ≠ some 5) ∧
    ((after (.forceDue 2) (deferred 0)).rig 2).state = .changing ∧
    ((after (.forceDue 2) (deferred 1)).rig 2).state = .ready ∧
    (after .cueBannerExpiry (bannered 1 0)).overlay.banner = none ∧
    (after .beatCommit (bannered 2 0)).overlay.banner = some ⟨[], 1, 0⟩ ∧
    (after .cueBannerExpiry (bannered 2 0)).beats.next = none ∧
    (after .beatCommit (bannered 1 29200)).overlay.banner = some ⟨[], 1, 29200⟩ :=
  ⟨commit_due rfl (by decide) rfl rfl, commit_due rfl (by decide) rfl rfl, by decide +kernel⟩

/-- A banner at a commit inside a bar. -/
def midBar : State := { bannered 1 0 with beats := (due 3).beats }
theorem witness_NoBannerExpiry : midBar.beats.barStartNext = false ∧ (∀ p, midBar.beats.latest = some p → 1 ≤ p.beat) ∧
    midBar.pointer.armed = none ∧ NothingRaised midBar ∧ midBar.commitDue = true ∧
    (after .cueBannerExpiry midBar).overlay.banner = some ⟨[], 1, 0⟩ :=
  ⟨rfl, fun p h => by cases h; decide, rfl, nothing_raised rfl, by decide +kernel⟩

/-- A change with no force bars left before the commit, inside a bar, and at the bar start that FINISHING discards. -/
theorem witness_NoForceDue : (∀ o, (clockAt 29199 (deferred 0)).beats.nextOnset = some o → 29199 + 4800 < o / 65536) ∧
    ((after (.forceDue 2) (clockAt 29199 (deferred 0))).rig 2).state = .ready ∧
    (bound readyRig (due 3)).beats.barStartNext = false ∧
    ((after (.forceDue 2) { deferred 0 with beats := (due 3).beats }).rig 2).state = .ready ∧
    (finishing (some (34000 * 65536))).beats.discardsNext = true ∧
    ((after (.forceDue 2) { deferred 0 with beats := (finishing (some (34000 * 65536))).beats }).rig 2).state = .ready :=
  ⟨fun o h => by cases h; decide, by decide +kernel⟩

/-! ## Witnesses: click lanes -/

/-- Lane 3 with a start of a voice at sample 100. -/
def listedStart (v : VoiceKind) (c : ClickState) (now : Nat) : State :=
  clockAt now { State.reset with
    beats := { BeatState.reset with click := c }
    clicks := ClickGen.reset.setLane 3 { Lane.reset with starts := [⟨100, v, 5, 2, 0⟩] } }
def lane3 (c : Instr) (s : State) : Lane := (after c s).clicks.lane 3
theorem witness_VoicesStartAndEnd :
    (lane3 (.voiceStart 3) (listedStart .click .running 100)).clickVoice = some ⟨5, 2, 0⟩ ∧
    (lane3 (.voiceStart 3) (listedStart .count .countIn 100)).countVoicePlaying = some ⟨5, 2, 0⟩ ∧
    (lane3 (.voiceStart 3) (listedStart .count .running 100)).countVoicePlaying = none ∧
    (lane3 (.voiceStart 3) (listedStart .click .idle 100)).starts = [] ∧
    (lane3 (.voiceStart 3) (listedStart .click .running 99)).starts = [⟨100, .click, 5, 2, 0⟩] ∧
    ((after (.voiceEnd 0 .click false) playing).clicks.lane 0).clickVoice = none ∧
    (after (.voiceEnd 0 .click false) playing).time.clock = 1 ∧
    (after (.voiceEnd 0 .count false) playing).time.clock = 0 := by decide +kernel

/-- A lane field of lane 15, written by PROG. -/
def fieldSet (f : LaneField) (v : List Byte) (s : State) : State := after (.laneFieldWrite rq f 15 v) (held .prog s)
theorem witness_LaneItemsWritten : ((fieldSet .subdivision [6] State.reset).clicks.lane 15).subdivision = 6 ∧
    code (fieldSet .subdivision [5] State.reset) = some .range ∧ code (fieldSet .accent [3] State.reset) = some .range ∧
    code (fieldSet .accent [2] State.reset) = some .ok ∧ code (fieldSet .soundSet [4] State.reset) = some .range ∧
    ((fieldSet .soundSet [3] State.reset).clicks.lane 15).soundSet = 3 ∧
    code (fieldSet .enabled [2] State.reset) = some .range ∧
    ((fieldSet .countVoice [1] State.reset).clicks.lane 15).countVoice = true ∧
    ((fieldSet .enabled [1] State.reset).clicks.lane 15).enabled = true ∧
    ((fieldSet .lead [0x12, 0xC1] State.reset).clicks.lane 15).lead = 4800 ∧
    code (fieldSet .lead [0x12, 0xC0] State.reset) = some .ok ∧
    code (fieldSet .lead [0, 0] (onAir State.reset)) = some .frozen ∧
    code (after (.laneLevelWrite rq 15 [64]) (held .prog State.reset)) = some .ok ∧
    code (after (.soundSetWrite rq 27 [1, 16]) (held .prog State.reset)) = some .range ∧
    tget (after (.soundSetWrite rq 27 [1, 15]) (held .prog State.reset)).clicks.roles 27 = some 15 ∧
    code (after (.soundSetWrite rq 27 [0, 0]) (held .prog State.reset)) = some .ok := by decide +kernel

theorem witness_CountersReset :
    code (after (.clipCounterReset rq 15 [0, 1]) (held .prog State.reset)) = some .range ∧
    code (after (.rigCounterReset rq .timeout 7 [1, 0]) (held .prog State.reset)) = some .range ∧
    code (after (.clipCounterReset rq 15 [0, 0]) (held .prog State.reset)) = some .ok ∧
    code (after (.cameraCounterReset rq .drop 1 [0, 0]) (held .prog State.reset)) = some .ok ∧
    code (after (.displacedCountReset rq 0 [0, 0]) (held .prog State.reset)) = some .ok ∧
    code (after (.displacedCountReset rq 0 [0, 0]) (held .sm State.reset)) = some .ok ∧
    code (after (.clipCounterReset rq 15 [0, 0]) (held .foh State.reset)) = some .ok ∧
    ((after (.rigCounterReset rq .superseded 2 [0, 0])
      (held .prog (bound { readyRig with superseded := 9 } State.reset))).rig 2).superseded = 0 ∧
    ((after (.badFrameCountReset rq 3 [0, 0])
      (held .prog (State.reset.setPort 3 { DeskPortRec.reset with badFrames := 9 }))).port 3).badFrames = 0 := by
  decide +kernel

/-- The clip memory and the directory are in their canonical form after reset. -/
theorem clips_reset (s : State) (h : s.clicks = ClickGen.reset) : ClipInv s := by
  refine ⟨by rw [h]; decide, fun n c e => ?_, fun m n c d _ e _ => ?_⟩ <;>
    (rw [h] at e; simp [ClickGen.reset] at e)

/-- Clip 0 of 100 samples at address 0. -/
def defined_ : State := { State.reset with clicks := { ClickGen.reset with directory := tput ClickGen.reset.directory 0 (some ⟨0, 100⟩) } }
theorem witness_ClipsStored : ClipInv (held .prog State.reset) ∧ ClipInv (held .prog (onAir State.reset)) ∧
    beBytes 2 65535 ++ [(5 : Sample)].flatMap sampleBytes = [0xFF, 0xFF, 0, 0, 5] ∧
    ClipMem.read (after (.clipWrite rq [0xFF, 0xFF, 0, 0, 5]) (held .prog State.reset)).clicks.memory 65535 = 5 ∧
    code (after (.clipWrite rq [0xFF, 0xFF, 0, 0, 5, 0, 0, 5]) (held .prog State.reset)) = some .range ∧
    code (after (.clipWrite rq [0xFF, 0xFF, 0, 0, 5]) (held .prog (onAir State.reset))) = some .frozen ∧
    code (after (.clipDefine rq [15, 0xE0, 0x00, 0x20, 0x00]) (held .prog State.reset)) = some .ok ∧
    code (after (.clipDefine rq [15, 0xE0, 0x01, 0x20, 0x00]) (held .prog State.reset)) = some .range ∧
    code (after (.clipDefine rq [15, 0, 0, 0x20, 0x01]) (held .prog State.reset)) = some .range ∧
    code (after (.clipDefine rq [16, 0, 0, 0, 1]) (held .prog State.reset)) = some .range ∧
    code (after (.clipDefine rq [15, 0, 99, 0, 1]) (held .prog defined_)) = some .overlap ∧
    code (after (.clipDefine rq [15, 0, 100, 0, 1]) (held .prog defined_)) = some .ok ∧
    tget (after (.clipDefine rq [0, 0, 0, 0, 0]) (held .prog defined_)).clicks.directory 0 = none :=
  ⟨clips_reset _ rfl, clips_reset _ rfl, by decide +kernel⟩

/-! ## Witnesses: the cue list -/

/-- A cue with the given change slots, and its bytes in a CUE INSERT. -/
def changesAt (n : Nat) (slots : List Nat) : Cue := { cue n with changes := slots.map fun k => entry k ⟨1, 2, 3⟩ none }
def onList (l : List Cue) : State := held .prog (listed l State.reset)
def numbers (s : State) : List Nat := s.tables.cues.map (·.number)
theorem witness_CueInserted : payloadCue (cueBytes (changesAt 20 [5, 2])) = some (changesAt 20 [5, 2]) ∧
    (changesAt 20 [5, 2]).valid = true ∧ (changesAt 0 []).valid = false ∧ (changesAt 99999 []).valid = true ∧
    (changesAt 100000 []).valid = false ∧
    code (after (.cueInsert rq (cueBytes (cue 20))) (held .prog (onAir State.reset))) = some .frozen ∧
    code (after (.cueInsert rq (cueBytes (cue 0))) (onList [])) = some .range ∧
    code (after (.cueInsert rq (cueBytes (cue 20))) (onList [cue 20])) = some .duplicate ∧
    (after (.cueInsert rq (cueBytes (changesAt 20 [5, 2]))) (onList [cue 10, cue 30])).tables.cues =
      [cue 10, changesAt 20 [2, 5], cue 30] := by decide +kernel

/-- 1,000 cues, and 500 cues of 8 changes each. -/
def thousand : List Cue := (List.range 1000).map fun i => cue (i + 1)
def pooled : List Cue := (List.range 500).map fun i => changesAt (i + 1) [0, 1, 2, 3, 4, 5, 6, 7]
theorem witness_CueListFull : thousand.length = 1000 ∧ poolUsed pooled = 4000 ∧
    code (after (.cueInsert rq (cueBytes (cue 2000))) (onList thousand)) = some .full ∧
    code (after (.cueInsert rq (cueBytes (changesAt 2000 [1]))) (onList pooled)) = some .poolFull ∧
    code (after (.cueInsert rq (cueBytes (cue 2000))) (onList pooled)) = some .ok ∧
    code (after (.cueReplace rq (cueBytes (changesAt 500 [0, 1, 2, 3, 4, 5, 6, 7]))) (onList pooled)) = some .ok ∧
    code (after (.cueReplace rq (cueBytes (changesAt 500 [0, 1]))) (onList (pooled ++ [cue 501]))) = some .ok ∧
    code (after (.cueReplace rq (cueBytes (changesAt 501 [0]))) (onList (pooled ++ [cue 501]))) = some .poolFull := by
  decide +kernel

theorem witness_CuesReplacedAndDeleted :
    code (after (.cueReplace rq (cueBytes (cue 20))) (held .prog (onAir State.reset))) = some .frozen ∧
    code (after (.cueReplace rq (cueBytes (cue 0))) (onList [])) = some .range ∧
    code (after (.cueReplace rq (cueBytes (cue 20))) (onList [cue 10])) = some .noCue ∧
    (after (.cueReplace rq (cueBytes (changesAt 20 [5, 2]))) (onList [cue 10, cue 20, cue 30])).tables.cues =
      [cue 10, changesAt 20 [2, 5], cue 30] ∧
    numbers (after (.cueDelete rq [0, 0, 0, 20]) (onList [cue 10, cue 20, cue 30])) = [10, 30] ∧
    code (after (.cueDelete rq [0, 0, 0, 21]) (onList [cue 10, cue 20])) = some .noCue ∧
    code (after (.cueDelete rq [0, 0, 0, 20]) (held .prog (onAir State.reset))) = some .frozen ∧
    numbers (after (.tableClear rq []) (onList [cue 10, cue 20])) = [] ∧
    code (after (.tableClear rq []) (held .prog (onAir State.reset))) = some .frozen := by decide +kernel

/-- AT and AFTER on a list of 10 and 30, at and beside its numbers, and past 99,999 (0x01869F). -/
def readAt (n₁ n₀ d : Byte) : State := after (.cueRead rq [0, 0, n₁, n₀, d]) (onList [cue 10, cue 30])
theorem witness_CuesRead : cuesRise (onList [cue 10, cue 30]).tables.cues ∧ Free rq (onList [cue 10, cue 30]) ∧
    value (readAt 0 10 0) = some (cueBytes (cue 10)) ∧ code (readAt 0 11 0) = some .noCue ∧
    value (readAt 0 10 1) = some (cueBytes (cue 30)) ∧ value (readAt 0 0 1) = some (cueBytes (cue 10)) ∧
    code (readAt 0 30 1) = some .noCue ∧
    code (after (.cueRead rq [0, 1, 0x86, 0xA0, 1]) State.reset) = some .range ∧
    code (after (.cueRead rq [0, 1, 0x86, 0x9F, 1]) State.reset) = some .noCue ∧
    code (after (.chaseRead rq [0, 1, 0x86, 0xA0]) State.reset) = some .range ∧
    code (after (.chaseRead rq [0, 0, 0, 0]) State.reset) = some .ok ∧
    code (after (.chaseRead rq [0, 0, 0, 30]) (onList [cue 10, cue 30])) = some .ok ∧
    code (after (.chaseRead rq [0, 0, 0, 31]) (onList [cue 10, cue 30])) = some .noCue :=
  ⟨by simp [onList, held, listed, cuesRise, cue, State.setPort], rfl, by decide +kernel⟩

theorem witness_ChaseOfTheLastCue :
    chased.cues.take 1 ++ [{ cue 20 with changes := [entry 2 ⟨7, 3, 2⟩ none, entry 3 ⟨10, 1, 0⟩ none] }] = chased.cues.take 2 ∧
    (∀ x ∈ chased.cues.take 1, x.number < (cue 20).number) := by decide +kernel

/-- A setting of slot 7 and the name of slot 7. -/
def setting (f : SlotSetting) (v : List Byte) (s : State) : State := after (.rigSlotSettingWrite rq f 7 v) (held .prog s)
def named (n : Nat) (t : Text) (s : State) : State := after (.slotNameWrite rq 7 (byteOf n :: t)) (held .prog s)
def keys : State := { State.reset with rigs := { State.reset.rigs with slots := tput State.reset.rigs.slots 2 { Rig.reset with name := chars "KEYS" } } }
theorem witness_SlotItemsWritten : code (setting .required [1] (onAir State.reset)) = some .frozen ∧
    ((setting .required [1] State.reset).tables.setting 7).required = true ∧
    code (setting .cover [2] State.reset) = some .range ∧
    ((setting .safe [127, 127, 15] State.reset).tables.setting 7).safe = ⟨127, 127, 15⟩ ∧
    code (setting .safe [128, 0, 0] State.reset) = some .range ∧
    code (setting .safe [0, 128, 0] State.reset) = some .range ∧
    code (setting .safe [0, 0, 16] State.reset) = some .range ∧
    ((setting .opening [1, 2, 3, 1, 4, 5, 6] State.reset).tables.setting 7).opening = ⟨⟨1, 2, 3⟩, some ⟨4, 5, 6⟩⟩ ∧
    ((setting .opening [1, 2, 3, 0, 0, 0, 0] State.reset).tables.setting 7).opening = ⟨⟨1, 2, 3⟩, none⟩ ∧
    code (setting .opening [1, 2, 3, 1, 4, 5, 16] State.reset) = some .range ∧
    code (setting .opening [128, 2, 3, 0, 0, 0, 0] State.reset) = some .range ∧
    code (named 1 [0x41] (onAir State.reset)) = some .frozen ∧
    code (named 17 (List.replicate 17 0x41) State.reset) = some .range ∧
    code (named 16 (List.replicate 16 0x41) State.reset) = some .ok ∧ code (named 1 [0x7F] State.reset) = some .range ∧
    code (named 4 (chars "KEYS") keys) = some .duplicate ∧ code (named 0 [] keys) = some .ok ∧
    ((named 4 (chars "KEYS") State.reset).rig 7).name = chars "KEYS" := by decide +kernel

/-! ## Witnesses: the session and the pointer -/

/-- A session in SHOW on a list, with the standing cue, the armed cue and the click given, from a port that holds SM. -/
def showing (l : List Cue) (x : Standing) (armed : Option Nat) (s : State) : State :=
  held .sm (onAir (listed l { s with pointer := { Pointer.reset with standing := x, armed := armed } }))
theorem witness_ShowBegins :
    code (after (.beginShow rq []) (held .sm (onAir State.reset))) = some .busy ∧
    code (after (.beginShow rq []) (held .sm State.reset)) = some .notReady ∧
    NothingRaised (held .sm (listed [cue 10] (bound readyRig State.reset))) ∧
    (∀ k, ((held .sm (listed [cue 10] (bound readyRig State.reset))).rig k).state ≠ .fault) ∧
    (∀ j : Slot, j ≠ 2 → ((held .sm (listed [cue 10] (bound readyRig State.reset))).rig j).boundPort ≠ some 5) ∧
    (after (.beginShow rq []) (held .sm (listed [cue 10] (bound readyRig State.reset)))).pointer.standing = .cue 10 ∧
    ((after (.beginShow rq []) (held .sm (listed [cue 10] (bound readyRig State.reset)))).rig 2).state = .changing :=
  ⟨by decide +kernel, by decide +kernel, nothing_raised rfl, by decide +kernel⟩

/-- The stop source given is raised, alone. -/
def raise1 (i : StopSource) (s : State) : State := { s with stops := { s.stops with raised := tput s.stops.raised i.index true } }
theorem witness_ShowBeginsRaised :
    (∀ j, (held .sm (listed [cue 10] (raise1 .relay State.reset))).stops.isRaised j = decide (j = .relay)) ∧
    (after (.beginShow rq []) (held .sm (listed [cue 10] (raise1 .relay State.reset)))).stops.stack = [record .relay 15 false] ∧
    (after (.beginShow rq []) (held .sm (listed [cue 10] (raise1 .relay State.reset)))).stops.state = .stopping :=
  ⟨fun j => by cases j <;> decide +kernel, by decide +kernel⟩

theorem witness_ShowEnds : code (after (.endShow rq []) (held .sm State.reset)) = some .setup ∧
    code (after (.endShow rq []) (held .sm (onAir (due 3)))) = some .busy ∧
    [StopState.stopping, .stopped, .restoring, .resumeArmed, .clear, .awaitResume, .halted].map
      (fun x => code (after (.endShow rq []) (held .sm (onAir (stopped x [] State.reset))))) =
      [some .busy, some .busy, some .busy, some .busy, some .ok, some .ok, some .ok] ∧
    (after (.endShow rq []) (held .sm (onAir (stopped .halted [] State.reset)))).tables.session = .setup ∧
    (after (.endShow rq []) (held .sm (onAir { State.reset with beats := { BeatState.reset with countInLeft := 1 } }))).beats.countInLeft = 0 := by
  decide +kernel

/-- Cues 10 and 20, the first with the given parts. -/
def called (c : Cue) (x : Standing) (armed : Option Nat) (s : State) : State := after (.go rq []) (showing [c, cue 20] x armed s)
def nextBar : Cue := { cue 10 with boundary := .nextBar }
theorem witness_GoAnswers : code (after (.go rq []) (held .sm State.reset)) = some .setup ∧
    code (called (cue 10) (.cue 10) none (stopped .awaitResume [] State.reset)) = some .stopped ∧
    code (called (cue 10) .ended none State.reset) = some .ended ∧
    code (called nextBar (.cue 10) none (due 3)) = some .ok ∧ (called nextBar (.cue 10) none (due 3)).pointer.armed = some 10 ∧
    (called nextBar (.cue 10) none (due 3)).pointer.current = none := by decide +kernel

/-- A take of cue 10 from a port holding SM: armed (the boundary waived), IMMEDIATE with the click running, with the
click IDLE; its changes sent to a READY rig, and a rig in FAULT that takes none. -/
def withChange : Cue := { changesAt 10 [2] with meter := some 3, scoreBar := some 7, tempo := .ramp 9000 8 }
theorem witness_CueTakenByGo :
    (called nextBar (.cue 10) (some 10) (due 3)).pointer = ⟨.cue 20, some 10, none, false, false⟩ ∧
    (called (cue 10) (.cue 10) none (due 3)).pointer.standing = .cue 20 ∧
    (called nextBar (.cue 10) none State.reset).pointer.standing = .cue 20 ∧
    (called withChange (.cue 10) none State.reset).tempo.ramp = some ⟨12000, 9000, 8, 0⟩ ∧
    (called withChange (.cue 10) none State.reset).beats.pendingMeter = some 3 ∧
    ((called withChange (.cue 10) none (bound readyRig State.reset)).rig 2).inFlight = some ⟨⟨1, 2, 3⟩, .cue, true, 0, false⟩ ∧
    ((called withChange (.cue 10) none (bound { readyRig with state := .fault } State.reset)).rig 2).inFlight = none := by
  decide +kernel

/-- A take with chase-pending set: a RESTORE of the chase to a READY rig, and nothing to a slot that is ABSENT. -/
def chaseTaken (s : State) : State :=
  let s := showing [changesAt 10 [2], cue 20] (.cue 10) none s
  after (.go rq []) { s with pointer := { s.pointer with chasePending := true } }
theorem witness_ChaseTaken : (chaseTaken State.reset).pointer = ⟨.cue 20, some 10, none, false, false⟩ ∧
    ((chaseTaken (bound readyRig State.reset)).rig 2).inFlight = some ⟨⟨1, 2, 3⟩, .restore, true, 0, false⟩ ∧
    (chaseTaken (bound readyRig State.reset)).rig 3 = Rig.reset := by decide +kernel

def starts (n : Nat) : Cue := { cue 10 with tempo := .fixed 6000, click := .start n, scoreBar := some 9 }
theorem witness_CueStartsTheClick : NothingRaised (showing [starts 2] (.cue 10) (some 10) State.reset) ∧
    ((called (starts 2) (.cue 10) (some 10) State.reset).beats.next.map fun b => (b.onset, b.bar, b.period)) =
      some (4800 * 65536, -2, 48000 * 65536) ∧
    (called (starts 2) (.cue 10) (some 10) State.reset).beats.click = .countIn ∧
    ((called (starts 0) (.cue 10) (some 10) State.reset).beats.next.map (·.bar)) = some 9 ∧
    (called (starts 0) (.cue 10) (some 10) State.reset).beats.click = .running ∧
    (called (starts 2) (.cue 10) (some 10) (finishing (some (34000 * 65536)))).pointer.startIgnored = true ∧
    (called (starts 2) (.cue 10) (some 10) (due 3)).pointer.startIgnored = false ∧
    (called (starts 2) (.cue 10) (some 10) (due 3)).beats.click = .running :=
  ⟨nothing_raised rfl, by decide +kernel⟩

/-- START from IDLE by the call of the standing cue; an armed cue at a bar-start commit, inside a bar, and outside CLEAR;
and at the end of FINISHING. -/
def armedAt (c : Cue) (s : State) : State := showing [c, cue 20] (.cue 10) (some 10) s
def committed (c : Cue) (s : State) : State := after .beatCommit (armedAt c s)
def slowed (a : ClickAction) : Cue := { nextBar with tempo := .fixed 6000, meter := some 3, click := a }
theorem witness_CueStartsFromIdle : (called (starts 2) (.cue 10) none State.reset).beats.click = .countIn ∧
    ((called (starts 2) (.cue 10) none State.reset).beats.next.map fun b => (b.onset, b.bar)) = some (4800 * 65536, -2) ∧
    (called (starts 2) (.cue 10) none State.reset).pointer = ⟨.cue 20, some 10, none, false, false⟩ := by decide +kernel
theorem witness_ArmedCueTaken : NothingRaised (armedAt (slowed .stop) (due 4)) ∧
    (armedAt (slowed .stop) (due 4)).beats.discardsNext = false ∧ (armedAt (slowed .stop) (due 4)).beats.barStartNext = true ∧
    (committed (slowed .stop) (due 4)).pointer.current = some 10 ∧
    ((committed (slowed .stop) (due 4)).beats.next.map fun b => (b.onset, b.tempo, b.beat)) = some (34000 * 65536, 6000, 1) ∧
    (committed (slowed .stop) (due 4)).beats.click = .finishing ∧ (committed (slowed .stop) (due 4)).beats.meter = 3 ∧
    (committed (slowed .cut) (due 4)).beats.click = .idle ∧ (committed (slowed .cut) (due 4)).beats.nextOnset = none ∧
    (committed (slowed .stop) (due 3)).pointer.armed = some 10 ∧
    (committed (slowed .stop) (inState .awaitResume (due 4))).pointer.armed = some 10 ∧
    (committed (slowed .stop) (inState .awaitResume (due 4))).beats.next.isSome = true :=
  ⟨nothing_raised rfl, by decide +kernel⟩
theorem witness_ArmedCueAtTheEnd : NothingRaised (armedAt (starts 2) (clockAt 34000 (finishing none))) ∧
    (after .finishingEnd (armedAt (starts 2) (clockAt 34000 (finishing none)))).beats.click = .countIn ∧
    (after .finishingEnd (armedAt nextBar (clockAt 34000 (finishing none)))).beats.click = .idle ∧
    (after .finishingEnd (armedAt nextBar (clockAt 34000 (finishing none)))).pointer.current = some 10 :=
  ⟨nothing_raised rfl, by decide +kernel⟩

/-- A double GO on a cue that stops or cuts the click, with no commit due. -/
def early : State := clockAt 29199 (due 3)
def vampSpec : VampSpec := ⟨.opened, 2, none⟩
theorem witness_CueEndsTheClick : (showing [] (.cue 10) (some 10) early).commitDue = false ∧
    NothingRaised (showing [] (.cue 10) (some 10) early) ∧
    (called { cue 10 with click := .stop, vamp := some vampSpec } (.cue 10) (some 10) early).beats.click = .finishing ∧
    (called { cue 10 with click := .stop, vamp := some vampSpec } (.cue 10) (some 10) early).beats.pushes = [vampSpec] ∧
    (called { cue 10 with click := .cut, vamp := some vampSpec } (.cue 10) (some 10) early).beats.click = .idle ∧
    (called { cue 10 with click := .cut, vamp := some vampSpec } (.cue 10) (some 10) early).beats.pushes = [vampSpec] :=
  ⟨by decide +kernel, nothing_raised rfl, by decide +kernel⟩

/-- BACK and JUMP on a list of 10, 20 and 30. -/
def backFrom (x : Standing) : State := after (.back rq []) (showing [cue 10, cue 20, cue 30] x (some 20) State.reset)
def jumpTo (a b c d : Byte) : State :=
  after (.jump rq [a, b, c, d]) (showing [cue 10, cue 20, cue 30] (.cue 10) (some 10) State.reset)
theorem witness_BackMovesTheStandingCue : cuesRise (showing [cue 10, cue 20, cue 30] .ended none State.reset).tables.cues ∧
    (backFrom .ended).pointer = ⟨.cue 30, none, none, false, false⟩ ∧ (backFrom (.cue 30)).pointer.standing = .cue 20 ∧
    code (backFrom (.cue 10)) = some .noCue ∧ code (after (.back rq []) State.reset) = some .noRight ∧
    code (after (.back rq []) (held .sm State.reset)) = some .setup ∧
    code (after (.back rq []) (showing [cue 10] (.cue 10) none (due 3))) = some .running :=
  ⟨by simp [showing, onAir, held, listed, cuesRise, cue, State.setPort], by decide +kernel⟩

theorem witness_JumpSetsTheStandingCue : (jumpTo 0 0 0 20).pointer = ⟨.cue 20, none, none, true, false⟩ ∧
    code (jumpTo 0 0 0 21) = some .noCue ∧ code (jumpTo 0 1 0x86 0xA0) = some .range ∧
    code (jumpTo 0 1 0x86 0x9F) = some .noCue ∧
    code (after (.jump rq [0, 0, 0, 20]) State.reset) = some .noRight ∧
    code (after (.jump rq [0, 0, 0, 20]) (held .sm State.reset)) = some .setup ∧
    code (after (.jump rq [0, 0, 0, 20]) (showing [cue 20] (.cue 20) none (due 3))) = some .running := by decide +kernel

/-! ## Witnesses: rigs -/

theorem bound_pair (r : Rig) : BoundPair 5 2 (bound r State.reset) := by
  refine ⟨by simp [bound, State.rigPort], by simp [bound, State.rig], fun q h => ?_, fun j h => ?_⟩
  · have h' : (5 : Fin 8) ≠ q := fun e => h e.symm
    simp [bound, State.rigPort, State.reset, Rigs.reset, RigPortRec.reset, tget_tput, h']
  · have h' : (2 : Fin 8) ≠ j := fun e => h e.symm
    simp [bound, State.rig, State.reset, Rigs.reset, Rig.reset, tget_tput, h']

theorem rigs_quiet (r : Rig) : RigsQuiet (bound r State.reset) :=
  ⟨nothing_raised rfl, .inl rfl, fun h => by simp [bound, State.reset, Tables.reset, State.inShow] at h⟩

/-- The rig of slot 2 after a command, and the state the command leaves from. -/
def slot2 (c : Instr) (s : State) : Rig := (after c s).rig 2
def waiting (k : ChangeKind) (d : Due) (r : Rig) : Rig := { r with pendingChange := some ⟨⟨7, 9, 2⟩, k, d⟩ }
theorem witness_StatusTaken : BoundPair 5 2 (bound readyRig State.reset) ∧
    slot2 (.status 5 .down 3) (bound readyRig State.reset) = { readyRig with boundPort := some 5, sustain := .down, held := 3 } ∧
    ((after (.status 6 .down 3) State.reset).rigPort 6).linkUp = true ∧
    (slot2 (.status 5 .up 0) (bound (waiting .cue (.atRelease 4) { readyRig with sustain := .down }) State.reset)).state = .changing ∧
    (slot2 (.status 5 .up 0) (inState .stopped
      (bound (waiting .cue (.atRelease 4) { readyRig with sustain := .down }) State.reset))).pendingChange =
      some ⟨⟨7, 9, 2⟩, .cue, .now⟩ ∧
    (slot2 (.status 5 .up 0) (bound (waiting .safe .now { changingRig with sustain := .down }) State.reset)).pendingChange =
      some ⟨⟨7, 9, 2⟩, .safe, .now⟩ :=
  ⟨bound_pair _, by decide +kernel⟩

theorem witness_DoneCompletesTheChange : BoundPair 5 2 (bound changingRig State.reset) ∧
    RigsQuiet (bound changingRig State.reset) ∧
    slot2 (.done 5 true) (bound changingRig State.reset) = { changingRig with boundPort := some 5 } ∧
    slot2 (.done 5 false) (bound changingRig State.reset) =
      { readyRig with boundPort := some 5, applied := some ⟨7, 4, 2⟩ } ∧
    (slot2 (.done 5 false) (bound (waiting .cue (.atRelease 4) changingRig) State.reset)).state = .ready ∧
    (slot2 (.done 5 false) (bound (waiting .cue .now changingRig) State.reset)).state = .changing ∧
    (slot2 (.done 5 false) (inState .stopped (bound (waiting .cue .now changingRig) State.reset))).state = .ready ∧
    (slot2 (.done 5 false) (inState .stopped (bound (waiting .safe .now changingRig) State.reset))).inFlight =
      some ⟨⟨7, 9, 2⟩, .safe, true, 0, false⟩ :=
  ⟨bound_pair _, rigs_quiet _, by decide +kernel⟩

theorem bound_pair_of {s : State} (r : Rig) (h : s.rigs = (bound r State.reset).rigs) : BoundPair 5 2 s := by
  obtain ⟨a, b, c, d⟩ := bound_pair r
  have port : ∀ q, s.rigPort q = (bound r State.reset).rigPort q := fun q => by simp only [State.rigPort, h]
  have slot : ∀ j, s.rig j = (bound r State.reset).rig j := fun j => by simp only [State.rig, h]
  exact ⟨by rw [port]; exact a, by rw [slot]; exact b, fun q n => by rw [port]; exact c q n,
    fun j n => by rw [slot]; exact d j n⟩

/-- A hard stop in STOPPING: slot 2 with a SELECT of 7/4/2 in flight and a safe patch, and the banner report come or not. -/
def arriving (safe : Patch) (reported : Bool) : State :=
  let s := onAir (bound changingRig State.reset)
  { s with
    tables := { s.tables with settings := tput s.tables.settings 2 { SlotSettings.reset with safe := safe } }
    stops := { Stops.reset with state := .stopping, stack := [record .smStop 14 false], topReported := reported } }
theorem witness_DoneArrives : BoundPair 5 2 (arriving ⟨7, 4, 2⟩ true) ∧ RigFaultTracked (arriving ⟨7, 4, 2⟩ true) ∧
    (arriving ⟨7, 4, 2⟩ true).stops.effective = ⟨.cut, .safe, .freeze⟩ ∧
    (after (.done 5 false) (arriving ⟨7, 4, 2⟩ true)).stops.state = .stopped ∧
    (after (.done 5 false) (arriving ⟨7, 4, 2⟩ false)).stops.state = .stopping ∧
    (after (.done 5 false) (arriving ⟨7, 4, 3⟩ true)).stops.state = .stopping ∧
    (after (.done 5 true) (arriving ⟨7, 4, 2⟩ true)).stops.state = .stopping :=
  ⟨bound_pair_of _ rfl, by unfold RigFaultTracked; decide +kernel, by decide +kernel⟩

/-- A restore under way: slot 2 in the restore set, its SELECT in flight, md_ready set. -/
def restoring (level : Nat) (r : Rig) : State :=
  onAir { bound r (inState .restoring State.reset) with
    stops := { Stops.reset with
      state := .restoring, levels := tput Stops.reset.levels StopSource.rigFault.index level }
    resume := { Resume.reset with target := some ⟨10, 0⟩, mdReady := true, restoreSet := [(2, ⟨7, 4, 2⟩)] } }
theorem restoring_meets (level : Nat) : BoundPair 5 2 (restoring level changingRig) ∧ Restoring 2 (restoring level changingRig) := by
  refine ⟨bound_pair_of _ rfl, nothing_raised rfl, rfl, .inl rfl, ?_, ?_⟩
  · show ∀ j, j ≠ 2 → ((bound changingRig State.reset).rig j).state ≠ .fault
    decide +kernel
  · intro j x h
    have none_ : ∀ j, ((bound changingRig State.reset).rig j).pendingChange = none := by decide +kernel
    exact nomatch (none_ j).symm.trans h
theorem witness_RestoresComplete :
    (after (.done 5 false) (restoring 5 changingRig)).resume.restoreSet = [] ∧
    (after (.done 5 false) (restoring 5 changingRig)).stops.state = .resumeArmed ∧
    (after (.done 5 true) (restoring 5 changingRig)).stops.state = .restoring ∧
    (after (.rigLineBreak 5) (restoring 5 changingRig)).stops.state = .resumeArmed ∧
    (after (.rigPresenceExpiry 2) (clockAt 28800 (restoring 5 changingRig))).stops.state = .resumeArmed ∧
    (after (.refused 5 false .busy) (restoring 0 changingRig)).stops.state = .resumeArmed ∧
    (after (.refused 5 false .busy) (restoring 5 changingRig)).stops.stack = [record .rigFault 5 false] ∧
    (after (.refused 5 false .busy) (restoring 5 changingRig)).resume.target = some ⟨10, 0⟩ ∧
    (after (.unbind rq [2]) (held .prog (restoring 5 changingRig))).stops.state = .resumeArmed := by decide +kernel

theorem witness_ChangeRefused :
    slot2 (.refused 5 false .busy) (bound (waiting .cue .now changingRig) State.reset) =
      { changingRig with boundPort := some 5, state := .fault, fault := some .refused, inFlight := none, refusals := 1 } ∧
    slot2 (.refused 5 true .busy) (bound changingRig State.reset) = { changingRig with boundPort := some 5 } ∧
    (after (.refused 5 false .noProgram) (onAir (bound changingRig State.reset))).stops.isRaised .rigFault = true ∧
    (after (.refused 5 false .noProgram) (bound changingRig State.reset)).stops.isRaised .rigFault = false := by decide +kernel

/-- A change sent at sample 0, at the last sample before its timer and at its expiry, once and resent. -/
def timed (now : Nat) (resent : Bool) : State := clockAt now (bound { changingRig with inFlight := some (flying true resent) } State.reset)
theorem witness_ReplyTimerExpires : slot2 (.replyTimeout 2) (timed 1199 false) = (timed 1199 false).rig 2 ∧
    (slot2 (.replyTimeout 2) (timed 1200 false)).inFlight = some { flying true true with sent := 1200 } ∧
    ((after (.replyTimeout 2) (timed 1200 false)).rigPort 5).lastSelect = some (⟨7, 4, 2⟩, true) ∧
    (slot2 (.replyTimeout 2) (timed 1200 true)).fault = some .timeout ∧
    (slot2 (.replyTimeout 2) (timed 1200 true)).timeouts = 1 := by decide +kernel

def requiredAt (s : State) : State :=
  onAir { s with tables := { s.tables with settings := tput s.tables.settings 2 { SlotSettings.reset with required := true } } }
theorem witness_RigsLost : slot2 (.rigPresenceExpiry 2) (clockAt 28799 (bound readyRig State.reset)) = { readyRig with boundPort := some 5 } ∧
    (slot2 (.rigPresenceExpiry 2) (clockAt 28800 (bound readyRig State.reset))).fault = some .lost ∧
    ((after (.rigLineBreak 5) (bound readyRig State.reset)).rigPort 5).boundSlot = none ∧
    (after (.rigLineBreak 5) (requiredAt (bound readyRig State.reset))).stops.isRaised .rigFault = true ∧
    (slot2 (.rigLineBreak 6) (bound readyRig State.reset)).state = .ready := by decide +kernel

/-- Port 3 of the desk and rig port 5 with bytes held in their receivers. -/
def heard (desk rig : List Byte) : State :=
  { State.reset.setPort 3 { DeskPortRec.reset with rx := desk } with rigs := { Rigs.reset with
      ports := tput Rigs.reset.ports 5 { RigPortRec.reset with rx := rig } } }
def rigChars (l : List LineChar) (s : State) : RigPortRec := (after (.rigInvalidMessage 5 l) s).rigPort 5
def deskChars (l : List Byte) (s : State) : DeskPortRec := (after (.deskBadFrame 3 (l.map .ok)) s).port 3

/-- An unknown kind, a damaged character with a message begun after it, a DONE inside an invalid message, whose sync byte
was held from before, and a run that ends nothing. -/
theorem witness_InvalidMessagesCounted : parseRig ([0x13, 0x02].map .ok) = .incomplete ∧
    parseRig ([.damaged, .ok 0x55] : List LineChar) = .incomplete ∧
    rigChars ([0x55, 0x13, 0x02].map .ok) State.reset = { RigPortRec.reset with invalidCount := 1 } ∧
    rigChars [.ok 0, .ok 0x55, .damaged, .ok 0x55] State.reset = { RigPortRec.reset with invalidCount := 1, rx := [0x55] } ∧
    (rigChars ((rigLine (RigMessage.done true).body).map .ok) (heard [] [0x55])).linkUp = true ∧
    (rigChars ((rigLine (RigMessage.done true).body).map .ok) (heard [] [0x55])).invalidCount = 1 ∧
    none ∉ (receiveMessages [] ([0x55, 0x03].map .ok)).ended ∧
    rigChars ([0x55, 0x03].map .ok) State.reset = RigPortRec.reset := by decide +kernel

/-- A kind byte that is none of TABLE 12-1 with a frame begun after it, a frame cut short by a start byte with the next
one begun or whole, its first bytes held from before, a count that is full, and a run that ends nothing. -/
theorem witness_BadCharactersCounted : FrameKind.ofByte 0x04 = none ∧ parseFrame ([0x7E, 0x01].map .ok) = .incomplete ∧
    deskChars [0x7E, 0x04, 0x7E, 0x01] State.reset = { DeskPortRec.reset with badFrames := 1, rx := [0x7E, 0x01] } ∧
    deskChars [4, 0x7D, 0x5E, 9, 0x7E, 0x01] (heard [0x7E, 0x01, 5, 6] []) =
      { DeskPortRec.reset with badFrames := 1, rx := [0x7E, 0x01] } ∧
    (deskChars (4 :: 9 :: (Frame.mk .request 8 0x23 []).line) (heard [0x7E, 0x01, 5, 6] [])).inProgress.map (·.tag) = some 8 ∧
    (deskChars (4 :: 9 :: (Frame.mk .request 8 0x23 []).line) (heard [0x7E, 0x01, 5, 6] [])).rx = [] ∧
    ((after (.deskBadFrame 3 ([0x7E, 0x04].map .ok)) (State.reset.setPort 3 { DeskPortRec.reset with badFrames := 65535 })).port 3).badFrames = 65535 ∧
    none ∉ (receiveFrames [] ([0x7E, 0x01].map .ok)).ended ∧ deskChars [0x7E, 0x01] State.reset = DeskPortRec.reset ∧
    ((after (.deskStrayFrame 3 ⟨.notice, 0, 0, []⟩) State.reset).port 3).active = true ∧
    ((after (.deskStrayFrame 3 ⟨.request, 0, 0, []⟩) State.reset).port 3).active = false := by decide +kernel

/-- A rig that announces itself to a slot of its name, held or free, and with a name of no slot. -/
theorem witness_AnnouncedRigsBound : isIdentity (chars "KEYS") = true ∧ RigsQuiet keys ∧
    (∀ j, (keys.rig j).boundPort ≠ some 5) ∧
    (∀ j : Slot, j ≠ 2 → (keys.rig j).name ≠ chars "KEYS") ∧
    (slot2 (.announce 5 (chars "KEYS")) keys).state = .ready ∧
    (slot2 (.announce 5 (chars "KEYS")) (onAir keys)).inFlight = some ⟨⟨0, 0, 0⟩, .restore, true, 0, false⟩ ∧
    ((after (.announce 5 (chars "GTR")) keys).rigPort 5).boundSlot = none ∧
    ((after (.announce 6 (chars "KEYS")) (bound { readyRig with name := chars "KEYS" } State.reset)).rigPort 6).duplicate = true :=
  ⟨by decide, ⟨nothing_raised rfl, .inl rfl, fun _ => by decide⟩, by decide +kernel⟩

/-- An ANNOUNCE on a bound port, of no slot's name and of the slot's own; and in the stop states. -/
def keyed : State := bound { readyRig with name := chars "KEYS" } State.reset
def answered (s : State) : Option (Patch × ChangeKind) := (slot2 (.announce 5 (chars "KEYS")) s).inFlight.map fun f => (f.patch, f.kind)
theorem witness_AnnouncedInEveryState : (slot2 (.announce 5 (chars "GTR")) keyed).state = .absent ∧
    ((after (.announce 5 (chars "GTR")) keyed).rigPort 5).boundSlot = none ∧
    (slot2 (.announce 5 (chars "KEYS")) keyed).applied = none ∧ (slot2 (.announce 5 (chars "KEYS")) keyed).state = .ready ∧
    [StopState.halted, .awaitResume, .restoring].map (fun x => (answered (onAir (inState x keys))).map (·.2)) =
      [some .safe, some .restore, some .restore] ∧
    (answered (onAir (stopped .stopped [record .smStop 14 false] keys))).map (·.2) = some .safe ∧
    (answered (onAir (stopped .stopped [record .clock 9 false] keys))).map (·.2) = some .restore ∧
    (firstOf 2 (onAir (inState .halted keys))).2 = .safe ∧
    (after (.announce 5 (chars "KEYS")) (onAir (inState .resumeArmed keys))).stops.state = .restoring ∧
    (after (.announce 5 (chars "KEYS")) (onAir (inState .resumeArmed keys))).resume.restoreSet = [(2, ⟨0, 0, 0⟩)] := by decide +kernel

/-- A slot in FAULT LOST, with RIG_FAULT raised. -/
def lostSlot : State :=
  held .prog (onAir (raise1 .rigFault { State.reset with rigs := { Rigs.reset with
    slots := tput Rigs.reset.slots 2 { Rig.reset with state := .fault, fault := some .lost } } }))
theorem witness_LostSlotUnbound : (lostSlot.rig 2).boundPort = none ∧ (∀ j : Slot, j ≠ 2 → (lostSlot.rig j).state ≠ .fault) ∧
    (slot2 (.unbind rq [2]) lostSlot).state = .absent ∧
    (after (.unbind rq [2]) lostSlot).stops.isRaised .rigFault = false ∧
    (slot2 (.bind rq [5, 2]) (held .prog (onAir State.reset))).inFlight = some ⟨⟨0, 0, 0⟩, .restore, true, 0, false⟩ := by
  decide +kernel

theorem witness_RigsBoundByProg : code (after (.bind rq [8, 0]) (held .prog State.reset)) = some .range ∧
    code (after (.bind rq [7, 8]) (held .prog State.reset)) = some .range ∧
    (slot2 (.bind rq [5, 2]) (held .prog State.reset)).state = .ready ∧
    code (after (.bind rq [4, 2]) (held .prog (bound readyRig State.reset))) = some .held ∧
    code (after (.unbind rq [8]) (held .prog State.reset)) = some .range ∧
    code (after (.unbind rq [7]) (held .prog State.reset)) = some .ok ∧
    (slot2 (.unbind rq [2]) (held .prog (bound readyRig State.reset))).state = .absent ∧
    ((after (.unbind rq [2]) (held .prog (bound readyRig State.reset))).rigPort 5).boundSlot = none := by decide +kernel

/-! ## Witnesses: overlays and pictures -/

/-- Monitor 0 with a field set, a latency and a beat to come at sample 34,000. -/
def overlaid (fields : BitVec 8) (latency now : Nat) (s : State) : OverlayRec :=
  tget (after .frameTick (clockAt now { s with picture := { Picture.reset with
    monitors := tput Picture.reset.monitors 0 { Monitor.reset with fields := fields, latency := latency } } })).overlay.records 0
def coming : State := after .beatCommit (due 3)
theorem witness_OverlayBuilt : (overlaid 0x3F 0 29200 coming).tempo = some 12000 ∧
    (overlaid 0x3B 0 29200 coming).tempo = none ∧
    (overlaid 0x01 4799 29200 coming).position = some ⟨20, 3, false⟩ ∧
    (overlaid 0x01 4800 29200 coming).position = some ⟨20, 4, false⟩ ∧ (overlaid 0x3E 0 29200 coming).position = none ∧
    (overlaid 0x02 0 0 { State.reset with
      pointer := { Pointer.reset with current := some 10 }, tables := { Tables.reset with cues := [cue 10] } }).cue =
      some (10, []) ∧
    (overlaid 0x08 0 29200 (vamping [repeatVamp 2])).count = .last ∧
    (overlaid 0x08 0 29200 (vamping [repeatVamp 1])).count = .vamp 1 ∧ (overlaid 0x08 0 29200 coming).count = .blank ∧
    (overlaid 0x20 0 0 (stopped .stopping [record .clock 9 false] State.reset)).banner = some (StopSource.clock.text) ∧
    (overlaid 0x20 0 0 (inState .awaitResume State.reset)).banner = some (chars "AWAIT RESUME") ∧
    (overlaid 0 0 0 (inState .halted State.reset)).showHalted = true ∧
    (overlaid 0x20 0 0 State.reset).banner = none := by
  decide +kernel

/-- The flash of monitor 0 after a tick at sample 0, and what the overlay record draws. -/
def flashed (mon : Monitor) (r : FlashRec) (s : State) : FlashRec × MarkKind :=
  let t := after .frameTick { s with
    picture := { s.picture with monitors := tput s.picture.monitors 0 mon }
    overlay := { s.overlay with flashes := tput s.overlay.flashes 0 r } }
  (tget t.overlay.flashes 0, (tget t.overlay.records 0).flash)
def lit (mode : FlashMode) (fields : BitVec 8) (latency : Nat) : Monitor :=
  { Monitor.reset with flashMode := mode, fields := fields, latency := latency, flashLength := 2 }
def aimed : FlashRec := ⟨some ⟨100, true, 100 * 65536⟩, .none, 0⟩
def marked : State :=
  let s := pictured .ok Monitor.reset
  let ring := tput s.picture.camA.ring 1 { FrameSlot.reset with state := .ready, mark := .beat }
  { s with beats := (due 3).beats, picture := { s.picture with camA := { s.picture.camA with ring := ring } } }
theorem witness_FlashDrawn : flashed (lit .click 0x10 100) aimed (running 3 State.reset) = (⟨none, .downbeat, 1⟩, .downbeat) ∧
    flashed (lit .click 0x10 99) aimed (running 3 State.reset) = (aimed, .none) ∧
    flashed (lit .click 0x00 100) aimed (running 3 State.reset) = (⟨none, .downbeat, 1⟩, .none) ∧
    flashed (lit .click 0x10 100) aimed State.reset = (⟨none, .downbeat, 1⟩, .none) ∧
    flashed (lit .off 0x10 0) ⟨none, .beat, 1⟩ (running 3 State.reset) = (⟨none, .beat, 0⟩, .beat) ∧
    flashed { lit .image 0x10 0 with source := .camA } ⟨none, .none, 0⟩ marked = (⟨none, .beat, 1⟩, .beat) ∧
    flashed { lit .image 0x10 0 with source := .camA, held := some ⟨.a, 1⟩ } ⟨none, .none, 0⟩ marked = (⟨none, .none, 0⟩, .none) := by
  decide +kernel

/-- Camera A with the given ring and ready list. -/
def cam (c : CameraRec) (s : State) : State := { s with picture := { s.picture with camA := c } }
def slotAt (x : SlotState) (readers : Nat) : FrameSlot := { FrameSlot.reset with state := x, readers := readers }
def ringed (open_ : Bool) (ring : Vector FrameSlot 6) (ready : List (Fin 6)) : CameraRec :=
  { CameraRec.reset with enabled := true, state := .ok, frameOpen := open_, ring := ring, ready := ready }
def full : CameraRec := ringed false
  #v[slotAt .ready 1, slotAt .ready 0, slotAt .ready 0, slotAt .ready 0, slotAt .ready 0, slotAt .ready 0] [0, 1, 2, 3, 4, 5]
def filling : CameraRec := { ringed true
    #v[slotAt .ready 0, slotAt .filling 0, slotAt .free 0, slotAt .free 0, slotAt .free 0, slotAt .free 0] [0] with
  counter := 65535, marks := [⟨0, 0, true⟩, ⟨65536, 1, false⟩] }
theorem witness_FrameEventsTaken : (∀ i, (full.slot i).state ≠ .filling) ∧ full.Closed full ∧
    ((after (.frameStart .a) (cam full State.reset)).picture.camA.slot 1).state = .filling ∧
    (after (.frameStart .a) (cam full State.reset)).picture.camA.ready = [0, 2, 3, 4, 5] ∧
    (after (.frameStart .a) (cam { full with ready := [0] } State.reset)).picture.camA.drops = 1 ∧
    (after (.frameStart .a) (cam filling State.reset)).picture.camA.aborts = 1 ∧
    ((after (.frameEnd .a) (cam filling State.reset)).picture.camA.slot 1) =
      ⟨.ready, 0, 0, 0, .downbeat⟩ ∧
    (after (.frameEnd .a) (cam filling State.reset)).picture.camA.ready = [0, 1] ∧
    (after (.frameEnd .a) (cam filling State.reset)).picture.camA.marks = [⟨65536, 1, false⟩] ∧
    (after (.frameEnd .a) (cam { filling with ring := full.ring } State.reset)).picture.camA.marks = filling.marks ∧
    (after (.frameEnd .a) (cam { filling with state := .lost } State.reset)).picture.camA.goodRun = 1 ∧
    (after (.frameEnd .a) (cam { filling with state := .lost, goodRun := 1 } State.reset)).picture.camA.state = .ok ∧
    (after (.frameAbort .a) (cam filling State.reset)).picture.camA.aborts = 1 ∧
    (after (.frameAbort .a) (cam full State.reset)).picture.camA.aborts = 0 ∧
    (after (.frameStart .a) (cam { full with enabled := false } State.reset)).picture.camA.frameOpen = false :=
  ⟨by decide, .inr ⟨by decide, by decide⟩, by decide +kernel⟩

theorem witness_CamerasLostAndEnabled :
    (after (.cameraExpiry .a) (clockAt 2879 (cam filling State.reset))).picture.camA.state = .ok ∧
    (after (.cameraExpiry .a) (clockAt 2880 (cam filling State.reset))).picture.camA.state = .lost ∧
    (after (.cameraExpiry .a) (clockAt 2880 (cam filling State.reset))).picture.camA.aborts = 1 ∧
    (after (.cameraExpiry .a) (clockAt 2880 (cam filling State.reset))).stops.isRaised .cameraLost = true ∧
    code (after (.cameraEnableWrite rq 0 [1]) (held .prog (onAir State.reset))) = some .frozen ∧
    (after (.cameraEnableWrite rq 0 [1]) (held .prog State.reset)).picture.camA.state = .lost ∧
    State.reset.stops.isRaised .cameraLost = false ∧
    (after (.cameraEnableWrite rq 0 [1]) (held .prog State.reset)).stops.isRaised .cameraLost = true ∧
    ((after (.cameraEnableWrite rq 0 [1]) (held .prog State.reset)).port 1).pendingSet = 0x52 ∧
    ((after (.cameraEnableWrite rq 1 [1]) (held .prog (raise1 .cameraLost State.reset))).port 1).pendingSet = 0x50 ∧
    (after (.cameraEnableWrite rq 0 [0]) (held .prog (raise1 .cameraLost (cam full State.reset)))).stops.isRaised .cameraLost = false ∧
    value (after (.cameraEnableWrite rq 0 [1]) (held .prog (cam full State.reset))) = some [1] ∧
    (after (.cameraEnableWrite rq 0 [0]) (held .prog (cam full State.reset))).picture.camA.state = .off ∧
    (after (.cameraEnableWrite rq 0 [0]) (held .prog (cam full State.reset))).picture.camA.ready = [0] := by decide +kernel

/-- A monitor field of monitor 5. -/
def wrote (f : MonitorField) (op : FlagOp) (v : List Byte) : State := after (.monitorWrite rq f op 5 v) (held .prog (onAir State.reset))
theorem witness_MonitorWritten : ((wrote .source .swap [3]).picture.monitor 5).source = .off ∧
    code (wrote .source .swap [4]) = some .range ∧
    ((wrote .latency .swap [0x25, 0x81]).picture.monitor 5).latency = 9600 ∧
    code (wrote .latency .swap [0x25, 0x81]) = some .clamped ∧
    code (wrote .latency .swap [0x25, 0x80]) = some .ok ∧ ((wrote .pairedLane .swap [1, 15]).picture.monitor 5).pairedLane = some 15 ∧
    code (wrote .pairedLane .swap [1, 16]) = some .range ∧ code (wrote .pairedLane .swap [0, 0]) = some .ok ∧
    code (wrote .flashLength .swap [0]) = some .range ∧ code (wrote .flashLength .swap [5]) = some .range ∧
    ((wrote .flashLength .swap [4]).picture.monitor 5).flashLength = 4 ∧
    code (wrote .flashMode .swap [3]) = some .range ∧
    ((wrote .flashMode .swap [2]).picture.monitor 5).flashMode = .image ∧
    ((wrote .overlayFields .set [0x21]).picture.monitor 5).fields = 0x21 ∧
    code (wrote .overlayFields .set [0x40]) = some .range ∧
    code (wrote .overlayFields .clear [0x3F]) = some .ok := by decide +kernel

/-! ## Witnesses: stops and the resume -/

/-- STOP from a port, with a stack and a state. -/
def stopBy (role : Role) (x : StopState) (l : List StopRecord) (s : State) : State := after (.stop rq []) (held role (onAir (stopped x l s)))
def four : List StopRecord := [record .fohStop 6 true, record .mdLost 5 true, record .rigFault 4 true, record .cameraLost 1 true]
theorem witness_StopsTaken : NothingRaised (held .sm (onAir (stopped .clear [] State.reset))) ∧
    code (after (.stop rq []) (held .sm State.reset)) = some .setup ∧
    code (stopBy .sm .halted [] State.reset) = some .stopped ∧
    (stopBy .sm .stopped [record .smStop 14 true] State.reset).stops.stack = [record .smStop 14 true] ∧
    (stopBy .foh .clear [] (due 3)).stops.isRaised .fohStop = true ∧ (stopBy .foh .clear [] (due 3)).stops.stack = [] ∧
    (stopBy .sm .clear [] (due 3)).stops.stack = [record .smStop 14 false] ∧
    (stopBy .sm .clear [] (due 3)).beats.click = .idle ∧
    (stopBy .md .stopped four State.reset).stops.stack = record .mdStop 13 false :: four.take 3 ∧
    (stopBy .md .stopped four State.reset).stops.displaced = 1 ∧
    ((stopBy .sm .clear [] (bound readyRig State.reset)).rig 2).inFlight = some ⟨⟨0, 0, 0⟩, .safe, true, 0, false⟩ :=
  ⟨nothing_raised rfl, by decide +kernel⟩

theorem witness_ConflictHalts : (record .smStop 14 false).source.isHard = true ∧ State.reset.stops.level .mdStop < 14 ∧
    (stopBy .md .stopping [record .smStop 14 false] (due 3)).stops.state = .halted ∧
    (stopBy .md .stopping [record .smStop 14 false] (due 3)).stops.halt = some ⟨.mdStop, .smStop⟩ ∧
    (stopBy .sm .stopping [record .mdStop 13 false] (due 3)).stops.state = .stopping := by decide +kernel

/-- A FOH_STOP that waits raised at a beat commit, with its own profile or another, and a hold-off count. -/
def fohWaits (click : ClickProfile) (holdOff : Nat) (l : List StopRecord) : State :=
  onAir (raise1 .fohStop { due 4 with stops := { Stops.reset with
    holdOff := holdOff, stack := l, state := if l = [] then .clear else .stopped
    profiles := tput Stops.reset.profiles StopSource.fohStop.index ⟨click, .safe, .banner⟩ } })
theorem witness_SoftStopTaken : (∀ j, (fohWaits .bar 1 []).stops.isRaised j = decide (j = .fohStop)) ∧
    (fohWaits .bar 1 []).beats.discardsNext = false ∧ 1 ≤ (fohWaits .bar 1 []).stops.level .fohStop ∧
    (after .beatCommit (fohWaits .bar 1 [])).stops.stack = [record .fohStop 6 false] ∧
    (after .beatCommit (fohWaits .bar 1 [])).stops.isRaised .fohStop = false ∧
    (after .beatCommit (fohWaits .bar 1 [])).beats.click = .finishing ∧
    (after .beatCommit (fohWaits .bar 1 [])).beats.next.isSome = true ∧
    (after .beatCommit (fohWaits .cut 0 [])).beats.click = .idle ∧ (after .beatCommit (fohWaits .cut 0 [])).beats.next = none ∧
    (after .beatCommit (fohWaits .bar 2 [])).stops.stack = [] ∧ (after .beatCommit (fohWaits .bar 2 [])).stops.holdOff = 1 ∧
    (after .beatCommit (fohWaits .bar 0 [record .clock 9 false])).stops.stack = [record .clock 9 false] ∧
    (after .beatCommit (fohWaits .bar 0 [record .mdLost 5 false])).stops.stack = [record .fohStop 6 false, record .mdLost 5 false] :=
  ⟨fun j => by cases j <;> decide +kernel, by decide +kernel⟩

theorem witness_RelayChanges : (after .relayStateChange (relayRun (some 479) State.reset)).stops.relayAsserted = false ∧
    (after .relayStateChange (relayRun (some 480) State.reset)).stops.relayAsserted = true ∧
    (after .relayStateChange (relayRun (some 480) State.reset)).stops.stack = [] ∧
    NothingRaised (onAir (relayRun (some 480) State.reset)) ∧
    (after .relayStateChange (onAir (relayRun (some 480) State.reset))).stops.stack = [record .relay 15 false] ∧
    (after .relayStateChange (onAir (relayRun (some 480) State.reset))).stops.state = .stopping :=
  ⟨by decide +kernel, by decide +kernel, by decide +kernel, nothing_raised rfl, by decide +kernel⟩

/-- STOPPED with an acknowledged RELAY record on top and the relay about to be RELEASED. -/
def releasing (below : List StopRecord) (advisory : Bool) (target : Option Target) : State :=
  onAir { State.reset with
    stops := { Stops.reset with
      state := .stopped, stack := record .relay 15 true :: below, runAdvisory := advisory, relayAsserted := true
      relayRun := some 480, raised := tput Stops.reset.raised StopSource.relay.index true }
    resume := { Resume.reset with target := target } }
def released (s : State) : StopState × List StopRecord :=
  ((after .relayStateChange s).stops.state, (after .relayStateChange s).stops.stack)
theorem witness_RelayPops : (∀ i, (releasing [] true none).stops.isRaised i = decide (i = .relay)) ∧
    released (releasing [record .clock 9 true, record .fohStop 6 false] true none) = (.stopped, [record .fohStop 6 false]) ∧
    released (releasing [] true none) = (.clear, []) ∧
    released (releasing [record .clock 9 true] false none) = (.awaitResume, []) ∧
    released (releasing [] false (some ⟨10, 0⟩)) = (.restoring, []) ∧
    (after .relayStateChange (listed [cue 10] { releasing [] true none with
      pointer := { Pointer.reset with armed := some 10 } })).pointer.current = some 10 :=
  ⟨fun i => by cases i <;> rfl, by decide +kernel⟩

/-- HOLD OFF and the hold-off item over a count. -/
def holding (n : Nat) (s : State) : State := held .md (onAir { s with stops := { s.stops with holdOff := n } })
theorem witness_HoldOff : code (after (.holdOff rq [4]) (held .md State.reset)) = some .setup ∧
    [0, 1, 16, 17].map (fun n => code (after (.holdOff rq [n]) (holding 0 State.reset))) = [some .clamped, some .ok, some .ok, some .clamped] ∧
    (after (.holdOff rq [16]) (holding 16 State.reset)).stops.holdOff = 32 ∧
    code (after (.holdOff rq [16]) (holding 17 State.reset)) = some .clamped ∧
    (after (.holdOffWrite rq 0 [0]) (holding 5 State.reset)).stops.holdOff = 0 ∧
    code (after (.holdOffWrite rq 0 [5]) (holding 0 State.reset)) = some .inactive ∧
    code (after (.holdOffWrite rq 0 [33]) (holding 5 State.reset)) = some .clamped ∧
    value (after (.holdOffWrite rq 0 [32]) (holding 5 State.reset)) = some [5] := by
  decide +kernel

theorem witness_StopItems : code (after (.stopLevelWrite rq 4 [3]) (held .sm State.reset)) = some .readOnly ∧
    tget (after (.stopLevelWrite rq 5 [8]) (held .sm State.reset)).stops.levels 5 = 7 ∧
    code (after (.stopLevelWrite rq 5 [7]) (held .prog (onAir State.reset))) = some .frozen ∧
    code (after (.stopProfileWrite rq 2 [0, 0, 0]) (held .sm State.reset)) = some .readOnly ∧
    code (after (.stopProfileWrite rq 3 [0, 2, 0]) (held .sm State.reset)) = some .range ∧
    code (after (.stopProfileWrite rq 3 [0, 0, 3]) (held .sm State.reset)) = some .range ∧
    code (after (.stopProfileWrite rq 3 [3, 0, 0]) (held .sm State.reset)) = some .range ∧
    tget (after (.stopProfileWrite rq 3 [2, 1, 2]) (held .sm State.reset)).stops.profiles 3 = ⟨.continued, .none, .none⟩ ∧
    [0, 1, 2, 3].map (fun n => code (after (.resumeCountInWrite rq 0 [n]) (held .sm (onAir State.reset)))) =
      [some .range, some .ok, some .ok, some .range] := by decide +kernel

/-- A STOPPED show and its acknowledgement by MD; the override by SM. -/
def acked (l : List StopRecord) (advisory : Bool) (s : State) : State :=
  after (.ack rq []) (held .md (onAir { stopped .stopped l s with stops := { s.stops with state := .stopped, stack := l, runAdvisory := advisory } }))
theorem witness_StopsAcknowledged : code (after (.ack rq []) (held .md State.reset)) = some .noStop ∧
    code (acked [record .smStop 14 true] false State.reset) = some .noStop ∧
    (acked [record .smStop 14 false] false State.reset).stops.state = .awaitResume ∧
    (acked [record .clock 9 false] true State.reset).stops.state = .clear ∧
    (acked [record .smStop 14 false, record .mdStop 13 false] false State.reset).stops.stack = [record .mdStop 13 false] ∧
    (acked [record .clock 9 false] true { State.reset with
      stops := { Stops.reset with raised := tput Stops.reset.raised StopSource.clock.index true } }).stops.stack = [record .clock 9 true] ∧
    code (after (.ackOverride rq []) (held .sm (onAir (stopped .stopped [record .smStop 14 false] State.reset)))) = some .ok ∧
    code (after (.ackOverride rq []) ((held .sm State.reset).setPort 1 { DeskPortRec.reset with role := some .md })) = some .held := by
  decide +kernel

/-- The end of a run with a cue armed and the click IDLE, and with a target stored. -/
def targeted : State := { listed [cue 10] (bound readyRig State.reset) with resume := { Resume.reset with target := some ⟨10, 0⟩ } }
theorem witness_RunEnds :
    (acked [record .clock 9 false] true (showing [cue 10] (.cue 10) (some 10) State.reset)).pointer.current = some 10 ∧
    (acked [record .clock 9 false] true (showing [cue 10] (.cue 10) (some 10) State.reset)).stops.state = .clear ∧
    (∀ k, (targeted.rig k).pendingChange = none) ∧
    (acked [record .smStop 14 false] false targeted).stops.state = .restoring ∧
    (acked [record .smStop 14 false] false targeted).resume.restoreSet = [(2, ⟨0, 0, 0⟩)] ∧
    ((acked [record .smStop 14 false] false targeted).rig 2).inFlight = some ⟨⟨0, 0, 0⟩, .restore, true, 0, false⟩ := by decide +kernel

/-- RESUME AT from a port holding SM, with a list of 2,560: the cue number in bytes 2 and 3 of four, and the offset. -/
def resumed (x : StopState) (n₂ n₁ o₁ o₀ : Byte) (s : State) : State :=
  after (.resumeAt rq [0, n₂, n₁, 0, o₁, o₀]) (held .sm (onAir (listed [cue 2560] (inState x s))))
theorem witness_ResumePrepared : [StopState.clear, .stopping, .stopped, .halted].map (fun x => code (resumed x 0 10 0 0 State.reset)) =
      [some .noStop, some .stopped, some .stopped, some .stopped] ∧
    code (after (.resumeAt rq [0, 0, 0, 1, 0, 0]) (held .sm State.reset)) = some .setup ∧
    code (resumed .awaitResume 0 10 1 0 State.reset) = some .range ∧
    code (resumed .awaitResume 2 0 0 0 State.reset) = some .range ∧
    code (resumed .awaitResume 0 11 0 255 State.reset) = some .noCue ∧
    (resumed .awaitResume 0 10 0 255 State.reset).resume.target = some ⟨2560, 255⟩ ∧
    (resumed .resumeArmed 0 10 0 255 State.reset).stops.state = .restoring ∧
    (resumed .awaitResume 0 10 0 0 (bound readyRig State.reset)).resume.restoreSet = [(2, ⟨0, 0, 0⟩)] := by decide +kernel

def readied (x : StopState) (ready : Bool) (s : State) : State :=
  after (.mdReady rq []) (held .md (onAir { inState x s with resume := { s.resume with mdReady := ready } }))
theorem witness_MdReady : code (after (.mdReady rq []) (held .md State.reset)) = some .noStop ∧
    code (readied .clear false State.reset) = some .noStop ∧
    (readied .restoring false State.reset).stops.state = .resumeArmed ∧
    (readied .awaitResume false State.reset).stops.state = .awaitResume ∧
    (readied .awaitResume false State.reset).resume.mdReady = true ∧
    code (readied .resumeArmed true State.reset) = some .ok := by decide +kernel

/-- MD READY in RESTORING, with a restore that is not complete, and with one that is. -/
def waitingFor (r : Rig) : State :=
  let s := restoring 5 r
  held .md { s with resume := { s.resume with mdReady := false } }
theorem witness_MdReadyWaits : Free rq (waitingFor changingRig) ∧ FromRole .md rq (waitingFor changingRig) ∧
    (after (.mdReady rq []) (waitingFor changingRig)).stops.state = .restoring ∧
    (after (.mdReady rq []) (waitingFor changingRig)).resume.restoreSet = [(2, ⟨7, 4, 2⟩)] ∧
    (after (.mdReady rq []) (waitingFor { readyRig with applied := some ⟨7, 4, 2⟩ })).stops.state = .resumeArmed :=
  ⟨(held_ready _ _).1, (held_ready _ _).2, by decide +kernel⟩

/-- An armed resume at a cue of bar 57. -/
def resuming (off : Nat) : State :=
  held .sm (onAir (listed [{ cue 10 with scoreBar := some 57, tempo := .fixed 6000 }]
    { inState .resumeArmed State.reset with resume := { Resume.reset with target := some ⟨10, off⟩, mdReady := true } }))
theorem witness_ResumeGoes : NothingRaised (resuming 2) ∧ BeatInv (resuming 2) ∧
    code (after (.resumeGo rq []) (held .sm State.reset)) = some .setup ∧
    code (after (.resumeGo rq []) (held .sm (onAir State.reset))) = some .noStop ∧
    code (after (.resumeGo rq []) (held .sm (onAir (inState .restoring State.reset)))) = some .stopped ∧
    (after (.resumeGo rq []) (resuming 2)).beats.startBar = 59 ∧
    (after (.resumeGo rq []) (resuming 9943)).beats.startBar = 9999 ∧
    ((after (.resumeGo rq []) (resuming 2)).beats.next.map fun b => (b.bar, b.onset, b.tempo)) = some (-1, 4800 * 65536, 6000) ∧
    (after (.resumeGo rq []) (resuming 2)).stops.state = .clear :=
  ⟨nothing_raised rfl,
    ⟨fun _ => ⟨rfl, rfl, rfl, rfl⟩, fun _ => .inl rfl, by decide, by decide, fun _ h => (nomatch h), fun _ h => (nomatch h)⟩,
    by decide +kernel⟩

/-- A clip's tail, still sounding after the click has gone IDLE, is silenced by the resume. -/
theorem witness_ResumeSilencesTails :
    let tail := (resuming 2).clicks.setLane 4 { Lane.reset with clickVoice := some ⟨0, 9, 3⟩ }
    ({ resuming 2 with clicks := tail }.clicks.lane 4).clickVoice.isSome = true ∧
    ((after (.resumeGo rq []) { resuming 2 with clicks := tail }).clicks.lane 4).clickVoice = none := by decide +kernel

def resetBy (x : StopState) (relay : Bool) (s : State) : State :=
  after (.showReset rq []) (held .sm (onAir { inState x s with stops := { s.stops with state := x, relayAsserted := relay } }))
theorem witness_ShowResets : code (after (.showReset rq []) (held .sm State.reset)) = some .setup ∧
    [StopState.clear, .stopping, .restoring, .resumeArmed, .stopped, .awaitResume, .halted].map
      (fun x => code (resetBy x false State.reset)) =
      [some .noStop, some .busy, some .busy, some .busy, some .ok, some .ok, some .ok] ∧
    code (resetBy .stopped true State.reset) = some .relay ∧ (resetBy .halted false State.reset).stops.state = .awaitResume ∧
    (resetBy .halted false (due 3)).beats.click = .idle ∧
    (resetBy .halted false { State.reset with beats := { BeatState.reset with countInLeft := 1 } }).beats.countInLeft = 0 := by decide +kernel

/-! ## Witnesses: desk ports and formats -/

def port0 (d : DeskPortRec) : State := State.reset.setPort 0 d
def inHand (begun : Bool) : Option Progress := some ⟨1, ⟨.ok, []⟩, begun⟩
theorem witness_FramesSent :
    ((after (.replySent 0) (busyPort (sending .reply) none)).port 0).inProgress = none ∧
    ((after (.replySent 0) (busyPort (sending .reply) (some 3))).port 0).tx.map (·.frame.tag) = some 3 ∧
    ((after (.replySent 0) (port0 { DeskPortRec.reset with tx := sending .busy, inProgress := inHand false })).port 0).tx.map (·.kind) =
      some .reply ∧
    ((after (.noticeSent 0) (port0 { DeskPortRec.reset with tx := sending .notice })).port 0).tx = none ∧
    ((after (.noticeSent 0) (port0 { DeskPortRec.reset with tx := sending .busy })).port 0).tx = sending .busy ∧
    ((after (.replySent 0) (port0 { DeskPortRec.reset with tx := sending .notice })).port 0).tx = sending .notice ∧
    ((after (.notice 0) (port0 { DeskPortRec.reset with active := true, pendingSet := 0x41 })).port 0).tx =
      some ⟨.notice, ⟨.notice, 0, 0, [0x41]⟩⟩ ∧
    ((after (.notice 0) (port0 { DeskPortRec.reset with active := true })).port 0).outstanding = false ∧
    ((after (.notice 0) (port0 { DeskPortRec.reset with active := true, pendingSet := 1, inProgress := inHand false })).port 0).outstanding = false := by
  decide +kernel

theorem witness_NoticesAnswered :
    ((after (.noticeAck rq [0x40]) (port0 { DeskPortRec.reset with pendingSet := 0x41, outstanding := true })).port 0).pendingSet = 0x01 ∧
    ((after (.noticeMaskWrite rq .clear 0 [0x40]) (port0 { DeskPortRec.reset with pendingSet := 0x41 })).port 0).pendingSet = 0x01 ∧
    ((after (.noticeMaskWrite rq .swap 0 [0x40]) State.reset).port 0).mask = 0x40 ∧
    code (after (.noticeMaskWrite rq .swap 3 [0x40]) State.reset) = some .noRight := by decide +kernel

theorem witness_RolesClaimedAndReleased : code (after (.claimRole rq [1]) (held .md State.reset)) = some .held ∧
    code (after (.claimRole rq [1]) (State.reset.setPort 3 { DeskPortRec.reset with role := some .sm })) = some .held ∧
    ((after (.claimRole rq [1]) State.reset).port 0).role = some .sm ∧
    ((after (.claimRole rq [1]) State.reset).port 3).pendingSet = 0x40 ∧
    code (after (.releaseRole rq []) State.reset) = some .ok ∧
    ((after (.releaseRole rq []) (held .sm State.reset)).port 3).pendingSet = 0x40 ∧
    ((after (.releaseRole rq []) (held .md (onAir (inState .resumeArmed State.reset)))).port 0).role = none ∧
    (after (.releaseRole rq []) (held .md (onAir (inState .resumeArmed State.reset)))).stops.state = .restoring := by decide +kernel

/-- Port 0 ACTIVE since sample 0 with MD. -/
def present (now : Nat) : State := clockAt now (onAir (port0 { DeskPortRec.reset with active := true, role := some .md, mask := 1 }))
theorem witness_DeskPortLost : ((after (.deskPresenceExpiry 0) (present 71999)).port 0).role = some .md ∧
    ((after (.deskPresenceExpiry 0) (present 72000)).port 0).role = none ∧
    ((after (.deskPresenceExpiry 0) (present 72000)).port 0).mask = 1 ∧
    ((after (.deskPresenceExpiry 0) (clockAt 72000 (held .md State.reset))).port 0).role = some .md ∧
    ((after (.deskLineBreak 3) (heard [0x7E, 0x01] [])).port 3).rx = [] ∧
    (after (.deskPresenceExpiry 0) (present 72000)).stops.isRaised .mdLost = true ∧
    ((after (.deskLineBreak 0) (present 1)).port 0).mask = 0xFF ∧
    (after (.deskLineBreak 0) (present 1)).stops.isRaised .mdLost = true ∧
    ((after (.resetPort rq []) (present 1)).port 0).active = true ∧
    code (after (.resetPort rq []) (present 1)) = some .ok := by decide +kernel

theorem witness_LineDecodesItsOwnFrames : escaped.payload.length ≤ 250 ∧
    LineChar.ok 0x7E ∉ [.ok 0x00, .damaged] ∧ LineChar.ok 0x55 ∉ [.damaged] ∧
    parseFrame ([.ok 0x00, .damaged] ++ escaped.line.map .ok ++ [.ok 0x7E]) = .valid escaped [.ok 0x7E] ∧
    isIdentity (chars "KEYS") = true ∧
    parseRig ([.damaged] ++ (rigLine (RigMessage.announce (chars "KEYS")).body).map .ok ++ [.ok 0x55]) =
      .valid (.announce (chars "KEYS")) [.ok 0x55] ∧
    commandCodes.contains 0x57 = false ∧ commandOf rq 0x57 [1] = .unknownCode rq 0x57 [1] ∧
    commandOf rq 0x02 [0x03, 0x07, 15, 9] = .laneLevelWrite rq 15 [9] ∧
    commandOf rq 0x01 [0x03, 0x07, 15] = .read rq .read [0x03, 0x07, 15] := by decide +kernel

/-! ## Witnesses: the invariants, at power-on reset -/

/-- A running click inside a vamp, with another one outside it. -/
def inVamp : State := vamping [vampAt .opened 20 none 1 false, vampAt .repeated 19 (some 2) 2 false]
theorem inVamp_bars : BarInv inVamp where
  onset _ _ h e := by cases h; cases e; rfl
  follows _ _ _ h := nomatch h
  running _ := by decide
  within _ _ _ h _ e := by cases h; cases e; decide
  fresh h := nomatch h
  countIn _ h e := by cases h; exact nomatch e
  bar _ h _ := by cases h; decide
  nested := by decide
  spans := by decide
  pushes _ h := nomatch h
  pendingBar _ h := nomatch h
  startBar := by decide
  cues _ h := nomatch h

theorem witness_TemposAndBeatsStayLegal : TempoInv inVamp ∧ BeatInv inVamp ∧ BarInv inVamp :=
  ⟨⟨by unfold TempoOk; decide, by unfold TempoOk; decide, fun _ h => (nomatch h), by decide,
      fun _ h => (by cases h; unfold TempoOk; decide), fun _ h => (nomatch h), fun _ h => (nomatch h)⟩,
    ⟨fun h => (nomatch h), fun h => (nomatch h), by decide, by decide, fun _ h => (by cases h; decide), fun _ h => (nomatch h)⟩,
    inVamp_bars⟩

theorem witness_BindInv : BindInv (bound readyRig State.reset) ∧ BoundPair 5 2 (bound readyRig State.reset) :=
  have h : BindInv (bound readyRig State.reset) := by unfold BindInv; decide +kernel
  ⟨h, h.boundPair (by decide +kernel)⟩

/-- Monitor 3 holds slot 0 of camera A. -/
def holding3 : State :=
  let s := cam full State.reset
  { s with picture := s.picture.setMonitor 3 { Monitor.reset with held := some ⟨.a, 0⟩ } }
theorem witness_PictureInv : PictureInv holding3 where
  readers k i := by cases k <;> revert i <;> decide +kernel
  held m id h := by
    have only : ∀ m, (holding3.picture.monitor m).held = if m = 3 then some ⟨.a, 0⟩ else none := by decide +kernel
    rw [only] at h
    split at h <;> cases h
    decide +kernel
  listed k i := by cases k <;> revert i <;> decide +kernel
  once k := by cases k <;> decide +kernel
  oneFilling k i j := by cases k <;> revert i j <;> decide +kernel

theorem witness_StopStackStaysOrdered : StopInv State.reset ∧ StackFits State.reset :=
  ⟨⟨by decide, trivial, .nil, fun _ h => (nomatch h), fun h => (h rfl).elim, by decide⟩, by unfold StackFits; decide⟩

theorem witness_TablesStayOrdered : CueInv State.reset ∧ ClipInv State.reset :=
  ⟨⟨trivial, by decide, by decide⟩, clips_reset _ rfl⟩

theorem witness_RolesStayUnique : DeskInv State.reset :=
  ⟨fun p _ _ h => (h (by simp [State.port, State.reset, DeskPortRec.reset])).elim, by decide⟩

theorem witness_CueRecordDecodesItsOwnBytes : (changesAt 20 [5, 2]).valid = true := by decide

end Sys2Proof.Tests
end

section
/-!
PROOFS. The tempo commands of the MD (R9 to R13): what their arithmetic does in each mode, and the nudges.
-/

namespace Sys2Proof.Machine

/-- A tempo is out of range just where clamping changes it (R9). -/
theorem outOfTempo_eq (v : Nat) : outOfTempo v = decide (clampTempo v ≠ v) := by
  rw [outOfTempo, ← Bool.decide_or]
  refine decide_eq_decide.mpr ?_
  simp only [clampTempo, Config.tempoMin, Config.tempoMax]
  omega

/-- The live_tempo with which an accepted MD tempo command begins: in a FIXED or RAMP mode, current_tempo (R12). -/
theorem toLive_live (t : TempoState) : t.toLive.live = if t.mode = .live then t.live else t.current := by
  cases h : t.mode <;> simp [TempoState.toLive, h]

/-- The tempo state after a new live_tempo in any mode: the mode is LIVE, and a ramp record of another mode goes (R12). -/
theorem toLive_setLive (v : Nat) (t : TempoState) :
    t.toLive.setLive v =
      { mode := .live, current := clampTempo v, live := clampTempo v, taps := t.taps,
        ramp := if t.mode = .live then t.ramp else none, clamped := t.clamped || outOfTempo v } := by
  cases h : t.mode <;> simp [TempoState.toLive, TempoState.setLive, h]

/-- Two tempo states differ in what makes the TEMPO kind pending: the mode, a tempo or TEMPO_CLAMPED (R10 to R12). -/
theorem differs_or_clamped (t u : TempoState) :
    (t.differs u || t.clamped != u.clamped) =
      decide (t.mode ≠ u.mode ∨ t.current ≠ u.current ∨ t.live ≠ u.live ∨ t.clamped ≠ u.clamped) := by
  rw [Bool.eq_iff_iff]
  simp [TempoState.differs, or_assoc]

/-- Raising a flag changes it just where it is raised and was lowered. -/
theorem ne_or_decide_iff (b : Bool) (p : Prop) [Decidable p] : b ≠ (b || decide p) ↔ p ∧ b = false := by
  cases b <;> simp

/-- A command from the MD whose owner replaces the tempo state: the tempo state is the new one, and the TEMPO kind is
pending where the mode, a tempo or TEMPO_CLAMPED changes (R10 to R12). -/
theorem tempo_command_served {α : Type} {r : Req} {decode : List Byte → Option α} {payload : List Byte}
    {owner : α → State → Answer} {s : State} {a : α} {clamp : Bool} {t : TempoState} (h : Free r s)
    (hm : FromRole .md r s) (hd : decode payload = some a)
    (ho : owner a (validFrame r.port s) = acceptIf clamp (setTempoState t (validFrame r.port s))) :
    let u := command r [.md] decode payload owner s
    u = { s with tempo := t, desk := u.desk } ∧
    Served r (if clamp then .clamped else .ok) []
      (kindIf (decide (s.tempo.mode ≠ t.mode ∨ s.tempo.current ≠ t.current ∨ s.tempo.live ≠ t.live ∨
        s.tempo.clamped ≠ t.clamped)) .tempo) s u := by
  intro u
  have hs : (validFrame r.port s).tempo = s.tempo := by simp
  rw [← differs_or_clamped, ← hs]
  obtain ⟨hu, hserved⟩ := command_served (roles := [.md]) _ h hm rfl hd ho fun q => notifyIf_validFrame r.port q _ .tempo s rfl
  refine ⟨?_, hserved⟩
  calc u = { setTempoState t (validFrame r.port s) with desk := u.desk } := hu
    _ = { s with tempo := t, desk := u.desk } := by
      rw [setTempoState, notifyIf_eq]; simp [validFrame, State.setPort]

/-- A nudge in either direction is the MD command of its percentage (R13, TABLE 12-2). -/
theorem exec_nudge (r : Req) (up : Bool) (s : State) :
    exec (if up then .nudgeUp r [] else .nudgeDown r []) s =
      .next (command r [.md] payloadNone [] (fun _ => ownNudge (if up then 101 else 99)) s) := by
  cases up <;> rfl

/-- Settles O14: a nudge is an MD tempo command whose new live_tempo is the percentage of the one before it. -/
theorem tempoNudged : Obligations.TempoNudged := by
  intro r up s hfree hmd old raw v tempo changed
  have hraw : nudged (if up then 101 else 99) s.tempo = raw := by rw [nudged, toLive_live]
  have hclamp : outOfTempo raw = decide (v ≠ raw) := outOfTempo_eq raw
  have htempo : s.tempo.nudge (if up then 101 else 99) = tempo := by
    rw [TempoState.nudge, hraw, toLive_setLive, hclamp]; rfl
  have howner : ownNudge (if up then 101 else 99) (validFrame r.port s) =
      acceptIf (decide (v ≠ raw)) (setTempoState tempo (validFrame r.port s)) := by
    have hs : (validFrame r.port s).tempo = s.tempo := by simp
    rw [ownNudge, hs, htempo, hraw, hclamp]
  obtain ⟨hstate, hserved⟩ := tempo_command_served (owner := fun _ => ownNudge (if up then 101 else 99)) hfree hmd
    (show payloadNone [] = some () from rfl) howner
  refine ⟨_, exec_nudge r up s, hstate, ?_⟩
  simpa only [tempo, ne_or_decide_iff, decide_eq_true_eq] using hserved

end Sys2Proof.Machine
end

section
/-!
PROOFS. The gain at a level and the output of a voice (R52, R53).
-/

namespace Sys2Proof.Machine

/-- No level's gain is above full gain: the table begins at its greatest entry, and MUTE is 0 (R52). -/
theorem gainOf_le (level : Nat) : gainOf level ≤ 32767 := by
  have hentries : ∀ g ∈ Config.gainTable, g ≤ 32767 := by decide
  rw [gainOf]
  split
  · exact Nat.zero_le _
  · rw [List.getD_eq_getElem?_getD]
    cases hg : Config.gainTable[level]? with
    | none => exact Nat.zero_le _
    | some g => exact hentries g (List.mem_of_getElem? hg)

/-- A sample lies in the signed 24-bit range (R53). -/
theorem sample_range (x : Sample) : sampleMin ≤ x.toInt ∧ x.toInt ≤ sampleMax := by
  have hlo := BitVec.le_toInt x
  have hhi := BitVec.toInt_lt (x := x)
  simp only [sampleMin, sampleMax]
  omega

/-- The shift by 15 places that keeps the sign is the floor of the division by 32,768, for both signs (R53). -/
theorem le_voiceOut_iff (m : ClipMemory) (gain : Nat) (p : Playing) (b : Int) :
    b ≤ voiceOut m gain (some p) ↔ b * 32768 ≤ (ClipMem.read m (p.start + p.pos)).toInt * gain :=
  Int.le_ediv_iff_mul_le (by decide)

/-- The same floor seen from above: the output is below a bound just where the scaled sample is (R53). -/
theorem voiceOut_lt_iff (m : ClipMemory) (gain : Nat) (p : Playing) (b : Int) :
    voiceOut m gain (some p) < b ↔ (ClipMem.read m (p.start + p.pos)).toInt * gain < b * 32768 :=
  Int.ediv_lt_iff_lt_mul (by decide)

/-- The product of a sample and a gain lies between those of the extreme samples, so the output lies between theirs. -/
theorem voiceOut_range (m : ClipMemory) (gain : Nat) (p : Playing) :
    sampleMin * gain / 32768 ≤ voiceOut m gain (some p) ∧ voiceOut m gain (some p) ≤ sampleMax * gain / 32768 := by
  obtain ⟨hmin, hmax⟩ := sample_range (ClipMem.read m (p.start + p.pos))
  have hgain : (0 : Int) ≤ gain := Int.natCast_nonneg gain
  exact ⟨Int.ediv_le_ediv (by decide) (Int.mul_le_mul_of_nonneg_right hmin hgain),
    Int.ediv_le_ediv (by decide) (Int.mul_le_mul_of_nonneg_right hmax hgain)⟩

/-- No gain of the table takes a voice out of the 24-bit range, as each is below 1 (R52, R53). -/
theorem voiceOut_gainOf_range (m : ClipMemory) (level : Nat) (p : Playing) :
    sampleMin ≤ voiceOut m (gainOf level) (some p) ∧ voiceOut m (gainOf level) (some p) ≤ sampleMax := by
  obtain ⟨hlo, hhi⟩ := voiceOut_range m (gainOf level) p
  have hgain := gainOf_le level
  simp only [sampleMin, sampleMax] at hlo hhi ⊢
  omega

/-- Settles O9: the output is the floor of the scaled sample, and the extreme samples bound it at each gain. -/
theorem voiceOutputIsTheScaledSample : Obligations.VoiceOutputIsTheScaledSample := by
  intro m gain p
  have hfloor := (le_voiceOut_iff m gain p _).mp le_rfl
  have hbelow := (voiceOut_lt_iff m gain p _).mp (Int.lt_succ _)
  obtain ⟨hlo, hhi⟩ := voiceOut_range m 32767 p
  exact ⟨rfl, hfloor, hbelow, hlo, hhi, fun level _ => voiceOut_gainOf_range m level p⟩

end Sys2Proof.Machine
end

section
/-!
PROOFS. The reads of the cue list (R68) and of a chase (R73): what a search of an ascending list finds, and what the
owner of each read answers.
-/

namespace Sys2Proof.Machine

/-! ## A search of an ascending list -/

/-- In a list whose numbers rise, every cue has a number below all the cues that follow it (R61). -/
theorem cuesRise.pairwise {l : List Cue} (h : cuesRise l) : l.Pairwise fun c d => c.number < d.number := by
  induction l using cuesRise.induct with
  | case1 => exact .nil
  | case2 c => exact List.pairwise_singleton _ c
  | case3 c d l ih =>
    obtain ⟨hcd, hrest⟩ := h
    have hdl := ih hrest
    refine .cons (fun e he => ?_) hdl
    obtain rfl | he := List.mem_cons.mp he
    · exact hcd
    · exact hcd.trans (List.rel_of_pairwise_cons hdl he)

/-- A search of an ascending list from its front finds the cue of least number among those sought: the cues before it
have lesser numbers, so none of them is sought. -/
theorem find?_eq_some_of_least {l : List Cue} (h : cuesRise l) {p : Cue → Bool} {x : Cue} (hx : x ∈ l) (hp : p x = true)
    (hleast : ∀ y ∈ l, p y = true → x.number ≤ y.number) : l.find? p = some x := by
  obtain ⟨before, later, rfl⟩ := List.append_of_mem hx
  refine List.find?_eq_some_iff_append.mpr ⟨hp, before, later, rfl, fun y hy => ?_⟩
  have hlt : y.number < x.number := (List.pairwise_append.mp h.pairwise).2.2 y hy x List.mem_cons_self
  have hnot : ¬ p y = true := fun hpy => absurd (hleast y (List.mem_append_left _ hy) hpy) hlt.not_ge
  simpa using hnot

/-! ## What the owners answer -/

/-- The cues among which a CUE READ answers the first: those of the number for AT, those above it for AFTER (R68). -/
def ReadDirection.seeks (n : Nat) : ReadDirection → Cue → Bool
  | .at, c => c.number == n
  | .after, c => n < c.number

/-- The direction a flag stands for, as its payload byte does (R68). -/
def ReadDirection.ofFlag (after : Bool) : ReadDirection := if after then .after else .at

theorem seeks_ofFlag (n : Nat) (after : Bool) (c : Cue) :
    (ReadDirection.ofFlag after).seeks n c = true ↔ if after then n < c.number else c.number = n := by
  cases after <;> simp [ReadDirection.ofFlag, ReadDirection.seeks]

theorem payloadCueRead_bytes (a b c d : Byte) (after : Bool) :
    payloadCueRead [a, b, c, d, if after then 1 else 0] = some (word4 a b c d, .ofFlag after) := by
  cases after <;> rfl

theorem payload4_bytes (a b c d : Byte) : payload4 [a, b, c, d] = some (word4 a b c d) := rfl

/-- The owner of a CUE READ refuses a number above 99,999, and else answers the first cue of the list that the read seeks,
if there is one (R68). -/
theorem ownCueRead_eq (n : Nat) (d : ReadDirection) (s : State) :
    ownCueRead (n, d) s =
      if 99999 < n then refuse .range s
      else (s.tables.cues.find? (d.seeks n)).elim (refuse .noCue s) fun c => acceptWith (cueBytes c) s := by
  have hsearch (o : Option Cue) :
      (match o with
        | some c => acceptWith (cueBytes c) s
        | none => refuse .noCue s) = o.elim (refuse .noCue s) fun c => acceptWith (cueBytes c) s := by
    cases o <;> rfl
  cases d <;> exact congrArg (ite _ _) (hsearch _)

/-- The owner of a CUE READ changes nothing. -/
theorem ownCueRead_state (q : Nat × ReadDirection) (s : State) : (ownCueRead q s).state = s := by
  obtain ⟨n, d⟩ := q
  rw [ownCueRead_eq]
  split
  · rfl
  · cases s.tables.cues.find? (d.seeks n) <;> rfl

theorem ownCueRead_of_gt {n : Nat} (hn : 99999 < n) (d : ReadDirection) (s : State) :
    ownCueRead (n, d) s = refuse .range s := by
  rw [ownCueRead_eq, if_pos hn]

theorem ownCueRead_of_none_sought {n : Nat} {d : ReadDirection} {s : State} (hn : n ≤ 99999)
    (hnone : ∀ x ∈ s.tables.cues, ¬ d.seeks n x = true) : ownCueRead (n, d) s = refuse .noCue s := by
  rw [ownCueRead_eq, if_neg hn.not_gt, List.find?_eq_none.mpr hnone, Option.elim_none]

theorem ownCueRead_of_least_sought {n : Nat} {d : ReadDirection} {s : State} {x : Cue} (hn : n ≤ 99999)
    (hrise : cuesRise s.tables.cues) (hx : x ∈ s.tables.cues) (hsought : d.seeks n x = true)
    (hleast : ∀ y ∈ s.tables.cues, d.seeks n y = true → x.number ≤ y.number) :
    ownCueRead (n, d) s = acceptWith (cueBytes x) s := by
  rw [ownCueRead_eq, if_neg hn.not_gt, find?_eq_some_of_least hrise hx hsought hleast, Option.elim_some]

/-- The owner of a CHASE READ, with the greatest cue number written out (R73). -/
theorem ownChaseRead_eq (n : Nat) (s : State) :
    ownChaseRead n s =
      if 99999 < n then refuse .range s
      else if n = 0 then acceptWith (s.tables.chaseBytes .first) s
      else if (s.tables.find n).isSome then acceptWith (s.tables.chaseBytes (.cue n)) s
      else refuse .noCue s := rfl

/-- The owner of a CHASE READ changes nothing. -/
theorem ownChaseRead_state (n : Nat) (s : State) : (ownChaseRead n s).state = s := by
  rw [ownChaseRead_eq]
  split
  · rfl
  · split
    · rfl
    · split <;> rfl

theorem ownChaseRead_of_gt {n : Nat} (hn : 99999 < n) (s : State) : ownChaseRead n s = refuse .range s := by
  rw [ownChaseRead_eq, if_pos hn]

theorem ownChaseRead_zero (s : State) : ownChaseRead 0 s = acceptWith (s.tables.chaseBytes .first) s := rfl

theorem ownChaseRead_of_mem {n : Nat} {s : State} (hn : n ≤ 99999) (h0 : n ≠ 0)
    (hcue : ∃ x ∈ s.tables.cues, x.number = n) : ownChaseRead n s = acceptWith (s.tables.chaseBytes (.cue n)) s := by
  have hfind : (s.tables.find n).isSome = true := by simpa [Tables.find] using hcue
  rw [ownChaseRead_eq, if_neg hn.not_gt, if_neg h0, if_pos hfind]

theorem ownChaseRead_of_not_mem {n : Nat} {s : State} (hn : n ≤ 99999) (h0 : n ≠ 0)
    (hnone : ∀ x ∈ s.tables.cues, x.number ≠ n) : ownChaseRead n s = refuse .noCue s := by
  have hfind : ¬ (s.tables.find n).isSome = true := by simpa [Tables.find] using hnone
  rw [ownChaseRead_eq, if_neg hn.not_gt, if_neg h0, if_neg hfind]

/-! ## The reads -/

/-- A command open to any port whose owner changes nothing: it changes nothing but the desk, and it is served with its
owner's answer (R190). -/
theorem openCommand_unchanged_served {α : Type} {r : Req} {decode : List Byte → Option α} {payload : List Byte}
    {owner : α → State → Answer} {s : State} {a : α} (h : Free r s) (hd : decode payload = some a)
    (hstate : ∀ u, (owner a u).state = u) :
    let t := openCommand r decode payload owner s
    t = { s with desk := t.desk } ∧
      ∀ {code value}, owner a (validFrame r.port s) = ⟨⟨code, value⟩, validFrame r.port s⟩ →
        Served r code value 0 s t := by
  have hserved {code value} (ho : owner a (validFrame r.port s) = ⟨⟨code, value⟩, validFrame r.port s⟩) :
      openCommand r decode payload owner s = { s with desk := (openCommand r decode payload owner s).desk } ∧
        Served r code value 0 s (openCommand r decode payload owner s) :=
    refused_served h (by simp only [hd, ho])
  have hanswer : owner a (validFrame r.port s) = ⟨(owner a (validFrame r.port s)).reply, validFrame r.port s⟩ :=
    congrArg (Answer.mk _) (hstate _)
  exact ⟨(hserved hanswer).1, fun ho => (hserved ho).2⟩

/-- Settles O27: each read is served with what its owner answers, which an ascending list determines. -/
theorem cuesRead : Obligations.CuesRead := by
  intro r a b c d s hfree hrise n
  have htables : (validFrame r.port s).tables = s.tables := by simp
  rw [← htables] at hrise ⊢
  constructor
  · intro after
    obtain ⟨hframe, hserved⟩ := openCommand_unchanged_served (owner := ownCueRead) hfree
      (payloadCueRead_bytes a b c d after) (ownCueRead_state _)
    refine ⟨_, rfl, hframe, fun hn => hserved (ownCueRead_of_gt hn _ _), fun hn hnone => ?_, fun x hx hn hsought => ?_⟩
    · refine hserved (ownCueRead_of_none_sought hn fun x hx hseeks => ?_)
      have hx := hnone x hx
      rw [seeks_ofFlag] at hseeks
      cases after
      · exact hx hseeks
      · exact Nat.not_lt.mpr hx hseeks
    · cases after
      · refine hserved (ownCueRead_of_least_sought hn hrise hx ((seeks_ofFlag n false x).mpr hsought) fun y _ hy => ?_)
        exact (hsought.trans ((seeks_ofFlag n false y).mp hy).symm).le
      · obtain ⟨habove, hleast⟩ := hsought
        exact hserved (ownCueRead_of_least_sought hn hrise hx ((seeks_ofFlag n true x).mpr habove) fun y hy hseeks =>
          hleast y hy ((seeks_ofFlag n true y).mp hseeks))
  · obtain ⟨hframe, hserved⟩ := openCommand_unchanged_served (owner := ownChaseRead) hfree (payload4_bytes a b c d)
      (ownChaseRead_state _)
    refine ⟨_, rfl, hframe, fun hn => hserved (ownChaseRead_of_gt hn _), fun h0 => ?_,
      fun hn h0 hcue => hserved (ownChaseRead_of_mem hn h0 hcue),
      fun hn h0 hnone => hserved (ownChaseRead_of_not_mem hn h0 hnone)⟩
    exact hserved ((congrArg (ownChaseRead · _) h0).trans (ownChaseRead_zero _))

end Sys2Proof.Machine
end

section
/-!
PROOFS. BACK and JUMP (R92, R93): the tests they share, the cue each moves the standing cue to, and how a request that
replaces the pointer is served.
-/

namespace Sys2Proof.Machine

/-! ## Requests that are refused, and requests that replace the pointer -/

/-- A port passes the set of one role just where it holds that role (R190). -/
theorem holds_singleton_iff (role : Role) (r : Req) (s : State) :
    holds [role] (s.port r.port) = true ↔ FromRole role r s := by
  unfold holds FromRole
  cases (s.port r.port).role <;> simp

/-- A command from a port that does not hold its role is refused NO_RIGHT, whatever its owner would decide (R190). -/
theorem command_noRight_served {α : Type} {r : Req} {role : Role} {decode : List Byte → Option α} {payload : List Byte}
    {owner : α → State → Answer} {s : State} {a : α} (h : Free r s) (hd : decode payload = some a)
    (hrole : ¬ FromRole role r s) :
    command r [role] decode payload owner s = { s with desk := (command r [role] decode payload owner s).desk } ∧
    Served r .noRight [] 0 s (command r [role] decode payload owner s) := by
  have hholds : ¬ holds [role] ((validFrame r.port s).port r.port) = true := by
    rwa [holds_validFrame, holds_singleton_iff]
  exact refused_served h (by simp only [hd, if_neg hholds, refuse])

/-- A command that its owner refuses changes nothing but the desk. -/
theorem command_refused_served {α : Type} {r : Req} {role : Role} {decode : List Byte → Option α} {payload : List Byte}
    {owner : α → State → Answer} {s : State} {a : α} {code : ReplyCode} (h : Free r s) (hrole : FromRole role r s)
    (hd : decode payload = some a) (ho : owner a (validFrame r.port s) = refuse code (validFrame r.port s)) :
    command r [role] decode payload owner s = { s with desk := (command r [role] decode payload owner s).desk } ∧
    Served r code [] 0 s (command r [role] decode payload owner s) :=
  refused_served h ((command_owner hd ((holds_singleton_iff role r s).mpr hrole)).trans ho)

/-- A command whose owner replaces the cue pointer: the pointer is the new one, and the CUE kind is pending where it
differs from the old one (R75). -/
theorem command_setPointer_served {α : Type} {r : Req} {role : Role} {decode : List Byte → Option α}
    {payload : List Byte} {owner : α → State → Answer} {s : State} {a : α} {p : Pointer} (h : Free r s)
    (hrole : FromRole role r s) (hd : decode payload = some a)
    (ho : owner a (validFrame r.port s) = accept (setPointer p (validFrame r.port s))) :
    let t := command r [role] decode payload owner s
    t = { s with pointer := p, desk := t.desk } ∧ Served r .ok [] (kindIf (s.pointer != p) .cue) s t := by
  intro t
  have hpointer : (validFrame r.port s).pointer = s.pointer := by simp
  have hcontains : [role].contains role = true := by simp
  rw [← hpointer]
  obtain ⟨ht, hserved⟩ := command_served _ h hrole hcontains hd ho fun q => notifyIf_validFrame r.port q _ .cue s rfl
  refine ⟨?_, hserved⟩
  calc t = { setPointer p (validFrame r.port s) with desk := t.desk } := ht
    _ = { s with pointer := p, desk := t.desk } := by
      rw [setPointer, notifyIf_eq]; simp [validFrame, State.setPort]

/-! ## The tests that BACK and JUMP share -/

/-- A decision that is reached in SHOW with the click IDLE: the tests 2 and 3 of R92 and of R93 come before it. -/
def whenIdleInShow (decision : State → Answer) (s : State) : Answer :=
  if s.inShow = false then refuse .setup s
  else if s.beats.click ≠ .idle then refuse .running s
  else decision s

/-- What refuses a command of one role behind the shared tests, in their order: its sender, the session, the click state. -/
theorem whenIdleInShow_command_refusals {α : Type} {r : Req} {role : Role} {decode : List Byte → Option α}
    {payload : List Byte} {owner : α → State → Answer} {s : State} {a : α} {decision : State → Answer} (h : Free r s)
    (hd : decode payload = some a) (ho : ∀ u, owner a u = whenIdleInShow decision u) :
    let t := command r [role] decode payload owner s
    let refused := fun (code : ReplyCode) => t = { s with desk := t.desk } ∧ Served r code [] 0 s t
    (¬ FromRole role r s → refused .noRight) ∧
    (FromRole role r s → s.inShow = false → refused .setup) ∧
    (FromRole role r s → s.inShow = true → s.beats.click ≠ .idle → refused .running) := by
  refine ⟨command_noRight_served h hd, fun hrole hsetup => command_refused_served h hrole hd ?_,
    fun hrole hshow hclick => command_refused_served h hrole hd ?_⟩
  · rw [ho]
    exact if_pos hsetup
  · rw [ho]
    exact (if_neg (by simpa [State.inShow] using hshow)).trans (if_pos (by simpa using hclick))

/-- Past the shared tests the decision is the owner's own. -/
theorem whenIdleInShow_validFrame (decision : State → Answer) {p : DeskPort} {s : State} (hshow : s.inShow = true)
    (hidle : s.beats.click = .idle) :
    whenIdleInShow decision (validFrame p s) = decision (validFrame p s) := by
  rw [whenIdleInShow, if_neg (by simpa [State.inShow] using hshow), if_neg (by simpa using hidle)]

/-! ## BACK -/

/-- The last of the sought cues of an ascending list is the one of greatest number: the cues after it have greater
numbers, so none of them is sought. -/
theorem getLast?_filter_of_greatest {l : List Cue} (h : cuesRise l) {p : Cue → Bool} {x : Cue} (hx : x ∈ l)
    (hp : p x = true) (hgreatest : ∀ y ∈ l, p y = true → y.number ≤ x.number) : (l.filter p).getLast? = some x := by
  obtain ⟨before, later, rfl⟩ := List.append_of_mem hx
  have hrise := (List.pairwise_append.mp h.pairwise).2.1
  have hlater : later.filter p = [] := List.filter_eq_nil_iff.mpr fun y hy hpy =>
    absurd (hgreatest y (List.mem_append_right _ (List.mem_cons_of_mem _ hy)) hpy)
      (List.rel_of_pairwise_cons hrise hy).not_ge
  rw [List.filter_append, List.filter_cons_of_pos hp, hlater, List.getLast?_concat]

/-- From the first cue there is no cue to move back to (R92). -/
theorem backTo_of_first {s : State} {n : Nat} (hn : s.pointer.standing = .cue n)
    (hfirst : ∀ d ∈ s.tables.cues, n ≤ d.number) : backTo s = none := by
  have hnone : s.tables.cues.filter (fun c => c.number < n) = [] :=
    List.filter_eq_nil_iff.mpr fun d hd => by simpa using hfirst d hd
  rw [backTo, hn]
  simp only [Tables.before, hnone, List.getLast?_nil, Option.map_none]

/-- From a cue, BACK moves to the cue of greatest number below it (R92). -/
theorem backTo_of_cue {s : State} (h : cuesRise s.tables.cues) {n : Nat} {d : Cue} (hd : d ∈ s.tables.cues)
    (hn : s.pointer.standing = .cue n) (hlt : d.number < n)
    (hgreatest : ∀ e ∈ s.tables.cues, e.number < n → e.number ≤ d.number) : backTo s = some d.number := by
  have hlast := getLast?_filter_of_greatest h (p := fun c => c.number < n) hd (by simpa using hlt)
    fun e he hsought => hgreatest e he (by simpa using hsought)
  rw [backTo, hn]
  simp only [Tables.before, hlast, Option.map_some]

/-- From END, BACK moves to the cue of greatest number (R92). -/
theorem backTo_of_ended {s : State} (h : cuesRise s.tables.cues) {d : Cue} (hd : d ∈ s.tables.cues)
    (hn : s.pointer.standing = .ended) (hgreatest : ∀ e ∈ s.tables.cues, e.number ≤ d.number) :
    backTo s = some d.number := by
  have hlast := getLast?_filter_of_greatest h (p := fun _ => true) hd rfl fun e he _ => hgreatest e he
  rw [List.filter_true] at hlast
  rw [backTo, hn]
  simp only [hlast, Option.map_some]

theorem backTo_validFrame (p : DeskPort) (s : State) : backTo (validFrame p s) = backTo s := by
  simp [backTo]

theorem payloadNone_nil : payloadNone [] = some () := rfl

/-- What BACK decides past the shared tests: it moves the standing cue, or there is no cue to move to (R92). -/
def backDecision (s : State) : Answer :=
  (backTo s).elim (refuse .noCue s) fun n => accept (setPointer { s.pointer with standing := .cue n, armed := none } s)

theorem ownBack_eq (s : State) : ownBack s = whenIdleInShow backDecision s := by
  unfold ownBack whenIdleInShow backDecision
  cases backTo s <;> simp

/-- BACK never moves the standing cue to where it is. -/
theorem backTo_ne_standing {s : State} {n : Nat} (h : backTo s = some n) : s.pointer.standing ≠ .cue n := by
  intro hn
  rw [backTo, hn] at h
  obtain ⟨c, hc, hcn⟩ := Option.map_eq_some_iff.mp h
  have hlt := (List.mem_filter.mp (List.mem_of_getLast? hc)).2
  simp [hcn] at hlt

/-- A BACK past the shared tests, from a cue that has none before it. -/
theorem back_refused_served {r : Req} {s : State} (h : Free r s) (hrole : FromRole .sm r s) (hshow : s.inShow = true)
    (hidle : s.beats.click = .idle) (hto : backTo s = none) :
    let t := command r [.sm] payloadNone [] (fun _ => ownBack) s
    t = { s with desk := t.desk } ∧ Served r .noCue [] 0 s t := by
  refine command_refused_served h hrole payloadNone_nil ?_
  rw [ownBack_eq, whenIdleInShow_validFrame _ hshow hidle, backDecision, backTo_validFrame, hto, Option.elim_none]

/-- A BACK past the shared tests, with a cue to move to: the CUE kind is always pending, as the standing cue moves. -/
theorem back_moved_served {r : Req} {s : State} {n : Nat} (h : Free r s) (hrole : FromRole .sm r s)
    (hshow : s.inShow = true) (hidle : s.beats.click = .idle) (hto : backTo s = some n) :
    let t := command r [.sm] payloadNone [] (fun _ => ownBack) s
    t = { s with pointer := { s.pointer with standing := .cue n, armed := none }, desk := t.desk } ∧
      Served r .ok [] 0x01 s t := by
  have howner : ownBack (validFrame r.port s) =
      accept (setPointer { s.pointer with standing := .cue n, armed := none } (validFrame r.port s)) := by
    rw [ownBack_eq, whenIdleInShow_validFrame _ hshow hidle, backDecision, backTo_validFrame, hto, Option.elim_some]
    simp
  have hmoves : (s.pointer != { s.pointer with standing := .cue n, armed := none }) = true :=
    bne_iff_ne.mpr fun hsame => backTo_ne_standing hto (congrArg Pointer.standing hsame)
  have hserved := command_setPointer_served (owner := fun _ => ownBack) h hrole payloadNone_nil howner
  rwa [hmoves] at hserved

/-- Settles O33: past the shared tests, an ascending list determines the cue BACK moves to. -/
theorem backMovesTheStandingCue : Obligations.BackMovesTheStandingCue := by
  intro r s hfree hrise
  obtain ⟨hnoRight, hsetup, hrunning⟩ := whenIdleInShow_command_refusals (role := .sm)
    (owner := fun _ => ownBack) hfree payloadNone_nil ownBack_eq
  refine ⟨_, rfl, hnoRight, hsetup, hrunning, fun hrole hshow hidle => ⟨fun n hn hfirst => ?_,
    fun n d hd hn hlt hgreatest => ?_, fun d hd hended hgreatest => ?_⟩⟩
  · exact back_refused_served hfree hrole hshow hidle (backTo_of_first hn hfirst)
  · exact back_moved_served hfree hrole hshow hidle (backTo_of_cue hrise hd hn hlt hgreatest)
  · exact back_moved_served hfree hrole hshow hidle (backTo_of_ended hrise hd hended hgreatest)

/-! ## JUMP -/

/-- What JUMP decides past the shared tests, with the greatest cue number written out (R93). -/
def jumpDecision (n : Nat) (s : State) : Answer :=
  if 99999 < n then refuse .range s
  else if (s.tables.find n).isNone then refuse .noCue s
  else accept (setPointer { s.pointer with standing := .cue n, armed := none, chasePending := true } s)

theorem ownJump_eq (n : Nat) (s : State) : ownJump n s = whenIdleInShow (jumpDecision n) s := by
  simp [ownJump, whenIdleInShow, jumpDecision, Config.cueNumberMax]

theorem jumpDecision_of_gt {n : Nat} (hn : 99999 < n) (s : State) : jumpDecision n s = refuse .range s := if_pos hn

theorem jumpDecision_of_not_mem {n : Nat} {s : State} (hn : n ≤ 99999) (hnone : ∀ x ∈ s.tables.cues, x.number ≠ n) :
    jumpDecision n s = refuse .noCue s := by
  have hfind : (s.tables.find n).isNone = true := by simpa [Tables.find] using hnone
  rw [jumpDecision, if_neg hn.not_gt, if_pos hfind]

theorem jumpDecision_of_mem {n : Nat} {s : State} (hn : n ≤ 99999) (hcue : ∃ x ∈ s.tables.cues, x.number = n) :
    jumpDecision n s =
      accept (setPointer { s.pointer with standing := .cue n, armed := none, chasePending := true } s) := by
  have hfind : ¬ (s.tables.find n).isNone = true := by simpa [Tables.find] using hcue
  rw [jumpDecision, if_neg hn.not_gt, if_neg hfind]

/-- A JUMP changes the pointer just where one of the three parts that it writes changes (R93). -/
theorem jump_pointer_bne (p : Pointer) (n : Nat) :
    (p != { p with standing := .cue n, armed := none, chasePending := true }) =
      decide (p.standing ≠ .cue n ∨ p.armed ≠ none ∨ p.chasePending = false) := by
  obtain ⟨standing, current, armed, chasePending, startIgnored⟩ := p
  rw [Bool.eq_iff_iff, bne_iff_ne, decide_eq_true_iff]
  simp only [ne_eq, Pointer.mk.injEq, true_and, and_true]
  cases chasePending <;> simp [Decidable.imp_iff_not_or]

/-- Settles O34: past the shared tests, the number alone and the list decide what JUMP does. -/
theorem jumpSetsTheStandingCue : Obligations.JumpSetsTheStandingCue := by
  intro r a b c d s hfree n
  have hdecode : payload4 [a, b, c, d] = some n := payload4_bytes a b c d
  obtain ⟨hnoRight, hsetup, hrunning⟩ := whenIdleInShow_command_refusals (role := .sm) hfree hdecode (ownJump_eq n)
  refine ⟨_, rfl, hnoRight, hsetup, hrunning, fun hrole hshow hidle => ?_⟩
  have htables : (validFrame r.port s).tables = s.tables := by simp
  have hpointer : (validFrame r.port s).pointer = s.pointer := by simp
  have howner : ownJump n (validFrame r.port s) = jumpDecision n (validFrame r.port s) :=
    (ownJump_eq n _).trans (whenIdleInShow_validFrame _ hshow hidle)
  refine ⟨fun hn => ?_, fun hn hnone => ?_, fun hn hcue => ?_⟩
  · exact command_refused_served hfree hrole hdecode (howner.trans (jumpDecision_of_gt hn _))
  · rw [← htables] at hnone
    exact command_refused_served hfree hrole hdecode (howner.trans (jumpDecision_of_not_mem hn hnone))
  · rw [← htables] at hcue
    have haccept := howner.trans (jumpDecision_of_mem hn hcue)
    rw [hpointer] at haccept
    rw [← jump_pointer_bne]
    exact command_setPointer_served hfree hrole hdecode haccept

end Sys2Proof.Machine
end

section
/-!
PROOFS. What a step keeps. A property of the part that the shared writes keep is kept by everything made of them: by a
sampling of the stops, by the taking of a cue, by the reviews that follow an event, and at last by every command. The
structures below list those writes once; each invariant then answers them and nothing more.
-/

namespace Sys2Proof.Machine

set_option Elab.async false

/-! ## The writes -/

/-- Is a stop state one in which the stop stack holds a record? (TABLE 9-3) -/
def StopState.stacked : StopState → Bool
  | .stopping | .stopped => true
  | _ => false

/-- A write of the stops that leaves the levels, the stack and the hold-off count, and moves the stop state only within
the states that have a record on the stack or within those that have none. -/
structure SameStack (x y : Stops) : Prop where
  levels : y.levels = x.levels
  stack : y.stack = x.stack
  holdOff : y.holdOff = x.holdOff
  state : y.state.stacked = x.state.stacked

/-- A write of the pictures that leaves of each camera all but its mark queue, and the slots that the monitors hold. -/
structure SameRings (p q : Picture) : Prop where
  cam : ∀ k, q.cam k = { p.cam k with marks := (q.cam k).marks }
  held : ∀ m, (q.monitor m).held = (p.monitor m).held

theorem SameRings.ring {p q : Picture} (h : SameRings p q) (k : Camera) : (q.cam k).ring = (p.cam k).ring := by
  rw [h.cam]

theorem SameRings.ready {p q : Picture} (h : SameRings p q) (k : Camera) : (q.cam k).ready = (p.cam k).ready := by
  rw [h.cam]

/-- A write of the rig records that leaves every binding. -/
structure SameBindings (x y : Rigs) : Prop where
  ports : ∀ p, (tget y.ports p).boundSlot = (tget x.ports p).boundSlot
  slots : ∀ k, (tget y.slots k).boundPort = (tget x.slots k).boundPort

/-- A write of the rig records that leaves every binding and every link, a slot in FAULT with nothing pending, and a port
that no slot is bound to: the placing and the sending of changes. -/
structure SameLinks (x y : Rigs) : Prop extends SameBindings x y where
  faults : ∀ k, (tget x.slots k).state = .fault → (tget x.slots k).pendingChange = none → tget y.slots k = tget x.slots k
  links : ∀ p, (tget y.ports p).linkUp = (tget x.ports p).linkUp
  unbound : ∀ p, (∀ k, (tget x.slots k).boundPort ≠ some p) → tget y.ports p = tget x.ports p

/-- A property that the writes keep with which no invariant is concerned, and a notice. -/
structure Steady (I : State → Prop) : Prop where
  notify : ∀ k s, I s → I (notify k s)
  time : ∀ x s, I s → I { s with time := x }
  pointer : ∀ x s, I s → I { s with pointer := x }
  overlay : ∀ x s, I s → I { s with overlay := x }
  resume : ∀ x s, I s → I { s with resume := x }
  clicks : ∀ x s, x.memory = s.clicks.memory → x.directory = s.clicks.directory → I s → I { s with clicks := x }
  rigs : ∀ x s, SameLinks s.rigs x → I s → I { s with rigs := x }
  picture : ∀ x s, SameRings s.picture x → I s → I { s with picture := x }
  stops : ∀ x s, SameStack s.stops x → I s → I { s with stops := x }

/-- The state after a source's record has been pushed, before its profile is handed (R160, R183). -/
def pushed (i : StopSource) (s : State) : State :=
  let s := suspendResume s
  let s := notify .stop { s with stops := s.stops.push i }
  let s := if i.isCommand then setRaised i false s else s
  setStopState .stopping (setHoldOff 0 s)

/-- A take is the push of the record and the handing of the components that have risen. -/
theorem takeStop_eq (i : StopSource) (s : State) :
    takeStop i s = handProfile s.stops.effective (pushed i s).stops.effective (pushed i s) := rfl

/-- A property that what a sampling is made of keeps: the hold-off count, the end of the click, the push of an eligible
source, and HALTED. -/
structure KeptBySampling (I : State → Prop) : Prop extends Steady I where
  holdOff : ∀ n s, n ≤ 32 ∨ n ≤ s.stops.holdOff → I s → I { s with stops := { s.stops with holdOff := n } }
  cutBeats : ∀ s, I s → I (cutBeats s)
  finishClick : ∀ s, I s → I (finishClick s)
  push : ∀ c i s, s.inShow = true → s.stops.state ≠ .halted → chosen c s = some i → I s → I (pushed i s)
  halt : ∀ i s, I s → I (halt i s)

/-! ## The writes of no concern -/

section Steady

variable {I : State → Prop} (h : Steady I)
include h

theorem Steady.of_notifyIf (b : Bool) (k : NoticeKind) {s : State} (hs : I s) : I (notifyIf b k s) := by
  cases b
  · exact hs
  · exact h.notify k s hs

theorem Steady.of_setRaised (i : StopSource) (b : Bool) {s : State} (hs : I s) : I (setRaised i b s) :=
  h.of_notifyIf _ _ (h.stops _ _ ⟨rfl, rfl, rfl, rfl⟩ hs)

theorem Steady.of_lowerCommands {s : State} (hs : I s) : I (lowerCommands s) :=
  h.of_setRaised _ _ (h.of_setRaised _ _ (h.of_setRaised _ _ hs))

theorem Steady.of_setPointer (p : Pointer) {s : State} (hs : I s) : I (setPointer p s) :=
  h.of_notifyIf _ _ (h.pointer _ _ hs)

theorem Steady.of_clearArmed {s : State} (hs : I s) : I (clearArmed s) := h.of_notifyIf _ _ (h.pointer _ _ hs)

theorem Steady.of_cutFlashes {s : State} (hs : I s) : I (cutFlashes s) := h.overlay _ _ hs

theorem Steady.of_setFrozen (b : Bool) {s : State} (hs : I s) : I (setFrozen b s) :=
  h.of_notifyIf _ _ (h.picture _ _ ⟨fun k => by cases k <;> rfl, fun m => by simp [Picture.freezeAll, Picture.monitor]⟩ hs)

/-- A rig record whose bound port stands is replaced, but for one in FAULT with nothing pending. -/
theorem Steady.of_setRig (k : Slot) (r : Rig) {s : State} (hr : r.boundPort = (s.rig k).boundPort)
    (hf : (s.rig k).state = .fault → (s.rig k).pendingChange = none → r = s.rig k) (hs : I s) : I (setRig k r s) := by
  have hsame : SameLinks s.rigs { s.rigs with slots := tput s.rigs.slots k r } := {
    ports := fun _ => rfl
    slots := fun j => by
      simp only [tget_tput]
      split
      · next e => rw [hr, e]; rfl
      · rfl
    faults := fun j hj hn => by
      simp only [tget_tput]
      split
      · next e => rw [← e] at hj hn ⊢; exact hf hj hn
      · rfl
    links := fun _ => rfl
    unbound := fun _ _ => rfl }
  exact h.of_notifyIf _ _ (h.rigs _ _ hsame hs)

/-- A bound port's record is replaced, its bound slot and its link standing. -/
theorem Steady.of_setRigPort {k : Slot} (p : RigPort) (r : RigPortRec) {s : State} (hr : r.boundSlot = (s.rigPort p).boundSlot)
    (hl : r.linkUp = (s.rigPort p).linkUp) (hp : (s.rig k).boundPort = some p) (hs : I s) : I (setRigPort p r s) := by
  have hsame : SameLinks s.rigs { s.rigs with ports := tput s.rigs.ports p r } := {
    ports := fun q => by
      simp only [tget_tput]
      split
      · next e => rw [hr, e]; rfl
      · rfl
    slots := fun _ => rfl
    faults := fun _ _ _ => rfl
    links := fun q => by
      simp only [tget_tput]
      split
      · next e => rw [hl, e]; rfl
      · rfl
    unbound := fun q hq => by
      simp only [tget_tput]
      rw [if_neg]
      rintro rfl
      exact hq k hp }
  exact h.of_notifyIf _ _ (h.rigs _ _ hsame hs)

/-! ## Rigs -/

end Steady

/-- What every step of a fold keeps, the fold keeps. -/
theorem foldl_keeps {α : Type} {I : State → Prop} {f : State → α → State} (hf : ∀ s a, I s → I (f s a)) (l : List α)
    {s : State} (hs : I s) : I (l.foldl f s) := by
  induction l generalizing s with
  | nil => exact hs
  | cons a l ih => exact ih (hf s a hs)

/-- What both branches of a test keep, the test keeps. -/
theorem ite_keeps {I : State → Prop} {c : Prop} [Decidable c] {s t : State} (hs : I s) (ht : I t) :
    I (if c then s else t) := by
  split
  · exact hs
  · exact ht

@[simp] theorem Rig.supersede_boundPort (r : Rig) : r.supersede.boundPort = r.boundPort := by
  unfold Rig.supersede; split <;> rfl

@[simp] theorem Rig.supersede_state (r : Rig) : r.supersede.state = r.state := by
  unfold Rig.supersede; split <;> rfl

@[simp] theorem Rig.contest_boundPort (r : Rig) (x : Handed) : (r.contest x).boundPort = r.boundPort := by
  unfold Rig.contest
  split
  · split
    · rfl
    · exact r.supersede_boundPort
  · rfl

@[simp] theorem Rig.dropSafe_boundPort (r : Rig) : r.dropSafe.boundPort = r.boundPort := by
  unfold Rig.dropSafe
  split
  · split
    · exact r.supersede_boundPort
    · rfl
  · rfl

@[simp] theorem rig_notifyIf (b : Bool) (k : NoticeKind) (s : State) (j : Slot) : (notifyIf b k s).rig j = s.rig j := by
  simp [State.rig]

@[simp] theorem rigPort_notifyIf (b : Bool) (k : NoticeKind) (s : State) (p : RigPort) :
    (notifyIf b k s).rigPort p = s.rigPort p := by
  simp [State.rigPort]

theorem rig_setRig (k j : Slot) (r : Rig) (s : State) : (setRig k r s).rig j = if k = j then r else s.rig j := by
  simp [setRig, State.rig, tget_tput]

@[simp] theorem rig_setRig_same (k : Slot) (r : Rig) (s : State) : (setRig k r s).rig k = r := by simp [rig_setRig]

@[simp] theorem rigPort_setRig (k : Slot) (r : Rig) (s : State) (p : RigPort) :
    (setRig k r s).rigPort p = s.rigPort p := by
  simp [setRig, State.rigPort]

theorem rigPort_setRigPort (p q : RigPort) (r : RigPortRec) (s : State) :
    (setRigPort p r s).rigPort q = if p = q then r else s.rigPort q := by
  simp [setRigPort, State.rigPort, tget_tput]

@[simp] theorem rigPort_setRigPort_same (p : RigPort) (r : RigPortRec) (s : State) :
    (setRigPort p r s).rigPort p = r := by simp [rigPort_setRigPort]

@[simp] theorem rig_setRigPort (p : RigPort) (r : RigPortRec) (s : State) (k : Slot) :
    (setRigPort p r s).rig k = s.rig k := by
  simp [setRigPort, State.rig]

/-- A slot that is not in FAULT may be written. -/
theorem eq_of_not_faulted {r q : Rig} {x : RigState} (h : r.state = x) (hx : x ≠ .fault) (hf : r.state = .fault)
    (_ : r.pendingChange = none) : q = r := absurd (h.symm.trans hf) hx

section Steady

variable {I : State → Prop} (h : Steady I)
include h

theorem Steady.of_sendChange (k : Slot) (x : Patch) (c : ChangeKind) {s : State}
    (hf : (s.rig k).state = .fault → (s.rig k).pendingChange ≠ none) (hs : I s) : I (sendChange k x c s) := by
  unfold sendChange
  split
  · exact hs
  · next p hp =>
    exact h.of_setRig _ _ rfl (fun hj hn => absurd (by rwa [rig_setRigPort] at hn) (hf (by rwa [rig_setRigPort] at hj)))
      (h.of_setRigPort _ _ rfl rfl hp hs)

theorem Steady.of_placeChange (k : Slot) (x : Handed) {s : State} (hs : I s) : I (placeChange k x s) := by
  unfold placeChange
  dsimp only
  split
  · exact hs
  · exact hs
  · next hstate => exact h.of_setRig _ _ (by simp) (eq_of_not_faulted hstate (by decide)) hs
  · next hstate =>
    have hr : I (setRig k (s.rig k).supersede s) := h.of_setRig _ _ (by simp) (eq_of_not_faulted hstate (by decide)) hs
    have hstate' : ((setRig k (s.rig k).supersede s).rig k).state = .ready := by
      rw [rig_setRig_same, Rig.supersede_state, hstate]
    split
    · exact h.of_sendChange _ _ _ (fun hf => by rw [hstate'] at hf; cases hf) hr
    · exact h.of_setRig _ _ (by simp [Rig.hold]) (eq_of_not_faulted hstate' (by decide)) hr

omit h in
theorem forBound_keeps {f : Slot → State → State} (hf : ∀ k s, I s → I (f k s)) {s : State} (hs : I s) :
    I (forBound f s) := by
  refine foldl_keeps (fun s k hs => ?_) _ hs
  split
  · exact hf k s hs
  · exact hs

theorem Steady.of_handSafes {s : State} (hs : I s) : I (handSafes s) :=
  forBound_keeps (fun k _ hs => h.of_placeChange k _ hs) hs

theorem Steady.of_handChase (a : ChaseAt) {s : State} (hs : I s) : I (handChase a s) :=
  forBound_keeps (fun k _ hs => h.of_placeChange k _ hs) hs

theorem Steady.of_dropSafes {s : State} (hs : I s) : I (dropSafes s) :=
  h.rigs _ _ {
    ports := fun _ => rfl
    slots := fun k => by simp
    faults := fun k _ hn => by rw [tget_tmap, Rig.dropSafe, hn]
    links := fun _ => rfl
    unbound := fun _ _ => rfl } hs

theorem Steady.of_sendIfDue (k : Slot) {s : State} (hs : I s) : I (sendIfDue k s) := by
  unfold sendIfDue
  dsimp only
  split
  · split
    · next hready _ _ => exact h.of_sendChange _ _ _ (fun hf => by rw [hready] at hf; cases hf) hs
    · exact hs
  · exact hs

theorem Steady.of_releaseHeld {s : State} (hs : I s) : I (releaseHeld s) :=
  foldl_keeps (fun _ k hs => h.of_sendIfDue k hs) _ hs

/-- What the entry to a stop state does to the pending changes. -/
theorem Steady.of_setStopState_of {x : StopState} {s : State}
    (hs : I (notifyIf (s.stops.state != x) .stop { s with stops := { s.stops with state := x } })) :
    I (setStopState x s) := by
  have hd : I (if x.dropsSafes then dropSafes (notifyIf (s.stops.state != x) .stop { s with stops := { s.stops with state := x } })
      else notifyIf (s.stops.state != x) .stop { s with stops := { s.stops with state := x } }) := by
    split
    · exact h.of_dropSafes hs
    · exact hs
  unfold setStopState
  dsimp only
  split
  · exact h.of_releaseHeld hd
  · exact hd

/-- The stop state moves within the states that have a record on the stack, or within those that have none. -/
theorem Steady.of_setStopState {x : StopState} {s : State} (hx : x.stacked = s.stops.state.stacked) (hs : I s) :
    I (setStopState x s) :=
  h.of_setStopState_of (h.of_notifyIf _ _ (h.stops _ _ ⟨rfl, rfl, rfl, hx⟩ hs))

theorem Steady.of_forceVisit (k : Slot) {s : State} (hs : I s) : I (forceVisit s k) := by
  unfold forceVisit
  dsimp only
  split
  · next hn => exact h.of_sendIfDue _ (h.of_setRig _ _ rfl (fun _ hnone => absurd (hn.symm.trans hnone) (by simp)) hs)
  · next hn => exact h.of_setRig _ _ rfl (fun _ hnone => absurd (hn.symm.trans hnone) (by simp)) hs
  · exact hs

theorem Steady.of_forceVisits {s : State} (hs : I s) : I (forceVisits s) :=
  foldl_keeps (fun _ k hs => h.of_forceVisit k hs) _ hs

theorem Steady.of_suspendResume {s : State} (hs : I s) : I (suspendResume s) := by
  unfold suspendResume
  split
  · exact h.resume _ _ hs
  · exact hs

end Steady

/-! ## Samplings -/

@[simp] theorem schedule_keeps (g : ClickGen) (b : Beat) :
    (g.schedule b).memory = g.memory ∧ (g.schedule b).directory = g.directory := ⟨rfl, rfl⟩

/-- A mark joins the queues without a change of the rings. -/
theorem SameRings.addMarks (p : Picture) (b : Beat) : SameRings p (p.addMarks b) where
  cam k := by cases k <;> simp only [Picture.addMarks, Picture.cam, CameraRec.addMark] <;> split <;> rfl
  held _ := rfl

section KeptBySampling

variable {I : State → Prop} (h : KeptBySampling I)
include h

theorem KeptBySampling.of_setHoldOff {n : Nat} {s : State} (hn : n ≤ 32 ∨ n ≤ s.stops.holdOff) (hs : I s) :
    I (setHoldOff n s) :=
  h.of_notifyIf _ _ (h.holdOff n s hn hs)

theorem KeptBySampling.of_cutClick {s : State} (hs : I s) : I (cutClick s) :=
  h.of_clearArmed (h.of_cutFlashes (h.clicks _ _ rfl rfl (h.cutBeats s hs)))

theorem KeptBySampling.of_handProfile (x y : Profile) {s : State} (hs : I s) : I (handProfile x y s) := by
  have hc : I (if x.click.rank < y.click.rank then
      match y.click with
      | .cut => cutClick s
      | .bar => Machine.finishClick s
      | .continued => s
    else s) := by
    split
    · split
      · exact h.of_cutClick hs
      · exact h.finishClick s hs
      · exact hs
    · exact hs
  have hr := h.of_handSafes hc
  unfold handProfile
  dsimp only
  split <;> split
  · exact h.of_setFrozen _ hr
  · exact h.of_setFrozen _ hc
  · exact hr
  · exact hc

theorem KeptBySampling.of_sampleOnce (c : Bool) {s : State} (hs : I s) : I (sampleOnce c s) := by
  unfold sampleOnce
  split
  · next hshow =>
    simp only [Bool.and_eq_true, bne_iff_ne] at hshow
    split
    · next i hi =>
      rw [takeStop_eq]
      exact h.of_handProfile _ _ (h.push c i s hshow.1 hshow.2 hi hs)
    · exact hs
  · exact hs

theorem KeptBySampling.of_sample (c : Bool) {s : State} (hs : I s) : I (sample c s) := by
  unfold sample
  dsimp only
  split
  · exact h.of_sampleOnce _ (h.of_sampleOnce _ hs)
  · exact h.of_sampleOnce _ hs

theorem KeptBySampling.of_afterRaising (i : StopSource) {s : State} (hs : I s) : I (afterRaising i s) := by
  unfold afterRaising
  split
  · exact hs
  · split
    · exact h.halt i s hs
    · exact h.of_sample _ hs

theorem KeptBySampling.of_raiseCondition (i : StopSource) {s : State} (hs : I s) : I (raiseCondition i s) := by
  unfold raiseCondition
  split
  · exact hs
  · exact h.of_afterRaising i (h.of_setRaised _ _ hs)

theorem KeptBySampling.of_announceOutputs (b : Beat) {s : State} (hs : I s) : I (announceOutputs b s) := by
  have hc : I { s with clicks := s.clicks.schedule b } := h.clicks (s.clicks.schedule b) s rfl rfl hs
  have hp : I { s with clicks := s.clicks.schedule b, picture := s.picture.addMarks b } :=
    h.picture (s.picture.addMarks b) { s with clicks := s.clicks.schedule b } (SameRings.addMarks _ b) hc
  have ht : I (setTargets b { s with clicks := s.clicks.schedule b, picture := s.picture.addMarks b }) :=
    h.overlay _ _ hp
  exact ite_keeps (h.overlay _ _ ht) ht

/-- The announcement of a beat, with its commit sampling where it has one (R22, R166). -/
theorem KeptBySampling.of_announceBeat (c : Bool) (b : Beat) {s : State} (hs : I s) : I (announceBeat c b s) := by
  have ha := h.of_announceOutputs b hs
  have hh : I (if (announceOutputs b s).stops.holdOff = 0 then announceOutputs b s
      else setHoldOff ((announceOutputs b s).stops.holdOff - 1) (announceOutputs b s)) :=
    ite_keeps ha (h.of_setHoldOff (.inr (Nat.sub_le _ _)) ha)
  generalize hu : (if (announceOutputs b s).stops.holdOff = 0 then announceOutputs b s
      else setHoldOff ((announceOutputs b s).stops.holdOff - 1) (announceOutputs b s)) = u at hh
  have hsample : I (if c then sample true u else u) := ite_keeps (h.of_sample true hh) hh
  have heq : announceBeat c b s = if b.downbeat then forceVisits (if c then sample true u else u)
      else if c then sample true u else u := by rw [← hu]; rfl
  rw [heq]
  exact ite_keeps (h.of_forceVisits hsample) hsample

end KeptBySampling

/-! ## What the operations on the beats write -/

@[simp] theorem setClick_beats (c : ClickState) (s : State) : (setClick c s).beats = { s.beats with click := c } := by
  unfold setClick
  dsimp only
  split <;> simp

@[simp] theorem emptyVamps_beats (s : State) :
    (emptyVamps s).beats = { s.beats with vamps := [], pushes := [] } := by
  simp [emptyVamps]

@[simp] theorem clearCountIn_beats (s : State) : (clearCountIn s).beats = { s.beats with countInLeft := 0 } := rfl

/-- The beat state of a click that has entered IDLE (R20, R38). -/
def BeatState.idled (b : BeatState) : BeatState :=
  { b with click := .idle, current := none, next := none, nextOnset := none, firstBarDue := false,
           lastBarToBegin := false, vamps := [], pushes := [] }

@[simp] theorem enterIdle_beats (s : State) : (enterIdle s).beats = s.beats.idled := by
  simp [enterIdle, BeatState.idled]

theorem cutBeats_of_idle {s : State} (hidle : s.beats.click = .idle) : cutBeats s = s := by
  rw [cutBeats, hidle]

theorem cutBeats_of_not_idle {s : State} (hidle : s.beats.click ≠ .idle) :
    cutBeats s =
      let t := discardOpt s.beats.next (discardOpt s.beats.current s)
      enterIdle { t with beats := { t.beats with countInLeft := 0 } } := by
  unfold cutBeats
  split
  · next e => exact absurd e hidle
  · rfl

/-- The beat state after a CUT: a running click is IDLE with nothing left of its run (R28). -/
theorem cutBeats_beats (s : State) :
    (cutBeats s).beats = if s.beats.click = .idle then s.beats else { s.beats.idled with countInLeft := 0 } := by
  split
  · next hidle => rw [cutBeats_of_idle hidle]
  · next hidle => simp [cutBeats_of_not_idle hidle, BeatState.idled]

@[simp] theorem cutClick_beats (s : State) : (cutClick s).beats = (cutBeats s).beats := by simp [cutClick]

/-- The beat state after a STOP or BAR: a click in COUNT_IN or RUNNING is FINISHING (R26). -/
theorem finishClick_beats (s : State) :
    (finishClick s).beats =
      if s.beats.click = .countIn ∨ s.beats.click = .running then
        { s.beats with click := .finishing, lastBarToBegin := s.commitDue && s.beats.barStartNext }
      else s.beats := by
  cases hc : s.beats.click <;>
    simp [finishClick, hc, State.commitDue, BeatState.barStartNext, BeatState.latest] <;> rfl

/-- A property that does not depend on the stops is kept by a sampling once its other writes keep it. -/
theorem KeptBySampling.of_anyStops {I : State → Prop} (h : Steady I) (hstops : ∀ x s, I s → I { s with stops := x })
    (hcut : ∀ s, I s → I (Machine.cutBeats s)) (hfinish : ∀ s, I s → I (Machine.finishClick s)) : KeptBySampling I :=
  have hcutClick : ∀ s, I s → I (cutClick s) := fun s hs =>
    h.of_clearArmed (h.of_cutFlashes (h.clicks (Machine.cutBeats s).clicks.silence (Machine.cutBeats s) rfl rfl (hcut s hs)))
  have hholdOff : ∀ n s, I s → I (setHoldOff n s) := fun n s hs => h.of_notifyIf _ _ (hstops _ _ hs)
  have hstate : ∀ x s, I s → I (setStopState x s) := fun x s hs =>
    h.of_setStopState_of (h.of_notifyIf _ _ (hstops _ _ hs))
  { h with
    holdOff := fun _ _ _ hs => hstops _ _ hs
    cutBeats := hcut
    finishClick := hfinish
    push := fun _ i s _ _ _ hs => by
      have hn := h.notify .stop _ (hstops ((suspendResume s).stops.push i) _ (h.of_suspendResume hs))
      unfold pushed
      dsimp only
      exact hstate _ _ (hholdOff _ _ (ite_keeps (h.of_setRaised i false hn) hn))
    halt := fun i s hs => by
      unfold Machine.halt
      dsimp only
      have hempty := h.of_lowerCommands (h.notify .stop _ (hstops { s.stops with
        halt := some { raisedSource := i, topSource := s.stops.topSource i }, stack := [], runAdvisory := false,
        topTicked := false, topReported := false } s hs))
      exact hstate _ _ (h.of_setFrozen _ (h.of_handSafes (hcutClick _ (hholdOff _ _ hempty)))) }

/-! ## The taking of a cue -/

/-- The writes of the tempo state (R10 to R15, R79). -/
inductive TempoWrite (s : State) : TempoState → Prop where
  | set (v : Nat) : TempoWrite s (s.tempo.setTempo v)
  | nudge (percent : Nat) : TempoWrite s (s.tempo.nudge percent)
  | tap (taps : List Nat) : TempoWrite s (s.tempo.acceptTap taps)
  | unclamp : TempoWrite s { s.tempo with clamped := false }
  | dropTaps : TempoWrite s { s.tempo with taps := [] }
  | cue (c : Cue) (hc : c ∈ s.tables.cues) : TempoWrite s (s.tempo.apply c.tempo)
  | chase (a : ChaseAt) : TempoWrite s (s.tempo.apply (s.tables.tempoChase a))

/-- The writes of the beat state outside the commits and the ends of the click. -/
inductive BeatWrite (s : State) : BeatState → Prop where
  | overflow (b : Bool) : BeatWrite s { s.beats with overflow := b }
  | release (v : Vamp) (outer : List Vamp) (hv : s.beats.vamps = v :: outer) :
      BeatWrite s { s.beats with vamps := { v with released := true } :: outer }
  | meterAndBar (c : Cue) (hc : c ∈ s.tables.cues) :
      BeatWrite s { s.beats with
        pendingMeter := c.meter <|> s.beats.pendingMeter, pendingBar := c.scoreBar <|> s.beats.pendingBar }
  | dropPending : BeatWrite s { s.beats with pendingMeter := none, pendingBar := none }
  | meter (m : Nat) : BeatWrite s { s.beats with pendingBar := none, pendingMeter := none, meter := m }
  | dropVamps : BeatWrite s { s.beats with vamps := [], pushes := [] }
  | countIn : BeatWrite s { s.beats with countInLeft := 0 }
  | onset : BeatWrite s s.beats.takeOnset
  | discard (hd : s.beats.discardsNext = true) : BeatWrite s { s.beats.takeOnset with nextOnset := none }
  | push (c : Cue) (v : VampSpec) (hc : c ∈ s.tables.cues) (hv : c.vamp = some v) (hp : s.beats.pushes.length < 4) :
      BeatWrite s { s.beats with pushes := s.beats.pushes ++ [v] }

/-- The state in which a START commits its first beat (R25). -/
def started (countIn startBar : Nat) (s : State) : State :=
  let t := setClick (if countIn = 0 then .running else .countIn) s
  { t with beats := { t.beats with
    nextOnset := some (q16OfSample (t.now + Config.horizon)), countInLeft := countIn, countInLength := countIn,
    firstBarDue := true, startBar := startBar, lastBarToBegin := false } }

theorem startClick_of_idle {s : State} (hidle : s.beats.click = .idle) (c : Bool) (countIn startBar : Nat) :
    startClick c countIn startBar s = commitBeat c (started countIn startBar s) := by
  rw [startClick, hidle]; rfl

theorem startClick_of_not_idle {s : State} (hidle : s.beats.click ≠ .idle) (c : Bool) (countIn startBar : Nat) :
    startClick c countIn startBar s = s := by
  unfold startClick
  split
  · next e => exact absurd e hidle
  · rfl

theorem commitBeat_of_onset {s : State} {o : Nat} (ho : s.beats.nextOnset = some o) (c : Bool) :
    commitBeat c s = announceBeat c (fixBeat o s).1 (fixBeat o s).2 := by
  rw [commitBeat, ho]

theorem commitBeat_of_none {s : State} (ho : s.beats.nextOnset = none) (c : Bool) : commitBeat c s = s := by
  rw [commitBeat, ho]

@[simp] theorem started_nextOnset (countIn startBar : Nat) (s : State) :
    (started countIn startBar s).beats.nextOnset = some (q16OfSample (s.now + 4800)) := by
  simp [started, Config.horizon]

/-- The start bars of a START: bar 1 of a cue's, and the chased bar plus the offset of a resume GO's (R31, R39). -/
inductive StartBar (t : Tables) : Nat → Prop where
  | one : StartBar t 1
  | chase (a : ChaseAt) (offset : Nat) : StartBar t (min (t.barChase a + offset) Config.barMax)

/-- A property that what a cue's taking is made of keeps: the commits, the starts, and the writes of the tempo and of the
vamps. -/
structure KeptByCues (I : State → Prop) : Prop extends KeptBySampling I where
  tempo : ∀ x s, TempoWrite s x → I s → I { s with tempo := x }
  beats : ∀ x s, BeatWrite s x → I s → I { s with beats := x }
  enterIdle : ∀ s, I s → I (enterIdle s)
  fixBeat : ∀ o s, s.beats.nextOnset = some o → I s → I (fixBeat o s).2
  firstBeat : ∀ o n b s, s.beats.click = .idle → StartBar s.tables b → I s →
    I (Machine.fixBeat o (started n b s)).2
  pushVamp : ∀ b c v s, s.beats.click = .idle → (takeClick (.start 0) s).beats.next = some b → c ∈ s.tables.cues →
    c.vamp = some v → I s → I (takeClick (.start 0) s) → I (pushVamp b.bar.toNat (takeClick (.start 0) s) v)

/-- A beat that stands in NEXT is a music beat of a run whose first music bar has begun (R31). -/
def MusicNext (b : BeatState) : Prop := ∀ n, b.next = some n → n.countIn = false ∧ b.firstBarDue = false

/-- A property of the beat state alone. -/
theorem Steady.of_beatState (Q : BeatState → Prop) : Steady fun s => Q s.beats where
  notify _ _ hs := hs
  time _ _ hs := hs
  pointer _ _ hs := hs
  overlay _ _ hs := hs
  resume _ _ hs := hs
  clicks _ _ _ _ hs := hs
  rigs _ _ _ hs := hs
  picture _ _ _ hs := hs
  stops _ _ _ hs := hs

/-- A sampling leaves the beat in NEXT as it is, or takes it away. -/
theorem MusicNext.keptBySampling : KeptBySampling fun s => MusicNext s.beats := by
  refine .of_anyStops (.of_beatState _) (fun _ _ hs => hs) (fun s hs => ?_) (fun s hs => ?_)
  · by_cases hidle : s.beats.click = .idle
    · rwa [cutBeats_of_idle hidle]
    · intro n hn
      simp [cutBeats_beats, hidle, BeatState.idled] at hn
  · intro n hn
    rw [finishClick_beats] at hn ⊢
    split at hn
    · next hc => simpa [hc] using hs n hn
    · next hc => simpa [hc] using hs n hn

@[simp] theorem pushVamp_beats_next (bar : Nat) (s : State) (v : VampSpec) :
    (pushVamp bar s v).beats.next = s.beats.next ∧ (pushVamp bar s v).beats.firstBarDue = s.beats.firstBarDue ∧
    (pushVamp bar s v).beats.click = s.beats.click := by
  unfold pushVamp vampOverflow
  split <;> simp

@[simp] theorem pushAll_beats_next (bar : Nat) (s : State) :
    (pushAll bar s).beats.next = s.beats.next ∧ (pushAll bar s).beats.firstBarDue = s.beats.firstBarDue ∧
    (pushAll bar s).beats.click = s.beats.click := by
  unfold pushAll
  refine ⟨?_, ?_, ?_⟩
  · exact keep_foldl (fun t => t.beats.next) _ _ _ (by simp)
  · exact keep_foldl (fun t => t.beats.firstBarDue) _ _ _ (by simp)
  · exact keep_foldl (fun t => t.beats.click) _ _ _ (by simp)

@[simp] theorem takeMeter_keeps (b : BeatState) :
    b.takeMeter.click = b.click ∧ b.takeMeter.current = b.current ∧ b.takeMeter.next = b.next ∧
    b.takeMeter.nextOnset = b.nextOnset ∧ b.takeMeter.countInLeft = b.countInLeft ∧
    b.takeMeter.countInLength = b.countInLength ∧ b.takeMeter.firstBarDue = b.firstBarDue ∧
    b.takeMeter.startBar = b.startBar ∧ b.takeMeter.lastBarToBegin = b.lastBarToBegin ∧
    b.takeMeter.pendingBar = b.pendingBar ∧ b.takeMeter.vamps = b.vamps ∧ b.takeMeter.pushes = b.pushes ∧
    b.takeMeter.overflow = b.overflow := by
  unfold BeatState.takeMeter
  split <;> simp

@[simp] theorem takeOnset_keeps (b : BeatState) :
    b.takeOnset.click = b.click ∧ b.takeOnset.nextOnset = b.nextOnset ∧ b.takeOnset.countInLeft = b.countInLeft ∧
    b.takeOnset.countInLength = b.countInLength ∧ b.takeOnset.firstBarDue = b.firstBarDue ∧
    b.takeOnset.startBar = b.startBar ∧ b.takeOnset.lastBarToBegin = b.lastBarToBegin ∧ b.takeOnset.meter = b.meter ∧
    b.takeOnset.pendingMeter = b.pendingMeter ∧ b.takeOnset.pendingBar = b.pendingBar ∧ b.takeOnset.vamps = b.vamps ∧
    b.takeOnset.pushes = b.pushes ∧ b.takeOnset.overflow = b.overflow := by
  unfold BeatState.takeOnset
  split <;> simp

section KeptByCues

variable {I : State → Prop} (h : KeptByCues I)
include h

theorem KeptByCues.of_setTempoState {x : TempoState} {s : State} (hx : TempoWrite s x) (hs : I s) :
    I (setTempoState x s) :=
  h.of_notifyIf _ _ (h.tempo _ _ hx hs)

theorem KeptByCues.of_vampOverflow {s : State} (hs : I s) : I (vampOverflow s) :=
  h.of_notifyIf _ _ (h.beats _ _ (.overflow true) hs)

theorem KeptByCues.of_emptyVamps {s : State} (hs : I s) : I (emptyVamps s) :=
  h.of_notifyIf _ _ (h.beats _ _ .dropVamps hs)

theorem KeptByCues.of_commitBeat (c : Bool) {s : State} (hs : I s) : I (commitBeat c s) := by
  cases ho : s.beats.nextOnset with
  | none => rwa [commitBeat_of_none ho]
  | some o =>
    rw [commitBeat_of_onset ho]
    exact h.of_announceBeat c _ (h.fixBeat o s ho hs)

theorem KeptByCues.of_startClick (c : Bool) (countIn : Nat) {startBar : Nat} {s : State}
    (hb : StartBar s.tables startBar) (hs : I s) : I (startClick c countIn startBar s) := by
  by_cases hidle : s.beats.click = .idle
  · rw [startClick_of_idle hidle, commitBeat_of_onset (started_nextOnset ..)]
    exact h.of_announceBeat c _ (h.firstBeat _ countIn startBar s hidle hb hs)
  · rwa [startClick_of_not_idle hidle]

theorem KeptByCues.of_cueCut {s : State} (hs : I s) : I (cueCut s) :=
  ite_keeps (h.of_cutClick hs) (h.of_sample false (h.of_cutClick hs))

theorem KeptByCues.of_startIgnored {s : State} (hs : I s) : I (startIgnored s) :=
  h.of_notifyIf _ _ (h.pointer _ _ hs)

theorem KeptByCues.of_takeClick (a : ClickAction) {s : State} (hs : I s) : I (takeClick a s) := by
  cases a with
  | keep => exact hs
  | start n => exact ite_keeps (h.of_startIgnored hs) (h.of_startClick true n .one hs)
  | stop => exact h.finishClick s hs
  | cut => exact h.of_cueCut hs

theorem KeptByCues.of_addPush {c : Cue} {v : VampSpec} {s : State} (hc : c ∈ s.tables.cues) (hv : c.vamp = some v)
    (hs : I s) : I (addPush v s) := by
  unfold addPush
  split
  · next hp => exact h.beats _ _ (.push c v hc hv hp) hs
  · exact h.of_vampOverflow hs

/-- The click action and the vamp of a taken cue. -/
theorem KeptByCues.of_takeClick_takeVamp {c : Cue} {s : State} (hc : c ∈ s.tables.cues) (hs : I s) :
    I (takeVamp c (startedBar c s (takeClick c.click s)) (takeClick c.click s)) := by
  have ht := h.of_takeClick c.click hs
  have hct : c ∈ (takeClick c.click s).tables.cues := by simpa using hc
  unfold takeVamp
  cases hv : c.vamp with
  | none => exact ht
  | some v =>
    dsimp only
    unfold startedBar
    by_cases hstart : c.click = .start 0 ∧ s.beats.click = .idle
    · rw [if_pos hstart]
      obtain ⟨hclick, hidle⟩ := hstart
      rw [hclick] at ht hct ⊢
      cases hn : (takeClick (.start 0) s).beats.next with
      | none => exact h.of_addPush hct hv ht
      | some b => exact h.pushVamp b c v s hidle hn hc hv hs ht
    · rw [if_neg hstart]
      exact h.of_addPush hct hv ht

theorem KeptByCues.of_takeChanges (c : Cue) {s : State} (hs : I s) : I (takeChanges c s) := by
  refine ite_keeps (h.of_setPointer _ (h.of_handChase _ hs)) (foldl_keeps (fun s e hs => ?_) _ hs)
  unfold handEntry
  split
  · exact h.of_placeChange _ _ hs
  · exact hs

theorem KeptByCues.of_setAuto (k : Camera) {s : State} (hs : I s) : I (setAuto k s) :=
  h.of_notifyIf _ _ (h.picture _ _ ⟨fun j => by cases j <;> rfl, fun _ => rfl⟩ hs)

theorem KeptByCues.of_takeVideo (c : Cue) {s : State} (hs : I s) : I (takeVideo c s) := by
  unfold takeVideo
  split
  · exact hs
  · next v _ =>
    have ha : I (match v.camera with
        | some k => setAuto k s
        | none => s) := by
      split
      · exact h.of_setAuto _ hs
      · exact hs
    dsimp only
    split
    · exact h.overlay _ _ ha
    · exact ha

theorem KeptByCues.of_takeCue {c : Cue} {s : State} (hc : c ∈ s.tables.cues) (hs : I s) : I (takeCue c s) := by
  have hp : I (takePointer c s) := h.of_setPointer _ hs
  have ht : I (setTempoState (s.tempo.apply c.tempo) (takePointer c s)) := by
    have hw : TempoWrite (takePointer c s) (s.tempo.apply c.tempo) := by
      have := TempoWrite.cue (s := takePointer c s) c (by simpa using hc)
      simpa using this
    exact h.of_setTempoState hw hp
  have hm : I (takeMeterAndBar c (setTempoState (s.tempo.apply c.tempo) (takePointer c s))) :=
    h.beats _ _ (.meterAndBar c (by simpa using hc)) ht
  exact h.of_takeVideo c (h.of_takeChanges c (h.of_takeClick_takeVamp (by simpa using hc) hm))

omit h in
theorem find_mem {t : Tables} {n : Nat} {c : Cue} (hc : t.find n = some c) : c ∈ t.cues := List.mem_of_find?_eq_some hc

omit h in
theorem armedCue_mem {s : State} {c : Cue} (hc : armedCue s = some c) : c ∈ s.tables.cues := by
  obtain ⟨n, -, hn⟩ := Option.bind_eq_some_iff.mp hc
  exact find_mem hn

theorem KeptByCues.of_takeArmedIfIdle {s : State} (hs : I s) : I (takeArmedIfIdle s) := by
  unfold takeArmedIfIdle
  split
  · split
    · next c hc => exact h.of_takeCue (armedCue_mem hc) hs
    · exact hs
  · exact hs

theorem KeptByCues.of_takeArmedAtCommit (b : Bool) {s : State} (hs : I s) : I (takeArmedAtCommit b s) := by
  unfold takeArmedAtCommit
  split
  · next c hc => exact ite_keeps (h.of_takeCue (armedCue_mem hc) hs) hs
  · exact hs

theorem KeptByCues.of_beatCommit {s : State} (hs : I s) : I (beatCommit s) := by
  unfold beatCommit
  refine ite_keeps ?_ hs
  split
  · next hd => exact h.beats _ _ (.discard hd) hs
  · exact h.of_commitBeat _ (h.of_takeArmedAtCommit _ hs)

theorem KeptByCues.of_restart (a : ChaseAt) (offset : Nat) {s : State} (hs : I s) : I (restart a offset s) := by
  have hm := h.beats _ _ (.meter (s.tables.meterChase a)) (h.of_emptyVamps (h.of_cutClick hs))
  have ht := h.of_setTempoState (.chase a) hm
  have hb := StartBar.chase (t := s.tables) a offset
  unfold restart
  dsimp only
  refine h.of_startClick _ _ ?_ ?_
  · simpa using hb
  · simpa using ht

end KeptByCues

/-! ## The pops, the resume and the session -/

/-- The state after the pops of a pop test and the end of the run where the stack empties, before the sampling. -/
def afterPops (s : State) : State :=
  let stack := popped s.stops s.stops.stack
  let s := notify .stop { s with stops := { s.stops with stack := stack, topTicked := false, topReported := false } }
  if stack.isEmpty then endRun s else s

theorem popTest_eq (s : State) :
    popTest s =
      if (popped s.stops s.stops.stack).length = s.stops.stack.length then s
      else if (popped s.stops s.stops.stack).isEmpty then takeArmedIfIdle (sample false (afterPops s))
      else sample false (afterPops s) := rfl

/-- The state that a SHOW RESET leaves before its sampling (R182). -/
def resetShow (s : State) : State :=
  let s := notify .stop { s with stops := { s.stops with stack := [], topTicked := false, topReported := false } }
  let s := clearCountIn (emptyVamps (cutClick (setHoldOff 0 (lowerCommands s))))
  setStopState .awaitResume (dropResume s)

theorem showReset_eq (s : State) : showReset s = sample false (resetShow s) := rfl

/-- The writes of a camera's record. -/
inductive CameraWrite (c : CameraRec) : CameraRec → Prop where
  | start (now : Nat) : CameraWrite c (c.start now)
  | finish : CameraWrite c c.finish
  | abort : CameraWrite c c.abort
  | expire : CameraWrite c c.expire
  | enable : CameraWrite c c.enable
  | disable : CameraWrite c c.disable
  | clearDrops : CameraWrite c { c with drops := 0 }
  | clearAborts : CameraWrite c { c with aborts := 0 }

/-- The edits of the cue list (R64 to R67). -/
inductive CueWrite (t : Tables) : List Cue → Prop where
  | insert (c : Cue) (hv : c.valid = true) (hn : t.find c.number = none) (hs : t.cues.length < Config.cueCapacity)
      (hp : c.changes.length ≤ t.freeCount) : CueWrite t (insertCue c.stored t.cues)
  | replace (c old : Cue) (hv : c.valid = true) (ho : t.find c.number = some old)
      (hp : c.changes.length ≤ t.freeCount + old.changes.length) :
      CueWrite t (t.cues.map fun d => if d.number = c.number then c.stored else d)
  | delete (n : Nat) : CueWrite t (t.cues.filter fun d => d.number != n)
  | clear : CueWrite t []

/-- The writes of a desk port's record: its role stands, is given up, or is one that no port holds, and a pending set
within its mask stays within it. -/
structure DeskWrite (p : DeskPort) (s : State) (d : DeskPortRec) : Prop where
  role : d.role = (s.port p).role ∨ d.role = none ∨ ∀ q, (s.port q).role ≠ d.role
  masked : (s.port p).pendingSet &&& ~~~(s.port p).mask = 0 → d.pendingSet &&& ~~~d.mask = 0

/-- A property that every write of the rigs keeps but for the bindings. -/
structure RigFree (I : State → Prop) : Prop extends Steady I where
  anyRigs : ∀ x s, SameBindings s.rigs x → I s → I { s with rigs := x }

section RigFree

variable {I : State → Prop} (h : RigFree I)
include h

/-- A rig record whose bound port stands is replaced. -/
theorem RigFree.of_setRig (k : Slot) (r : Rig) {s : State} (hr : r.boundPort = (s.rig k).boundPort) (hs : I s) :
    I (setRig k r s) := by
  refine h.of_notifyIf _ _ (h.anyRigs _ _ ⟨fun _ => rfl, fun j => ?_⟩ hs)
  simp only [tget_tput]
  split
  · next e => rw [hr, e]; rfl
  · rfl

/-- A port record whose bound slot stands is replaced. -/
theorem RigFree.of_setRigPort (p : RigPort) (r : RigPortRec) {s : State} (hr : r.boundSlot = (s.rigPort p).boundSlot)
    (hs : I s) : I (setRigPort p r s) := by
  refine h.of_notifyIf _ _ (h.anyRigs _ _ ⟨fun q => ?_, fun _ => rfl⟩ hs)
  simp only [tget_tput]
  split
  · next e => rw [hr, e]; rfl
  · rfl

theorem RigFree.of_sendChange (k : Slot) (x : Patch) (c : ChangeKind) {s : State} (hs : I s) : I (sendChange k x c s) := by
  unfold sendChange
  split
  · exact hs
  · exact h.of_setRig _ _ rfl (h.of_setRigPort _ _ rfl hs)

theorem RigFree.of_rigPresent (p : RigPort) {s : State} (hs : I s) : I (rigPresent p s) := by
  unfold rigPresent
  split
  · exact h.of_setRig _ _ rfl hs
  · exact hs

theorem RigFree.of_rigMessage (p : RigPort) {s : State} (hs : I s) : I (rigMessage p s) :=
  h.of_rigPresent _ (h.of_setRigPort _ _ rfl hs)

end RigFree

/-- A property that what the commands are made of keeps. -/
structure KeptByStep (I : State → Prop) : Prop extends KeptByCues I where
  anyRigs : ∀ x s, SameBindings s.rigs x → I s → I { s with rigs := x }
  desk : ∀ p d s, DeskWrite p s d → I s → I (s.setPort p d)
  afterPops : ∀ s, I s → I (afterPops s)
  resetShow : ∀ s, I s → I (resetShow s)
  endShow : ∀ s, s.beats.click = .idle → I s → I (endShow s)
  acknowledge : ∀ r rest s, s.stops.stack = r :: rest → I s →
    I { s with stops := { s.stops with stack := { r with acked := true } :: rest } }
  beginShow : ∀ s, s.inShow = false → I s → I { s with tables := { s.tables with session := .inShow } }
  levels : ∀ x s, s.inShow = false → I s → I { s with stops := { s.stops with levels := x } }
  settings : ∀ x s, I s → I { s with tables := { s.tables with settings := x } }
  cues : ∀ x s, s.inShow = false → CueWrite s.tables x → I s → I { s with tables := { s.tables with cues := x } }
  memory : ∀ a x s, a + x.length ≤ Config.clipMemorySize → I s →
    I { s with clicks := { s.clicks with memory := ClipMem.writeRun s.clicks.memory a x } }
  directory : ∀ n c s, (∀ d, c = some d → 1 ≤ d.length ∧ d.length ≤ Config.clipLengthMax ∧
      d.start + d.length ≤ Config.clipMemorySize ∧ s.clicks.overlaps n d = false) → I s →
    I { s with clicks := { s.clicks with directory := tput s.clicks.directory n c } }
  camera : ∀ k c s, CameraWrite (s.picture.cam k) c → I s → I { s with picture := s.picture.setCam k c }
  visits : ∀ s, I s → I { s with picture := s.picture.visitAll }
  unbindSlot : ∀ k s, I s → I (unbindSlot k s)
  unbindPort : ∀ p s, I s → I (unbindPort p s)
  loseSlot : ∀ k s, I s → I (loseSlot k s)
  bindRecords : ∀ p k s, (s.rigPort p).boundSlot = none → (s.rig k).boundPort = none → I s → I (bindRecords p k s)

section Reviews

variable {I : State → Prop} (h : KeptByStep I)
include h

theorem KeptByStep.rigFree : RigFree I := ⟨h.toSteady, h.anyRigs⟩

theorem KeptByStep.of_setRig (k : Slot) (r : Rig) {s : State} (hr : r.boundPort = (s.rig k).boundPort) (hs : I s) :
    I (setRig k r s) := h.rigFree.of_setRig k r hr hs

theorem KeptByStep.of_setRigPort (p : RigPort) (r : RigPortRec) {s : State} (hr : r.boundSlot = (s.rigPort p).boundSlot)
    (hs : I s) : I (setRigPort p r s) := h.rigFree.of_setRigPort p r hr hs

theorem KeptByStep.of_sendChange (k : Slot) (x : Patch) (c : ChangeKind) {s : State} (hs : I s) : I (sendChange k x c s) :=
  h.rigFree.of_sendChange k x c hs

theorem KeptByStep.of_rigMessage (p : RigPort) {s : State} (hs : I s) : I (rigMessage p s) := h.rigFree.of_rigMessage p hs

theorem KeptByStep.of_port {p : DeskPort} {d : DeskPortRec} {s : State} (hr : d.role = (s.port p).role)
    (hp : d.pendingSet = (s.port p).pendingSet) (hm : d.mask = (s.port p).mask) (hs : I s) : I (s.setPort p d) :=
  h.desk p d s ⟨.inl hr, fun hd => by rwa [hp, hm]⟩ hs

/-! ### Reviews -/

theorem KeptByStep.of_popTest {s : State} (hs : I s) : I (popTest s) := by
  have hp := h.of_sample false (h.afterPops s hs)
  rw [popTest_eq]
  exact ite_keeps hs (ite_keeps (h.of_takeArmedIfIdle hp) hp)

theorem KeptByStep.of_lowerCondition (i : StopSource) {s : State} (hs : I s) : I (lowerCondition i s) :=
  ite_keeps (h.of_popTest (h.of_setRaised _ _ hs)) hs

theorem KeptByStep.of_followCondition (i : StopSource) (b : Bool) {s : State} (hs : I s) : I (followCondition i b s) :=
  ite_keeps (h.of_raiseCondition i hs) (h.of_lowerCondition i hs)

theorem KeptByStep.of_reviewRestore {s : State} (hs : I s) : I (reviewRestore s) := by
  have hr := h.resume { s.resume with restoreSet := s.resume.restoreSet.filter fun m => !restoreComplete s m } s hs
  unfold reviewRestore
  dsimp only
  split
  · next e => exact h.of_setStopState (by rw [e.1]; rfl) hr
  · split
    · next e => exact h.of_setStopState (by rw [e.1]; rfl) hr
    · exact hr

theorem KeptByStep.of_arrive {s : State} (hs : I s) : I (arrive s) := by
  unfold arrive
  split
  · next e => exact h.of_setStopState (by rw [e.1]; rfl) hs
  · exact hs

theorem KeptByStep.of_reviewRigs {s : State} (hs : I s) : I (reviewRigs s) :=
  h.of_arrive (h.of_followCondition _ _ (h.of_reviewRestore hs))

theorem KeptByStep.of_reviewCameras {s : State} (hs : I s) : I (reviewCameras s) := h.of_followCondition _ _ hs

theorem KeptByStep.of_finishingEnd {s : State} (hs : I s) : I (finishingEnd s) := by
  unfold finishingEnd
  split
  · exact ite_keeps (h.of_arrive (h.of_takeArmedIfIdle (h.of_sample _ (h.enterIdle s hs)))) hs
  · exact hs

/-! ### The resume -/

theorem KeptByStep.of_clearMdReady {s : State} (hs : I s) : I (clearMdReady s) := by
  have hr := h.of_notifyIf s.resume.mdReady .stop (h.resume { s.resume with mdReady := false } s hs)
  unfold clearMdReady
  dsimp only
  split
  · next e => exact h.of_setStopState (by rw [e]; rfl) hr
  · exact hr

theorem KeptByStep.of_dropResume {s : State} (hs : I s) : I (dropResume s) := h.of_notifyIf _ _ (h.resume _ s hs)

theorem KeptByStep.of_restoreSlot (k : Slot) {s : State} (hs : I s) : I (restoreSlot s k) :=
  ite_keeps hs (ite_keeps hs (h.resume _ _ (h.of_placeChange k _ hs)))

theorem KeptByStep.of_issueRestores {s : State} (hx : s.stops.state.stacked = false) (hs : I s) : I (issueRestores s) :=
  foldl_keeps (fun _ k hs => h.of_restoreSlot k hs) _
    (h.of_setStopState hx.symm (h.resume _ s hs))

end Reviews

end Sys2Proof.Machine
end

section
/-!
PROOFS. What a step keeps, second part: the owners of the requests, and the events that are not commands of a port.
-/

namespace Sys2Proof.Machine
set_option Elab.async false

/-! ### What the bindings and the stops are after their operations -/

@[simp] theorem rig_notify (k : NoticeKind) (s : State) (j : Slot) : (notify k s).rig j = s.rig j := rfl

@[simp] theorem rigPort_notify (k : NoticeKind) (s : State) (p : RigPort) : (notify k s).rigPort p = s.rigPort p := rfl

theorem rig_unbindSlot (k j : Slot) (s : State) :
    (unbindSlot k s).rig j = if k = j then (s.rig k).unbound else s.rig j := by
  unfold unbindSlot
  dsimp only
  rw [rig_setRig]
  split <;> split <;> simp

theorem rigPort_unbindSlot (k : Slot) (q : RigPort) (s : State) :
    (unbindSlot k s).rigPort q =
      if (s.rig k).boundPort = some q then { s.rigPort q with boundSlot := none } else s.rigPort q := by
  unfold unbindSlot
  dsimp only
  rw [rigPort_setRig]
  cases hp : (s.rig k).boundPort with
  | none => simp
  | some p =>
    by_cases hpq : p = q
    · simp [hpq]
    · simp [rigPort_setRigPort, hpq]

/-- A slot without a port has none after the binding of another port has ended. -/
theorem unbindPort_boundPort {p : RigPort} {k : Slot} {s : State} (hk : (s.rig k).boundPort = none) :
    ((unbindPort p s).rig k).boundPort = none := by
  unfold unbindPort
  split
  · rw [rig_unbindSlot]
    split
    · rfl
    · simpa using hk
  · exact hk

/-- A port holds no slot once its binding has ended. -/
theorem unbindPort_boundSlot (p : RigPort) (s : State) : ((unbindPort p s).rigPort p).boundSlot = none := by
  unfold unbindPort
  split
  · rw [rigPort_unbindSlot]
    split <;> simp
  · next hn => exact hn

@[simp] theorem setHoldOff_stops (n : Nat) (s : State) : (setHoldOff n s).stops = { s.stops with holdOff := n } := by
  simp [setHoldOff]

@[simp] theorem setRaised_stops (i : StopSource) (b : Bool) (s : State) :
    (setRaised i b s).stops = { s.stops with raised := tput s.stops.raised i.index b } := by
  simp [setRaised]

@[simp] theorem enterIdle_stops (s : State) : (enterIdle s).stops = { s.stops with holdOff := 0 } := by
  simp [enterIdle]

theorem cutBeats_stops (s : State) :
    (cutBeats s).stops = if s.beats.click = .idle then s.stops else { s.stops with holdOff := 0 } := by
  split
  · next hidle => rw [cutBeats_of_idle hidle]
  · next hidle => simp [cutBeats_of_not_idle hidle]

@[simp] theorem cutClick_stops (s : State) : (cutClick s).stops = (cutBeats s).stops := by simp [cutClick]

@[simp] theorem setStopState_stops (x : StopState) (s : State) :
    (setStopState x s).stops = { s.stops with state := x } := by
  unfold setStopState
  dsimp only
  split <;> split <;> simp

/-- An announcement without a commit sampling does no more to the stops than lower the hold-off count (R166). -/
theorem announceBeat_false_stops (b : Beat) (s : State) :
    (announceBeat false b s).stops = { s.stops with holdOff := s.stops.holdOff - 1 } := by
  have hstops : (if (announceOutputs b s).stops.holdOff = 0 then announceOutputs b s
      else setHoldOff ((announceOutputs b s).stops.holdOff - 1) (announceOutputs b s)).stops =
      { s.stops with holdOff := s.stops.holdOff - 1 } := by
    split
    · next hz =>
      have hone : s.stops.holdOff - 1 = s.stops.holdOff := by simp at hz; omega
      rw [hone]; simp
    · simp
  have heq : announceBeat false b s =
      if b.downbeat then forceVisits (if (announceOutputs b s).stops.holdOff = 0 then announceOutputs b s
        else setHoldOff ((announceOutputs b s).stops.holdOff - 1) (announceOutputs b s))
      else if (announceOutputs b s).stops.holdOff = 0 then announceOutputs b s
        else setHoldOff ((announceOutputs b s).stops.holdOff - 1) (announceOutputs b s) := rfl
  rw [heq]
  split
  · rw [← hstops]; simp
  · exact hstops

@[simp] theorem commitBeat_false_state (s : State) : (commitBeat false s).stops.state = s.stops.state := by
  cases ho : s.beats.nextOnset with
  | none => rw [commitBeat_of_none ho]
  | some o => simp [commitBeat_of_onset ho, announceBeat_false_stops]

@[simp] theorem startClick_false_state (n b : Nat) (s : State) :
    (startClick false n b s).stops.state = s.stops.state := by
  by_cases hidle : s.beats.click = .idle
  · simp [startClick_of_idle hidle, started]
  · rw [startClick_of_not_idle hidle]

@[simp] theorem restart_state (a : ChaseAt) (n : Nat) (s : State) : (restart a n s).stops.state = s.stops.state := by
  simp only [restart, startClick_false_state, setTempoState_keeps, emptyVamps_keeps, cutClick_stops, cutBeats_stops]
  split <;> rfl

/-! ### The owners of the requests -/

@[simp] theorem refuse_state (c : ReplyCode) (s : State) : (refuse c s).state = s := rfl
@[simp] theorem accept_state (s : State) : (accept s).state = s := rfl
@[simp] theorem acceptWith_state (value : List Byte) (s : State) : (acceptWith value s).state = s := rfl
@[simp] theorem acceptIf_state (b : Bool) (s : State) : (acceptIf b s).state = s := rfl

section Owners

variable {I : State → Prop} (h : KeptByStep I)
include h

theorem KeptByStep.of_validFrame (p : DeskPort) {s : State} (hs : I s) : I (validFrame p s) :=
  h.of_port rfl rfl rfl hs

omit h in
@[simp] theorem choose_keeps (d : DeskPortRec) :
    d.choose.role = d.role ∧ d.choose.mask = d.mask ∧ d.choose.pendingSet = d.pendingSet := by
  unfold DeskPortRec.choose
  split
  · simp
  · split <;> simp

theorem KeptByStep.of_chooseFrame (p : DeskPort) {s : State} (hs : I s) : I (chooseFrame p s) :=
  h.of_port (by simp) (by simp) (by simp) hs

omit h in
@[simp] theorem busyRequest_keeps (tag : Byte) (d : DeskPortRec) :
    (d.busyRequest tag).role = d.role ∧ (d.busyRequest tag).mask = d.mask ∧
    (d.busyRequest tag).pendingSet = d.pendingSet := by
  unfold DeskPortRec.busyRequest
  split <;> simp

/-- A request keeps what its owner keeps. -/
theorem KeptByStep.of_request {r : Req} {act : State → Answer} (hact : ∀ s, I s → I (act s).state) {s : State}
    (hs : I s) : I (request r act s) := by
  have hv := h.of_validFrame r.port hs
  unfold request
  dsimp only
  split
  · exact h.of_chooseFrame _ (h.of_port (by simp) (by simp) (by simp) hv)
  · exact h.of_chooseFrame _ (h.of_port (by rfl) (by rfl) (by rfl) (hact _ hv))

theorem KeptByStep.of_command {α : Type} {r : Req} {roles : List Role} {decode : List Byte → Option α}
    {payload : List Byte} {owner : α → State → Answer} (ho : ∀ a s, I s → I (owner a s).state) {s : State} (hs : I s) :
    I (command r roles decode payload owner s) := by
  refine h.of_request (fun t ht => ?_) hs
  split
  · exact ht
  · split
    · exact ho _ _ ht
    · exact ht

theorem KeptByStep.of_openCommand {α : Type} {r : Req} {decode : List Byte → Option α} {payload : List Byte}
    {owner : α → State → Answer} (ho : ∀ a s, I s → I (owner a s).state) {s : State} (hs : I s) :
    I (openCommand r decode payload owner s) := by
  refine h.of_request (fun t ht => ?_) hs
  split
  · exact ht
  · exact ho _ _ ht

theorem KeptByStep.of_ownTap {s : State} (hs : I s) : I (ownTap s).state := by
  unfold ownTap
  split
  · exact hs
  · exact h.of_setTempoState (.tap _) hs

theorem KeptByStep.of_ownRelease {s : State} (hs : I s) : I (ownRelease s).state := by
  unfold ownRelease
  split
  · exact hs
  · next v outer hv =>
    split
    · exact hs
    · split
      · exact hs
      · exact h.notify _ _ (h.beats _ _ (.release v outer hv) hs)

theorem KeptByStep.of_ownClipWrite (w : Nat × List Sample) {s : State} (hs : I s) : I (ownClipWrite w s).state := by
  unfold ownClipWrite unlessShow
  split
  · exact hs
  · split
    · exact hs
    · next hn => exact h.memory _ _ _ (by omega) hs

theorem KeptByStep.of_putClip {n : Fin 16} {c : Option Clip} {s : State}
    (hc : ∀ d, c = some d → 1 ≤ d.length ∧ d.length ≤ Config.clipLengthMax ∧
      d.start + d.length ≤ Config.clipMemorySize ∧ s.clicks.overlaps n d = false) (hs : I s) : I (putClip n c s) :=
  h.of_notifyIf _ _ (h.directory n c s hc hs)

theorem KeptByStep.of_ownClipDefine (d : Nat × Nat × Nat) {s : State} (hs : I s) : I (ownClipDefine d s).state := by
  unfold ownClipDefine unlessShow
  split
  · exact hs
  · split
    · exact hs
    · split
      · exact h.of_putClip (by simp) hs
      · next hlength =>
        split
        · exact hs
        · next hbounds =>
          dsimp only
          split
          · exact hs
          · next hover =>
            refine h.of_putClip (fun c hc => ?_) hs
            obtain rfl := Option.some.inj hc
            exact ⟨by simp; omega, by simp; omega, by simp; omega, by simpa using hover⟩

theorem KeptByStep.of_setCues {x : List Cue} {s : State} (hshow : ¬ s.inShow = true) (hx : CueWrite s.tables x)
    (hs : I s) : I (setCues x s) :=
  h.notify _ _ (h.cues x s (by simpa using hshow) hx hs)

theorem KeptByStep.of_ownCueInsert (c : Cue) {s : State} (hs : I s) : I (ownCueInsert c s).state := by
  unfold ownCueInsert
  split
  · exact hs
  · split
    · exact hs
    · split
      · exact hs
      · split
        · exact hs
        · split
          · exact hs
          · next hshow hvalid hfind hfull hpool =>
            exact h.of_setCues hshow (.insert c (by simpa using hvalid) (by simpa using hfind) (by omega) (by omega)) hs

theorem KeptByStep.of_ownCueReplace (c : Cue) {s : State} (hs : I s) : I (ownCueReplace c s).state := by
  unfold ownCueReplace
  split
  · exact hs
  · split
    · exact hs
    · split
      · exact hs
      · split
        · exact hs
        · next hshow hvalid _ old hfind hpool =>
          exact h.of_setCues hshow (.replace c old (by simpa using hvalid) hfind (by omega)) hs

theorem KeptByStep.of_ownCueDelete (n : Nat) {s : State} (hs : I s) : I (ownCueDelete n s).state := by
  unfold ownCueDelete
  split
  · exact hs
  · split
    · exact hs
    · next hshow _ => exact h.of_setCues hshow (.delete n) hs

theorem KeptByStep.of_ownTableClear {s : State} (hs : I s) : I (ownTableClear s).state := by
  unfold ownTableClear
  split
  · exact hs
  · next hshow => exact h.of_setCues hshow .clear hs

theorem KeptByStep.of_beginShow (n : Nat) {s : State} (hshow : s.inShow = false) (hs : I s) : I (Machine.beginShow n s) := by
  have hb : I (setSession .inShow s) := h.of_notifyIf _ _ (h.beginShow s hshow hs)
  unfold Machine.beginShow
  dsimp only
  exact h.of_sample _ (h.of_followCondition _ _ (h.of_handChase _ (h.of_setPointer _ hb)))

theorem KeptByStep.of_ownBeginShow {s : State} (hs : I s) : I (ownBeginShow s).state := by
  unfold ownBeginShow
  split
  · exact hs
  · next hshow =>
    split
    · exact hs
    · split
      · exact hs
      · simpa using h.of_beginShow _ (by simpa using hshow) hs

theorem KeptByStep.of_ownEndShow {s : State} (hs : I s) : I (ownEndShow s).state := by
  unfold ownEndShow
  split
  · exact hs
  · split
    · exact hs
    · next hidle =>
      split
      · exact hs
      · simpa using h.endShow s (by simpa using hidle) hs

theorem KeptByStep.of_callCue {c : Cue} {s : State} (hc : c ∈ s.tables.cues) (hs : I s) : I (callCue c s) :=
  ite_keeps (h.of_takeCue hc hs) (h.of_setPointer _ hs)

theorem KeptByStep.of_callStanding {s : State} (hs : I s) : I (callStanding s).state := by
  unfold callStanding
  split
  · exact hs
  · split
    · next c hc => simpa using h.of_callCue (find_mem hc) hs
    · exact hs
  · exact hs

theorem KeptByStep.of_ownGo {s : State} (hs : I s) : I (ownGo s).state := by
  unfold ownGo
  split
  · exact hs
  · split
    · exact hs
    · split
      · next c hc => simpa using h.of_takeCue (armedCue_mem hc) hs
      · exact h.of_callStanding hs

theorem KeptByStep.of_ownBack {s : State} (hs : I s) : I (ownBack s).state := by
  unfold ownBack
  split
  · exact hs
  · split
    · exact hs
    · split
      · exact h.of_setPointer _ hs
      · exact hs

theorem KeptByStep.of_ownJump (n : Nat) {s : State} (hs : I s) : I (ownJump n s).state := by
  unfold ownJump
  split
  · exact hs
  · split
    · exact hs
    · split
      · exact hs
      · split
        · exact hs
        · exact h.of_setPointer _ hs

theorem KeptByStep.of_ownStopFrom (p : DeskPort) {s : State} (hs : I s) : I (ownStopFrom p s).state := by
  unfold ownStopFrom
  split
  · unfold ownStop
    split
    · exact hs
    · split
      · exact hs
      · split
        · exact hs
        · simpa using h.of_afterRaising _ (h.of_setRaised _ _ hs)
  · exact hs

theorem KeptByStep.of_ownHoldOff (n : Nat) {s : State} (hs : I s) : I (ownHoldOff n s).state := by
  unfold ownHoldOff
  split
  · exact hs
  · exact h.of_setHoldOff (.inl (Nat.min_le_right _ _)) hs

theorem KeptByStep.of_ownAcknowledge {s : State} (hs : I s) : I (ownAcknowledge s).state := by
  unfold ownAcknowledge
  split
  · next r rest _ hstack =>
    split
    · exact hs
    · simpa using h.of_popTest (h.notify .stop _ (h.acknowledge r rest s hstack hs))
  · exact hs

theorem KeptByStep.of_ownAckOverride {s : State} (hs : I s) : I (ownAckOverride s).state := by
  unfold ownAckOverride
  split
  · exact hs
  · exact h.of_ownAcknowledge hs

omit h in
theorem ofResume_not_stacked {x : StopState} (hx : x.ofResume = true) : x.stacked = false := by
  cases x <;> first | rfl | cases hx

omit h in
theorem clearMdReady_not_stacked {s : State} (hx : s.stops.state.stacked = false) :
    (clearMdReady s).stops.state.stacked = false := by
  unfold clearMdReady
  dsimp only
  split
  · simp [StopState.stacked]
  · simpa using hx

theorem KeptByStep.of_resumeAt (t : Target) {s : State} (hx : s.stops.state.ofResume = true) (hs : I s) :
    I (resumeAt t s) := by
  have ht := h.of_notifyIf (s.resume.target != some t) .stop (h.resume { s.resume with target := some t } s hs)
  have hc := clearMdReady_not_stacked (s := notifyIf (s.resume.target != some t) .stop
    { s with resume := { s.resume with target := some t } }) (by simpa using ofResume_not_stacked hx)
  unfold Machine.resumeAt
  dsimp only
  exact h.of_issueRestores hc (h.of_clearMdReady ht)

theorem KeptByStep.of_ownResumeAt (q : Nat × Nat) {s : State} (hs : I s) : I (ownResumeAt q s).state := by
  unfold ownResumeAt
  split
  · exact hs
  · split
    · exact hs
    · split
      · exact hs
      · next hresume =>
        split
        · exact hs
        · split
          · exact hs
          · simpa using h.of_resumeAt _ (by simpa using hresume) hs

theorem KeptByStep.of_ownMdReady {s : State} (hs : I s) : I (ownMdReady s).state := by
  unfold ownMdReady
  split
  · exact hs
  · split
    · exact hs
    · simpa using h.of_reviewRestore (h.notify .stop _ (h.resume { s.resume with mdReady := true } s hs))

theorem KeptByStep.of_resumeGo (t : Target) {s : State} (hx : s.stops.state = .resumeArmed) (hs : I s) :
    I (resumeGo t s) := by
  have hr : I (dropResume (setFrozen false (resumePointer t.cue (restart (.cue t.cue) t.offset s)))) :=
    have hp : I (resumePointer t.cue (restart (.cue t.cue) t.offset s)) := h.of_setPointer _ (h.of_restart _ _ hs)
    h.of_dropResume (h.of_setFrozen _ hp)
  have hstate : (dropResume (setFrozen false (resumePointer t.cue (restart (.cue t.cue) t.offset s)))).stops.state =
      .resumeArmed := by simpa using hx
  have hclear := h.of_setStopState (x := .clear) (by rw [hstate]; rfl) hr
  unfold Machine.resumeGo
  dsimp only
  exact h.of_sample _ hclear

theorem KeptByStep.of_ownResumeGo {s : State} (hs : I s) : I (ownResumeGo s).state := by
  unfold ownResumeGo
  split
  · exact hs
  · split
    · exact hs
    · split
      · next t hstate _ =>
        simpa using h.of_resumeGo t hstate hs
      · exact hs

theorem KeptByStep.of_ownShowReset {s : State} (hs : I s) : I (ownShowReset s).state := by
  unfold ownShowReset
  split
  · exact hs
  · split
    · exact hs
    · split
      · exact hs
      · split
        · exact hs
        · simpa [showReset_eq] using h.of_sample false (h.resetShow s hs)

/-! ### The desk ports -/

theorem KeptByStep.of_setRole {p : DeskPort} {role : Option Role} {s : State}
    (hr : role = none ∨ ∀ q, (s.port q).role ≠ role) (hs : I s) : I (setRole p role s) :=
  h.notify _ _ (h.desk p { s.port p with role := role } s ⟨.inr hr, fun hm => hm⟩ hs)

theorem KeptByStep.of_loseRole (p : DeskPort) {s : State} (hs : I s) : I (loseRole p s) := by
  unfold loseRole
  split
  · exact hs
  · next role _ =>
    have hr : I (setRole p none s) := h.of_setRole (.inl rfl) hs
    have hl : I (if (setRole p none s).inShow then
        match lossSource role with
        | some i => raiseCondition i (setRole p none s)
        | none => setRole p none s
      else setRole p none s) := by
      refine ite_keeps ?_ hr
      split
      · exact h.of_raiseCondition _ hr
      · exact hr
    exact ite_keeps (h.of_clearMdReady hl) hl

theorem KeptByStep.of_losePort (p : DeskPort) {s : State} (hs : I s) : I (losePort p s) := by
  unfold losePort
  exact h.desk p _ _ ⟨.inl rfl, fun _ => by simp [DeskPortRec.lost]⟩ (h.of_loseRole p hs)

omit h in
theorem losePort_pendingSet (p : DeskPort) (s : State) : ((losePort p s).port p).pendingSet = 0 := by
  simp [losePort, DeskPortRec.lost]

/-- The mask of a port that is lost is restored (R188, R194). -/
theorem KeptByStep.of_losePort_restored {p : DeskPort} {d : DeskPortRec} {s : State}
    (hr : d.role = ((losePort p s).port p).role) (hp : d.pendingSet = ((losePort p s).port p).pendingSet) (hs : I s) :
    I ((losePort p s).setPort p d) :=
  h.desk p d _ ⟨.inl hr, fun _ => by rw [hp, losePort_pendingSet]; simp⟩ (h.of_losePort p hs)

omit h in
theorem role_ne_of_holderOf {role : Role} {s : State} (hn : holderOf role s = none) (q : DeskPort) :
    (s.port q).role ≠ some role := by
  have hq : q ∈ allDeskPorts := by revert q; decide
  simpa using List.find?_eq_none.mp hn q hq

theorem KeptByStep.of_ownClaim (p : DeskPort) (role : Role) {s : State} (hs : I s) : I (ownClaim p role s).state := by
  unfold ownClaim
  split
  · exact hs
  · next hheld =>
    simp only [Bool.or_eq_true, not_or, Bool.not_eq_true, Option.isSome_eq_false_iff, Option.isNone_iff_eq_none] at hheld
    have hr : I (setRole p (some role) s) := h.of_setRole (.inr (role_ne_of_holderOf hheld.1)) hs
    dsimp only
    rw [accept_state]
    split
    · exact h.of_lowerCondition _ hr
    · exact hr

theorem KeptByStep.of_ownReleaseRole (p : DeskPort) {s : State} (hs : I s) : I (ownReleaseRole p s).state := by
  unfold ownReleaseRole
  split
  · exact hs
  · have hr : I (setRole p none s) := h.of_setRole (.inl rfl) hs
    dsimp only
    rw [accept_state]
    exact ite_keeps (h.of_clearMdReady hr) hr

theorem KeptByStep.of_ownResetPort (p : DeskPort) {s : State} (hs : I s) : I (ownResetPort p s).state := by
  unfold ownResetPort
  dsimp only
  rw [accept_state]
  exact h.of_losePort_restored rfl rfl hs

omit h in
theorem masked_and (a m x : BitVec 8) (ha : a &&& ~~~m = 0) : (a &&& x) &&& ~~~m = 0 := by
  calc (a &&& x) &&& ~~~m = (a &&& ~~~m) &&& x := by
        ext i hi; simp [Bool.and_right_comm]
    _ = 0 := by rw [ha]; simp

theorem KeptByStep.of_ackNotice (p : DeskPort) (kinds : BitVec 8) {s : State} (hs : I s) :
    I (s.setPort p ((s.port p).ackNotice kinds)) :=
  h.desk p _ s ⟨.inl rfl, masked_and _ _ _⟩ hs

/-! ### The rigs -/

omit h in
theorem slotNamed_congr {s t : State} (ht : ∀ k, t.rig k = s.rig k) (identity : Text) :
    slotNamed identity t = slotNamed identity s := by
  simp [slotNamed, ht]

theorem KeptByStep.of_bindSlot {p : RigPort} {k : Slot} {s : State} (hp : (s.rigPort p).boundSlot = none)
    (hk : (s.rig k).boundPort = none) (hs : I s) : I (bindSlot p k s) := by
  have hb := h.bindRecords p k s hp hk hs
  unfold bindSlot
  dsimp only
  split
  · exact hb
  · exact ite_keeps (h.resume _ _ (h.of_placeChange k _ hb)) (h.of_placeChange k _ hb)

theorem KeptByStep.of_takeAnnounce (p : RigPort) (identity : Text) {s : State} (hs : I s) :
    I (takeAnnounce p identity s) := by
  have hu := h.unbindPort p _ (h.of_rigMessage p hs)
  have hport := unbindPort_boundSlot p (rigMessage p s)
  unfold takeAnnounce
  dsimp only
  generalize Machine.unbindPort p (rigMessage p s) = u at hu hport ⊢
  have hr : I (setRigPort p { u.rigPort p with
      identity := some identity, duplicate := heldElsewhere identity u, bit := false } u) := h.of_setRigPort _ _ rfl hu
  split
  · next k hk =>
    rw [slotNamed_congr (fun _ => rig_setRigPort ..)] at hk
    split
    · exact h.of_reviewRigs hr
    · next hdup =>
      refine h.of_reviewRigs (h.of_bindSlot (by simpa using hport) ?_ hr)
      simpa [heldElsewhere, hk] using hdup
  · exact h.of_reviewRigs hr

theorem KeptByStep.of_takeStatus (k : Slot) (x : Sustain) (n : Nat) {s : State} (hs : I s) : I (takeStatus k x n s) := by
  have hr {r : Rig} (hr : r.boundPort = (s.rig k).boundPort) : I (setRig k r s) := h.of_setRig k r hr hs
  unfold takeStatus
  dsimp only
  split
  · exact h.of_sendIfDue _ (hr rfl)
  · exact hr rfl

theorem KeptByStep.of_takeDone (k : Slot) (f : InFlight) {s : State} (hs : I s) : I (takeDone k f s) := by
  unfold takeDone
  dsimp only
  split
  · exact h.of_setRig _ _ rfl hs
  · split
    · exact h.of_sendChange _ _ _ (h.of_setRig _ _ rfl hs)
    · exact h.of_setRig _ _ rfl hs
  · exact h.of_setRig _ _ rfl hs
  · exact h.of_sendChange _ _ _ (h.of_setRig _ _ rfl hs)

theorem KeptByStep.of_breakPort (p : RigPort) {s : State} (hs : I s) : I (breakPort p s) := by
  have hr := h.of_setRigPort p
    { s.rigPort p with linkUp := false, identity := none, duplicate := false, rx := [] } rfl hs
  unfold breakPort
  dsimp only
  split
  · exact h.loseSlot _ _ hr
  · exact hr

theorem KeptByStep.of_statusMessage (p : RigPort) (x : Sustain) (held : Byte) {s : State} (hs : I s) :
    I (statusMessage p x held s) := by
  have hm := h.of_rigMessage p hs
  unfold statusMessage
  dsimp only
  split
  · exact h.of_takeStatus _ _ _ hm
  · exact hm

theorem KeptByStep.of_doneMessage (p : RigPort) (bit : Bool) {s : State} (hs : I s) : I (doneMessage p bit s) := by
  have hm := h.of_rigMessage p hs
  unfold doneMessage
  dsimp only
  split
  · exact h.of_reviewRigs (h.of_takeDone _ _ hm)
  · exact hm

theorem KeptByStep.of_refusedMessage (p : RigPort) (bit : Bool) {s : State} (hs : I s) : I (refusedMessage p bit s) := by
  have hm := h.of_rigMessage p hs
  unfold refusedMessage
  dsimp only
  split
  · exact h.of_reviewRigs (h.of_setRig _ _ rfl hm)
  · exact hm

theorem KeptByStep.of_countInvalid (p : RigPort) {s : State} (hs : I s) : I (countInvalid p s) :=
  h.of_setRigPort _ _ rfl hs

theorem KeptByStep.of_takeRigChars (p : RigPort) (r : Received RigMessage) {s : State} (hs : I s) :
    I (takeRigChars p r s) := by
  refine h.of_setRigPort _ _ rfl (foldl_keeps (fun s x hs => ?_) _ hs)
  cases x with
  | none => exact h.of_countInvalid p hs
  | some m =>
    cases m with
    | announce identity => exact h.of_takeAnnounce p identity hs
    | status x held => exact h.of_statusMessage p x held hs
    | done bit => exact h.of_doneMessage p bit hs
    | refused bit _ => exact h.of_refusedMessage p bit hs

theorem KeptByStep.of_ownBind (b : Nat × Nat) {s : State} (hs : I s) : I (ownBind b s).state := by
  unfold ownBind
  split
  · next p k _ _ =>
    split
    · exact hs
    · next hk =>
      have hk : (s.rig k).boundPort = none := by simpa using hk
      have hu := h.unbindPort p s hs
      dsimp only
      rw [accept_state]
      refine h.of_reviewRigs (h.of_bindSlot ?_ ?_ (h.of_setRigPort _ _ rfl hu))
      · simpa using unbindPort_boundSlot p s
      · simpa using unbindPort_boundPort hk
  · exact hs

theorem KeptByStep.of_ownUnbind (n : Nat) {s : State} (hs : I s) : I (ownUnbind n s).state := by
  unfold ownUnbind
  split
  · split
    · exact hs
    · simpa using h.of_reviewRigs (h.unbindSlot _ _ hs)
  · exact hs

/-! ### The items -/

omit h in
/-- A value that must be in range keeps what its use keeps. -/
theorem inRange_keeps {α : Type} {value : Option α} {s : State} {act : α → Answer}
    (ha : ∀ a, value = some a → I (act a).state) (hs : I s) : I (inRange value s act).state := by
  unfold inRange
  split
  · exact ha _ rfl
  · exact hs

omit h in
theorem unlessShow_keeps {act : Answer} {s : State} (ha : s.inShow = false → I act.state) (hs : I s) :
    I (unlessShow act s).state := by
  unfold unlessShow
  split
  · exact hs
  · next hshow => exact ha (by simpa using hshow)

omit h in
theorem resetCount_keeps {bytes : List Byte} {s t : State} (hs : I s) (ht : I t) : I (resetCount bytes s t).state := by
  unfold resetCount
  split
  · exact ht
  · exact hs

omit h in
theorem withInstance_keeps {n i : Nat} {s : State} {act : Fin n → Answer} (ha : ∀ k, I (act k).state) (hs : I s) :
    I (withInstance n i s act).state := by
  unfold withInstance
  split
  · exact ha _
  · exact hs

omit h in
theorem writeSticky_keeps {op : FlagOp} {bytes : List Byte} {cleared s : State} (hc : I cleared) (hs : I s) :
    I (writeSticky op bytes cleared s).state := by
  unfold writeSticky
  split
  · exact hs
  · exact hc
  · exact hs

theorem KeptByStep.of_putLane (k : LaneNo) (l : Lane) {s : State} (hs : I s) : I (putLane k l s) :=
  h.of_notifyIf _ _ (h.clicks (s.clicks.setLane k l) s rfl rfl hs)

theorem KeptByStep.of_clearCameraCounter (c : CameraCounter) (k : Camera) {s : State} (hs : I s) :
    I (clearCameraCounter c k s) := by
  cases c
  · exact h.camera k _ s .clearDrops hs
  · exact h.camera k _ s .clearAborts hs

theorem KeptByStep.of_slotWrite {k : Slot} {r : Rig} {s : State} (hr : r.boundPort = (s.rig k).boundPort) (hs : I s) :
    I { s with rigs := { s.rigs with slots := tput s.rigs.slots k r } } := by
  refine h.anyRigs _ _ ⟨fun _ => rfl, fun j => ?_⟩ hs
  simp only [tget_tput]
  split
  · next e => rw [hr, e]; rfl
  · rfl

theorem KeptByStep.of_clearRigCounter (c : RigCounter) (k : Slot) {s : State} (hs : I s) :
    I (clearRigCounter c k s) := by
  cases c with
  | invalidMessage =>
    refine h.anyRigs _ _ ⟨fun j => ?_, fun _ => rfl⟩ hs
    simp only [tget_tput]
    split
    · next e => rw [← e]; rfl
    · rfl
  | superseded => exact h.of_slotWrite rfl hs
  | refusal => exact h.of_slotWrite rfl hs
  | timeout => exact h.of_slotWrite rfl hs

theorem KeptByStep.of_writeCameraEnabled (k : Camera) (bytes : List Byte) {s : State} (hs : I s) :
    I (writeCameraEnabled k bytes s).state := by
  refine unlessShow_keeps (fun _ => inRange_keeps (fun b _ => ?_) hs) hs
  dsimp only
  split
  · exact hs
  · have hc : CameraWrite (s.picture.cam k) (if b then (s.picture.cam k).enable else (s.picture.cam k).disable) := by
      cases b
      · exact .disable
      · exact .enable
    have hc := h.camera k _ s hc hs
    rw [accept_state]
    exact h.of_reviewCameras (h.notify _ _ (h.notify _ _ hc))

omit h in
/-- No write of a monitor field moves the slot that the monitor holds (R131). -/
theorem Monitor.write_held {f : MonitorField} {op : FlagOp} {bytes : List Byte} {m : Monitor} {mc : Monitor × Bool}
    (hw : m.write f op bytes = some mc) : mc.1.held = m.held := by
  cases f <;> simp only [Monitor.write, Option.map_eq_some_iff, Option.bind_eq_some_iff] at hw
  case flashLength =>
    obtain ⟨n, -, hn⟩ := hw
    split at hn
    · obtain rfl := Option.some.inj hn; rfl
    · cases hn
  all_goals
    obtain ⟨v, -, rfl⟩ := hw
    rfl

theorem KeptByStep.of_writeMonitor (f : MonitorField) (op : FlagOp) (i : Fin 6) (bytes : List Byte) {s : State}
    (hs : I s) : I (writeMonitor f op i bytes s).state := by
  refine inRange_keeps (fun mc hmc => ?_) hs
  have hp : I { s with picture := s.picture.setMonitor i mc.1 } := by
    refine h.picture _ s ⟨fun k => by cases k <;> rfl, fun m => ?_⟩ hs
    simp only [Picture.monitor, Picture.setMonitor, tget_tput]
    split
    · next e => rw [← e]; exact Monitor.write_held hmc
    · rfl
  rw [acceptIf_state]
  exact h.of_notifyIf _ _ (h.overlay _ _ hp)

theorem KeptByStep.of_writeHoldOff (bytes : List Byte) {s : State} (hs : I s) : I (writeHoldOff bytes s).state := by
  refine inRange_keeps (fun n _ => ?_) hs
  split
  · rw [accept_state]
    exact h.of_sample _ (h.of_setHoldOff (.inl (Nat.zero_le _)) hs)
  · split
    · exact hs
    · exact h.of_setHoldOff (.inl (Nat.min_le_right _ _)) hs

theorem KeptByStep.of_writeNoticeMask (op : FlagOp) (p : DeskPort) (bytes : List Byte) {s : State} (hs : I s) :
    I (writeNoticeMask op p bytes s).state := by
  refine inRange_keeps (fun m _ => h.desk p _ s ⟨.inl rfl, fun _ => ?_⟩ hs) hs
  ext i hi
  simp [DeskPortRec.setMask]

/-- The owner of every item keeps it. -/
theorem KeptByStep.of_store (item : Item) (op : FlagOp) (i : Nat) (bytes : List Byte) {s : State} (hs : I s) :
    I (item.store op i bytes s).state := by
  unfold Item.store
  split
  · exact unlessShow_keeps (fun _ => inRange_keeps (fun _ _ => h.time _ s hs) hs) hs
  · exact inRange_keeps (fun v _ => h.of_setTempoState (.set v) hs) hs
  · exact writeSticky_keeps (h.of_setTempoState .unclamp hs) hs
  · exact writeSticky_keeps (h.beats _ s (.overflow false) hs) hs
  · exact writeSticky_keeps (h.pointer _ s hs) hs
  · exact withInstance_keeps (fun k => unlessShow_keeps (fun _ => inRange_keeps (fun _ _ => h.of_putLane k _ hs) hs) hs) hs
  · exact withInstance_keeps (fun k => inRange_keeps (fun _ _ => h.of_putLane k _ hs) hs) hs
  · exact withInstance_keeps (fun k => resetCount_keeps hs (h.clicks (s.clicks.setLane k _) s rfl rfl hs)) hs
  · exact withInstance_keeps (fun k => unlessShow_keeps (fun _ => inRange_keeps (fun c _ =>
      h.of_notifyIf _ _ (h.clicks { s.clicks with roles := tput s.clicks.roles k c } s rfl rfl hs)) hs) hs) hs
  · exact withInstance_keeps (fun k => unlessShow_keeps (fun _ => inRange_keeps (fun _ _ =>
      h.of_notifyIf _ _ (h.settings _ s hs)) hs) hs) hs
  · refine withInstance_keeps (fun k => unlessShow_keeps (fun _ => inRange_keeps (fun name _ => ?_) hs) hs) hs
    split
    · exact hs
    · exact h.of_notifyIf _ _ (h.of_slotWrite rfl hs)
  · exact withInstance_keeps (fun k => resetCount_keeps hs (h.of_clearRigCounter _ k hs)) hs
  · exact h.of_writeCameraEnabled _ _ hs
  · exact resetCount_keeps hs (h.of_clearCameraCounter _ _ hs)
  · exact withInstance_keeps (fun k => h.of_writeMonitor _ _ k _ hs) hs
  · refine withInstance_keeps (fun k => ?_) hs
    unfold writeStopLevel
    split
    · exact hs
    · exact unlessShow_keeps (fun hshow => inRange_keeps (fun _ _ => h.of_notifyIf _ _ (h.levels _ s hshow hs)) hs) hs
  · refine withInstance_keeps (fun k => ?_) hs
    unfold writeStopProfile
    split
    · exact hs
    · exact unlessShow_keeps (fun _ => inRange_keeps (fun p _ => h.of_notifyIf _ _
        (h.stops { s.stops with profiles := tput s.stops.profiles k p } s ⟨rfl, rfl, rfl, rfl⟩ hs)) hs) hs
  · exact h.of_writeHoldOff _ hs
  · exact resetCount_keeps hs (h.stops { s.stops with displaced := 0 } s ⟨rfl, rfl, rfl, rfl⟩ hs)
  · exact inRange_keeps (fun n _ => h.of_notifyIf _ _ (h.resume { s.resume with countIn := n } s hs)) hs
  · exact withInstance_keeps (fun k => h.of_writeNoticeMask _ k _ hs) hs
  · exact withInstance_keeps (fun k => resetCount_keeps hs
      (h.of_port (d := { s.port k with badFrames := 0 }) rfl rfl rfl hs)) hs
  · exact hs

omit h in
@[simp] theorem withOld_state (old : List Byte) (a : Answer) : (a.withOld old).state = a.state := by
  unfold Answer.withOld
  split <;> rfl

theorem KeptByStep.of_operate (item : Item) (op : ItemOp) (port : DeskPort) (i : Nat) (rest : List Byte) {s : State}
    (hs : I s) : I (item.operate op port i rest s).state := by
  unfold Item.operate
  split
  · exact hs
  · split
    · exact hs
    · split
      · exact hs
      · split
        · exact hs
        · split
          · exact hs
          · rw [withOld_state]
            exact h.of_store _ _ _ _ hs

theorem KeptByStep.of_itemRequest (item : Item) (op : ItemOp) (r : Req) (i : Byte) (rest : List Byte) {s : State}
    (hs : I s) : I (itemRequest item op r i rest s) :=
  h.of_request (fun _ ht => h.of_operate _ _ _ _ _ ht) hs

theorem KeptByStep.of_operatePayload (op : ItemOp) (port : DeskPort) (payload : List Byte) {s : State} (hs : I s) :
    I (operatePayload op port payload s).state := by
  unfold operatePayload
  split
  · split
    · exact hs
    · split
      · exact h.of_operate _ _ _ _ _ hs
      · exact hs
  · exact hs

/-! ### The events -/

theorem KeptByStep.of_countSample (closed : Bool) {s : State} (hs : I s) : I (countSample closed s) := by
  have hc : I { s with clicks := s.clicks.mix } := h.clicks s.clicks.mix s rfl rfl hs
  have ht := h.time { s.time with clock := s.time.clock + 1 } { s with clicks := s.clicks.mix } hc
  exact h.stops (s.stops.observeRelay closed)
    { s with clicks := s.clicks.mix, time := { s.time with clock := s.time.clock + 1 } } ⟨rfl, rfl, rfl, rfl⟩ ht

theorem KeptByStep.of_qualifyWord (closed : Bool) {s : State} (hs : I s) : I (qualifyWord closed s) := by
  unfold qualifyWord
  exact h.of_lowerCondition _ (h.notify _ _ (h.time _ _ (h.of_countSample closed hs)))

theorem KeptByStep.of_tickWork {s : State} (hs : I s) : I (tickWork s) := by
  have ho : I (buildOverlays s.picture { s with picture := s.picture.visitAll }) := h.overlay _ _ (h.visits s hs)
  refine h.of_arrive ?_
  unfold reportBanner
  split
  · exact ho
  · exact h.stops _ _ ⟨rfl, rfl, rfl, rfl⟩ ho

theorem KeptByStep.of_putCamera {k : Camera} {c : CameraRec} {s : State} (hc : CameraWrite (s.picture.cam k) c)
    (hs : I s) : I (putCamera k c s) := by
  have hn := h.of_notifyIf ((s.picture.cam k).state != c.state) .camera (h.camera k c s hc hs)
  exact ite_keeps (h.of_reviewCameras hn) hn

theorem KeptByStep.of_changeRelay {s : State} (hs : I s) : I (changeRelay s) := by
  unfold changeRelay
  exact h.of_followCondition _ _ (h.stops { s.stops with relayAsserted := !s.stops.relayAsserted, relayRun := none } s
    ⟨rfl, rfl, rfl, rfl⟩ hs)

end Owners

end Sys2Proof.Machine
end

section
/-!
PROOFS. What a step keeps, third part: every command, the frames that a run of characters holds, and the step.
-/

namespace Sys2Proof.Machine
set_option Elab.async false

/-! ### The commands -/

section Commands

variable {I : State → Prop} (h : KeptByStep I)
include h

omit h in
/-- A meaning answers a state that is kept. -/
theorem next_keeps {u t : State} (hu : I u) (ht : (.next u : Result) = .next t) : I t := by
  cases ht
  exact hu

/-- A camera's event keeps it, where the camera takes it (R122, R124, R125, R128). -/
theorem KeptByStep.of_cameraEvent {k : Camera} {c : CameraRec} {b : Prop} [Decidable b] {s : State}
    (hc : CameraWrite (s.picture.cam k) c) (hs : I s) : I (if b then putCamera k c s else s) :=
  ite_keeps (h.of_putCamera hc hs) hs

theorem KeptByStep.of_resend (k : Slot) (p : RigPort) (f : InFlight) {s : State} (hs : I s) : I (resend k p f s) := by
  unfold resend
  dsimp only
  exact h.of_setRig k { (setRigPort p { s.rigPort p with lastSelect := some (f.patch, f.bit) } s).rig k with
      inFlight := some { f with
        resent := true, sent := (setRigPort p { s.rigPort p with lastSelect := some (f.patch, f.bit) } s).now },
      timeouts := countUp
        ((setRigPort p { s.rigPort p with lastSelect := some (f.patch, f.bit) } s).rig k).timeouts } rfl
    (h.of_setRigPort p { s.rigPort p with lastSelect := some (f.patch, f.bit) } rfl hs)

omit h in
@[simp] theorem replyDone_keeps (d : DeskPortRec) :
    d.replyDone.role = d.role ∧ d.replyDone.mask = d.mask ∧ d.replyDone.pendingSet = d.pendingSet := by
  unfold DeskPortRec.replyDone
  split <;> simp

omit h in
@[simp] theorem noticeDone_keeps (d : DeskPortRec) :
    d.noticeDone.role = d.role ∧ d.noticeDone.mask = d.mask ∧ d.noticeDone.pendingSet = d.pendingSet := by
  unfold DeskPortRec.noticeDone
  split <;> simp

/-- The events of the clocks, of the beats and of the lanes keep it. -/
theorem KeptByStep.of_clockEvent {s t : State} (hs : I s) :
    (∀ closed, execShowClockSample closed s = .next t → I t) ∧
    (∀ interval closed, execWordClockEdge interval closed s = .next t → I t) ∧
    (∀ interval closed, execWordClockQualified interval closed s = .next t → I t) ∧
    (execWordClockSilence s = .next t → I t) ∧ (execHoldover s = .next t → I t) ∧
    (execFrameTick s = .next t → I t) := by
  refine ⟨fun closed ht => ?_, fun interval closed ht => ?_, fun interval closed ht => ?_, fun ht => ?_, fun ht => ?_,
    fun ht => ?_⟩
  · exact next_keeps (h.time _ _ (h.of_countSample closed hs)) ht
  · unfold execWordClockEdge at ht
    split at ht
    · split at ht
      · exact next_keeps (h.of_qualifyWord closed hs) ht
      · exact next_keeps (h.time _ _ hs) ht
    · split at ht
      · exact next_keeps hs ht
      · exact next_keeps (h.time _ _ (h.of_countSample closed hs)) ht
  · unfold execWordClockQualified at ht
    split at ht
    · exact next_keeps (h.of_qualifyWord closed hs) ht
    · exact next_keeps hs ht
  · unfold execWordClockSilence at ht
    split at ht
    · exact next_keeps (h.time _ _ hs) ht
    · exact next_keeps hs ht
  · unfold execHoldover at ht
    split at ht
    · split at ht
      · exact next_keeps (h.of_raiseCondition _ (h.notify _ _ (h.time _ _ hs))) ht
      · exact next_keeps hs ht
    · exact next_keeps hs ht
  · unfold execFrameTick at ht
    split at ht
    · exact next_keeps (h.of_tickWork (h.time _ _ hs)) ht
    · exact next_keeps hs ht

theorem KeptByStep.of_beatEvent {s t : State} (hs : I s) :
    (∀ slot, execForceDue slot s = .next t → I t) ∧ (execCueBannerExpiry s = .next t → I t) ∧
    (execBeatOnset s = .next t → I t) ∧ (∀ lane, execVoiceStart lane s = .next t → I t) ∧
    (∀ lane voice closed, execVoiceEnd lane voice closed s = .next t → I t) := by
  refine ⟨fun slot ht => ?_, fun ht => ?_, fun ht => ?_, fun lane ht => ?_, fun lane voice closed ht => ?_⟩
  · unfold execForceDue at ht
    split at ht
    · exact next_keeps (h.of_beatCommit hs) ht
    · exact next_keeps hs ht
  · unfold execCueBannerExpiry at ht
    dsimp only at ht
    split at ht
    · exact next_keeps (h.of_beatCommit hs) ht
    · exact next_keeps hs ht
  · unfold execBeatOnset at ht
    split at ht
    · split at ht
      · exact next_keeps (h.beats _ _ .onset hs) ht
      · exact next_keeps hs ht
    · exact next_keeps hs ht
  · unfold execVoiceStart at ht
    split at ht
    · split at ht
      · refine next_keeps ?_ ht
        exact h.clicks (s.clicks.setLane lane _) s rfl rfl hs
      · exact next_keeps hs ht
    · exact next_keeps hs ht
  · unfold execVoiceEnd at ht
    split at ht
    · exact next_keeps (h.of_countSample closed hs) ht
    · exact next_keeps hs ht

theorem KeptByStep.of_rigEvent {s t : State} (hs : I s) :
    (∀ port identity, execAnnounce port identity s = .next t → I t) ∧
    (∀ port chars, execRigInvalidMessage port chars s = .next t → I t) ∧
    (∀ slot, execReplyTimeout slot s = .next t → I t) ∧ (∀ slot, execRigPresenceExpiry slot s = .next t → I t) := by
  refine ⟨fun port identity ht => ?_, fun port chars ht => ?_, fun slot ht => ?_, fun slot ht => ?_⟩
  · unfold execAnnounce at ht
    exact next_keeps (ite_keeps (h.of_takeAnnounce port identity hs) (h.of_countInvalid port hs)) ht
  · rcases execRigInvalidMessage_cases port chars s with ⟨-, hr⟩ | ⟨-, hr⟩
    · exact next_keeps (h.of_takeRigChars port _ hs) (hr.symm.trans ht)
    · exact next_keeps hs (hr.symm.trans ht)
  · unfold execReplyTimeout at ht
    split at ht
    · next f p _ _ =>
      split at ht
      · split at ht
        · exact next_keeps (h.of_reviewRigs (h.of_setRig slot (s.rig slot).timedOut rfl hs)) ht
        · exact next_keeps (h.of_resend slot p f hs) ht
      · exact next_keeps hs ht
    · exact next_keeps hs ht
  · unfold execRigPresenceExpiry at ht
    split at ht
    · exact next_keeps (h.of_reviewRigs (h.loseSlot slot s hs)) ht
    · exact next_keeps hs ht

theorem KeptByStep.of_deskEvent {s t : State} (hs : I s) :
    (∀ port frame, execDeskStrayFrame port frame s = .next t → I t) ∧ (∀ port, execReplySent port s = .next t → I t) ∧
    (∀ port, execNoticeSent port s = .next t → I t) ∧ (∀ port, execNotice port s = .next t → I t) ∧
    (∀ port, execDeskLineBreak port s = .next t → I t) ∧ (∀ port, execDeskPresenceExpiry port s = .next t → I t) := by
  refine ⟨fun port frame ht => ?_, fun port ht => ?_, fun port ht => ?_, fun port ht => ?_, fun port ht => ?_,
    fun port ht => ?_⟩
  · unfold execDeskStrayFrame at ht
    split at ht
    · exact next_keeps hs ht
    · exact next_keeps (h.of_validFrame port hs) ht
  · unfold execReplySent at ht
    exact next_keeps (h.of_chooseFrame _ (h.of_port (by simp) (by simp) (by simp) hs)) ht
  · unfold execNoticeSent at ht
    exact next_keeps (h.of_chooseFrame _ (h.of_port (by simp) (by simp) (by simp) hs)) ht
  · unfold execNotice at ht
    exact next_keeps (ite_keeps (h.of_port (d := (s.port port).beginNotice) rfl rfl rfl hs) hs) ht
  · unfold execDeskLineBreak at ht
    exact next_keeps (h.of_losePort_restored (d := ((losePort port s).port port).broken) rfl rfl hs) ht
  · unfold execDeskPresenceExpiry at ht
    split at ht
    · exact next_keeps (h.of_losePort port hs) ht
    · exact next_keeps hs ht

/-- Every event keeps it, but for power-on reset, and for the run of characters that holds frames, whose frames are
commands themselves. -/
theorem KeptByStep.of_event {c : Instr} {s t : State} (hreset : c ≠ .powerOnReset)
    (hbad : ∀ p chars, c ≠ .deskBadFrame p chars) (hevent : requestFrom c = none) (hs : I s)
    (ht : exec c s = .next t) : I t := by
  obtain ⟨hsample, hedge, hqualified, hsilence, hholdover, htick⟩ := h.of_clockEvent (t := t) hs
  obtain ⟨hforce, hbanner, honset, hstart, hend⟩ := h.of_beatEvent (t := t) hs
  obtain ⟨hannounce, hinvalid, htimeout, hpresence⟩ := h.of_rigEvent (t := t) hs
  obtain ⟨hstray, hreply, hnotice, hbegin, hbreak, hexpiry⟩ := h.of_deskEvent (t := t) hs
  cases c
  case powerOnReset => exact absurd rfl hreset
  case deskBadFrame p chars => exact absurd rfl (hbad p chars)
  case showClockSample closed => exact hsample _ ht
  case wordClockEdge interval closed => exact hedge _ _ ht
  case wordClockQualified interval closed => exact hqualified _ _ ht
  case wordClockSilence => exact hsilence ht
  case holdover => exact hholdover ht
  case frameTick => exact htick ht
  case beatCommit => exact next_keeps (h.of_beatCommit hs) ht
  case forceDue slot => exact hforce _ ht
  case cueBannerExpiry => exact hbanner ht
  case beatOnset => exact honset ht
  case finishingEnd => exact next_keeps (h.of_finishingEnd hs) ht
  case voiceStart lane => exact hstart _ ht
  case voiceEnd lane voice closed => exact hend _ _ _ ht
  case announce port identity => exact hannounce _ _ ht
  case status port x held => exact next_keeps (h.of_statusMessage port x held hs) ht
  case done port bit => exact next_keeps (h.of_doneMessage port bit hs) ht
  case refused port bit reason => exact next_keeps (h.of_refusedMessage port bit hs) ht
  case rigInvalidMessage port chars => exact hinvalid _ _ ht
  case rigLineBreak port => exact next_keeps (h.of_reviewRigs (h.of_breakPort port hs)) ht
  case replyTimeout slot => exact htimeout _ ht
  case rigPresenceExpiry slot => exact hpresence _ ht
  case frameStart camera => exact next_keeps (h.of_cameraEvent (.start _) hs) ht
  case frameEnd camera => exact next_keeps (h.of_cameraEvent .finish hs) ht
  case frameAbort camera => exact next_keeps (h.of_cameraEvent .abort hs) ht
  case cameraExpiry camera => exact next_keeps (h.of_cameraEvent .expire hs) ht
  case relayStateChange => exact next_keeps (ite_keeps (h.of_changeRelay hs) hs) ht
  case deskStrayFrame port frame => exact hstray _ _ ht
  case replySent port => exact hreply _ ht
  case noticeSent port => exact hnotice _ ht
  case notice port => exact hbegin _ ht
  case deskLineBreak port => exact hbreak _ ht
  case deskPresenceExpiry port => exact hexpiry _ ht
  all_goals cases hevent

/-- Every request that is an item's keeps it. -/
theorem KeptByStep.of_itemRequested {item : Item} {op : ItemOp} {r : Req} {i : Byte} {rest : List Byte} {s t : State}
    (hs : I s) (ht : (.next (itemRequest item op r i rest s) : Result) = .next t) : I t :=
  next_keeps (h.of_itemRequest _ _ _ _ _ hs) ht

/-- Every request keeps it. -/
theorem KeptByStep.of_requested {c : Instr} {r : Req} {s t : State} (hr : requestFrom c = some r) (hs : I s)
    (ht : exec c s = .next t) : I t := by
  cases c
  case requestWhileBusy r code payload =>
    change execRequestWhileBusy r code payload s = .next t at ht
    unfold execRequestWhileBusy at ht
    split at ht
    · exact next_keeps (h.of_request (fun _ hu => hu) hs) ht
    · exact next_keeps hs ht
  case unknownCode r code payload =>
    change execUnknownCode r code payload s = .next t at ht
    unfold execUnknownCode at ht
    split at ht
    · exact next_keeps hs ht
    · exact next_keeps (h.of_request (fun _ hu => hu) hs) ht
  case setTempo => exact next_keeps (h.of_command (fun v _ hs => h.of_setTempoState (.set v) hs) hs) ht
  case nudgeUp => exact next_keeps (h.of_command (fun _ _ hs => h.of_setTempoState (.nudge 101) hs) hs) ht
  case nudgeDown => exact next_keeps (h.of_command (fun _ _ hs => h.of_setTempoState (.nudge 99) hs) hs) ht
  case tap => exact next_keeps (h.of_command (fun _ _ hs => h.of_ownTap hs) hs) ht
  case release => exact next_keeps (h.of_command (fun _ _ hs => h.of_ownRelease hs) hs) ht
  case clipWrite => exact next_keeps (h.of_command (fun w _ hs => h.of_ownClipWrite w hs) hs) ht
  case clipDefine => exact next_keeps (h.of_command (fun d _ hs => h.of_ownClipDefine d hs) hs) ht
  case cueInsert => exact next_keeps (h.of_command (fun c _ hs => h.of_ownCueInsert c hs) hs) ht
  case cueReplace => exact next_keeps (h.of_command (fun c _ hs => h.of_ownCueReplace c hs) hs) ht
  case cueDelete => exact next_keeps (h.of_command (fun n _ hs => h.of_ownCueDelete n hs) hs) ht
  case tableClear => exact next_keeps (h.of_command (fun _ _ hs => h.of_ownTableClear hs) hs) ht
  case cueRead => exact next_keeps (h.of_openCommand (fun q s hs => by rwa [ownCueRead_state]) hs) ht
  case chaseRead => exact next_keeps (h.of_openCommand (fun n s hs => by rwa [ownChaseRead_state]) hs) ht
  case beginShow => exact next_keeps (h.of_command (fun _ _ hs => h.of_ownBeginShow hs) hs) ht
  case endShow => exact next_keeps (h.of_command (fun _ _ hs => h.of_ownEndShow hs) hs) ht
  case go => exact next_keeps (h.of_command (fun _ _ hs => h.of_ownGo hs) hs) ht
  case back => exact next_keeps (h.of_command (fun _ _ hs => h.of_ownBack hs) hs) ht
  case jump => exact next_keeps (h.of_command (fun n _ hs => h.of_ownJump n hs) hs) ht
  case bind => exact next_keeps (h.of_command (fun b _ hs => h.of_ownBind b hs) hs) ht
  case unbind => exact next_keeps (h.of_command (fun n _ hs => h.of_ownUnbind n hs) hs) ht
  case stop r _ => exact next_keeps (h.of_command (fun _ _ hs => h.of_ownStopFrom r.port hs) hs) ht
  case holdOff => exact next_keeps (h.of_command (fun n _ hs => h.of_ownHoldOff n hs) hs) ht
  case ack => exact next_keeps (h.of_command (fun _ _ hs => h.of_ownAcknowledge hs) hs) ht
  case ackOverride => exact next_keeps (h.of_command (fun _ _ hs => h.of_ownAckOverride hs) hs) ht
  case resumeAt => exact next_keeps (h.of_command (fun q _ hs => h.of_ownResumeAt q hs) hs) ht
  case mdReady => exact next_keeps (h.of_command (fun _ _ hs => h.of_ownMdReady hs) hs) ht
  case resumeGo => exact next_keeps (h.of_command (fun _ _ hs => h.of_ownResumeGo hs) hs) ht
  case showReset => exact next_keeps (h.of_command (fun _ _ hs => h.of_ownShowReset hs) hs) ht
  case noticeAck r _ => exact next_keeps (h.of_openCommand (fun kinds _ hs => h.of_ackNotice r.port kinds hs) hs) ht
  case claimRole r _ => exact next_keeps (h.of_openCommand (fun role _ hs => h.of_ownClaim r.port role hs) hs) ht
  case releaseRole r _ => exact next_keeps (h.of_openCommand (fun _ _ hs => h.of_ownReleaseRole r.port hs) hs) ht
  case resetPort r _ => exact next_keeps (h.of_openCommand (fun _ _ hs => h.of_ownResetPort r.port hs) hs) ht
  case read r op payload => exact next_keeps (h.of_request (fun _ hs => h.of_operatePayload op r.port payload hs) hs) ht
  case videoRateWrite => exact h.of_itemRequested hs ht
  case liveTempoWrite => exact h.of_itemRequested hs ht
  case tempoClampedClear => exact h.of_itemRequested hs ht
  case vampOverflowClear => exact h.of_itemRequested hs ht
  case startIgnoredClear => exact h.of_itemRequested hs ht
  case laneFieldWrite => exact h.of_itemRequested hs ht
  case laneLevelWrite => exact h.of_itemRequested hs ht
  case clipCounterReset => exact h.of_itemRequested hs ht
  case soundSetWrite => exact h.of_itemRequested hs ht
  case rigSlotSettingWrite => exact h.of_itemRequested hs ht
  case slotNameWrite => exact h.of_itemRequested hs ht
  case rigCounterReset => exact h.of_itemRequested hs ht
  case cameraEnableWrite => exact h.of_itemRequested hs ht
  case cameraCounterReset => exact h.of_itemRequested hs ht
  case monitorWrite => exact h.of_itemRequested hs ht
  case holdOffWrite => exact h.of_itemRequested hs ht
  case stopLevelWrite => exact h.of_itemRequested hs ht
  case stopProfileWrite => exact h.of_itemRequested hs ht
  case displacedCountReset => exact h.of_itemRequested hs ht
  case resumeCountInWrite => exact h.of_itemRequested hs ht
  case noticeMaskWrite => exact h.of_itemRequested hs ht
  case badFrameCountReset => exact h.of_itemRequested hs ht
  all_goals cases hr

theorem KeptByStep.of_takeFrame (p : DeskPort) (f : Frame) {s : State} (hs : I s) : I (takeFrame p f s) := by
  unfold takeFrame
  split
  · rw [serve_commandOf]
    cases ht : exec (commandOf ⟨p, f.tag⟩ f.code f.payload) s with
    | next t => exact h.of_requested (commandOf_request ⟨p, f.tag⟩ f.code f.payload) hs ht
    | fault _ => exact hs
    | refused _ => exact hs
  · exact h.of_validFrame p hs
  · exact h.of_validFrame p hs

theorem KeptByStep.of_takeDeskChars (p : DeskPort) (r : Received Frame) {s : State} (hs : I s) :
    I (takeDeskChars p r s) := by
  refine h.of_port rfl rfl rfl (foldl_keeps (fun s x hs => ?_) _ hs)
  cases x with
  | none => exact h.of_port rfl rfl rfl hs
  | some f => exact h.of_takeFrame p f hs

/-- Every command keeps it, but for power-on reset. -/
theorem KeptByStep.of_exec {c : Instr} {s t : State} (hreset : c ≠ .powerOnReset) (hs : I s) (ht : exec c s = .next t) :
    I t := by
  by_cases hbad : ∃ p chars, c = .deskBadFrame p chars
  · obtain ⟨p, chars, rfl⟩ := hbad
    rcases execDeskBadFrame_cases p chars s with ⟨-, hr⟩ | ⟨-, hr⟩
    · exact next_keeps (h.of_takeDeskChars p _ hs) (hr.symm.trans ht)
    · exact next_keeps hs (hr.symm.trans ht)
  · cases hr : requestFrom c with
    | none => exact h.of_event hreset (fun p chars hb => hbad ⟨p, chars, hb⟩) hr hs ht
    | some r => exact h.of_requested hr hs ht

/-- What the state after power-on reset has, whatever waits, and the operations keep, every step keeps. -/
theorem KeptByStep.step (hqueue : ∀ q s, I s → I (s.withPending q))
    (hreset : ∀ q, I { State.reset with pending := q }) {s t : State} (hs : I s) (ht : step s = .next t) : I t := by
  unfold Machine.step at ht
  split at ht
  · exact next_keeps hs ht
  · next c rest _ =>
    have hu := hqueue rest s hs
    generalize s.withPending rest = u at hu ht
    by_cases hc : c = .powerOnReset
    · subst hc
      exact next_keeps (hreset u.pending) ht
    · exact h.of_exec hc hu ht

end Commands

end Sys2Proof.Machine
end

section
/-!
PROOFS. What a step keeps, fourth part: properties that do not depend on the tempo and the beats, or not on the stops, are kept by
the writes of these, so that only the writes of their own blocks are left to them.
-/

namespace Sys2Proof.Machine
set_option Elab.async false

/-! ## Properties of few blocks -/

/-- A property that does not depend on the tempo and the beats. -/
structure BeatFree (I : State → Prop) : Prop extends Steady I where
  anyTempo : ∀ x s, I s → I { s with tempo := x }
  anyBeats : ∀ x s, I s → I { s with beats := x }
  noHoldOff : ∀ s, I s → I { s with stops := { s.stops with holdOff := 0 } }

/-- A property that does not depend on the stops. -/
structure StopFree (I : State → Prop) : Prop extends Steady I where
  anyStops : ∀ x s, I s → I { s with stops := x }

section BeatFree

variable {I : State → Prop} (h : BeatFree I)
include h

theorem BeatFree.of_setClick (c : ClickState) {s : State} (hs : I s) : I (setClick c s) := by
  have hn := h.of_notifyIf (s.beats.click != c) .cue (h.anyBeats { s.beats with click := c } s hs)
  exact ite_keeps (h.clicks _ _ rfl rfl hn) hn

theorem BeatFree.of_emptyVamps {s : State} (hs : I s) : I (emptyVamps s) := h.of_notifyIf _ _ (h.anyBeats _ s hs)

theorem BeatFree.of_beatsAndClicks (b : BeatState) {g : ClickGen} {s : State} (hm : g.memory = s.clicks.memory)
    (hd : g.directory = s.clicks.directory) (hs : I s) : I { s with beats := b, clicks := g } :=
  h.clicks g { s with beats := b } hm hd (h.anyBeats b s hs)

theorem BeatFree.of_enterIdle {s : State} (hs : I s) : I (enterIdle s) :=
  h.of_notifyIf _ _ (h.noHoldOff _ (h.of_emptyVamps (h.of_beatsAndClicks _ rfl rfl (h.of_setClick .idle hs))))

omit h in
/-- The discard of a beat drops its marks, and no more of the pictures (R126). -/
theorem SameRings.dropMarks (p : Picture) (onset : Nat) : SameRings p (p.dropMarks onset) where
  cam k := by cases k <;> rfl
  held _ := rfl

theorem BeatFree.of_discardOpt (b : Option Beat) {s : State} (hs : I s) : I (discardOpt b s) := by
  cases b with
  | none => exact hs
  | some b =>
    have hc := h.clicks (s.clicks.dropBeat b.onset) s rfl rfl hs
    have hp := h.picture (s.picture.dropMarks b.onset) { s with clicks := s.clicks.dropBeat b.onset }
      (SameRings.dropMarks ..) hc
    exact h.overlay _ _ hp

theorem BeatFree.of_cutBeats {s : State} (hs : I s) : I (cutBeats s) := by
  by_cases hidle : s.beats.click = .idle
  · rwa [cutBeats_of_idle hidle]
  · rw [cutBeats_of_not_idle hidle]
    exact h.of_enterIdle (h.anyBeats _ _ (h.of_discardOpt _ (h.of_discardOpt _ hs)))

theorem BeatFree.of_finishClick {s : State} (hs : I s) : I (finishClick s) := by
  unfold finishClick
  split
  · exact h.anyBeats _ _ (h.of_setClick _ hs)
  · exact h.anyBeats _ _ (h.of_setClick _ hs)
  · exact hs

theorem BeatFree.of_pushVamp (bar : Nat) (v : VampSpec) {s : State} (hs : I s) : I (pushVamp bar s v) :=
  ite_keeps (h.notify _ _ (h.anyBeats _ s hs)) (h.of_notifyIf _ _ (h.anyBeats _ s hs))

theorem BeatFree.of_pushAll (bar : Nat) {s : State} (hs : I s) : I (pushAll bar s) :=
  foldl_keeps (fun _ v hs => h.of_pushVamp bar v hs) _ (h.anyBeats _ s hs)

theorem BeatFree.of_fixTempo {s : State} (hs : I s) : I (fixTempo s).2 := h.of_notifyIf _ _ (h.anyTempo _ s hs)

theorem BeatFree.of_beginFirstBar {s : State} (hs : I s) : I (beginFirstBar s).2 := by
  have hrunning : I (if s.beats.click = .countIn then setClick .running s else s) :=
    ite_keeps (h.of_setClick _ hs) hs
  exact h.of_pushAll _ (h.anyBeats _ _ hrunning)

theorem BeatFree.of_beginMusicBar (ended : Nat) {s : State} (hs : I s) : I (beginMusicBar ended s).2 := by
  have hv := h.of_notifyIf ((vampTest ended s.beats.vamps).loop || (vampTest ended s.beats.vamps).stack != s.beats.vamps)
    .cue (h.anyBeats { s.beats with vamps := (vampTest ended s.beats.vamps).stack } s hs)
  unfold beginMusicBar
  dsimp only
  split
  · exact h.of_pushAll _ hv
  · exact h.of_pushAll _ (h.anyBeats _ _ hv)

theorem BeatFree.of_beginBar (prev : Option Beat) {s : State} (hs : I s) : I (beginBar prev s).2 := by
  have hm := h.anyBeats s.beats.takeMeter s hs
  unfold beginBar
  dsimp only
  split
  · split
    · exact h.anyBeats _ _ hm
    · exact h.of_beginFirstBar hm
  · exact h.of_beginMusicBar _ hm

theorem BeatFree.of_fixBeat (onset : Nat) {s : State} (hs : I s) : I (fixBeat onset s).2 := by
  have ht := h.of_fixTempo (h.anyBeats s.beats.takeOnset s hs)
  unfold fixBeat
  dsimp only
  refine h.anyBeats _ _ ?_
  split
  · exact h.of_beginBar _ ht
  · exact ht

theorem BeatFree.of_started (n b : Nat) {s : State} (hs : I s) : I (started n b s) :=
  h.anyBeats _ _ (h.of_setClick _ hs)

/-- The taking of a cue asks no more of it than a sampling does. -/
theorem BeatFree.keptByCues (hk : KeptBySampling I) : KeptByCues I where
  toKeptBySampling := hk
  tempo x s _ hs := h.anyTempo x s hs
  beats x s _ hs := h.anyBeats x s hs
  enterIdle _ hs := h.of_enterIdle hs
  fixBeat o _ _ hs := h.of_fixBeat o hs
  firstBeat o n b _ _ _ hs := h.of_fixBeat o (h.of_started n b hs)
  pushVamp _ _ v _ _ _ _ _ _ ht := h.of_pushVamp _ v ht

end BeatFree

section StopFree

variable {I : State → Prop} (h : StopFree I)
include h

theorem StopFree.of_setHoldOff (n : Nat) {s : State} (hs : I s) : I (setHoldOff n s) :=
  h.of_notifyIf _ _ (h.anyStops _ s hs)

theorem StopFree.of_setStopState (x : StopState) {s : State} (hs : I s) : I (setStopState x s) :=
  h.of_setStopState_of (h.of_notifyIf _ _ (h.anyStops _ s hs))

theorem StopFree.of_restoreSlot (k : Slot) {s : State} (hs : I s) : I (restoreSlot s k) :=
  ite_keeps hs (ite_keeps hs (h.resume _ _ (h.of_placeChange k _ hs)))

theorem StopFree.of_endRun {s : State} (hs : I s) : I (endRun s) := by
  unfold endRun
  split
  · exact foldl_keeps (fun _ k hs => h.of_restoreSlot k hs) _ (h.of_setStopState _ (h.resume _ s hs))
  · exact ite_keeps (h.of_setStopState _ (h.of_setFrozen _ hs)) (h.of_setStopState _ hs)

theorem StopFree.of_afterPops {s : State} (hs : I s) : I (afterPops s) := by
  have hn := h.notify .stop _ (h.anyStops { s.stops with
    stack := popped s.stops s.stops.stack, topTicked := false, topReported := false } s hs)
  exact ite_keeps (h.of_endRun hn) hn

theorem StopFree.of_dropResume {s : State} (hs : I s) : I (dropResume s) := h.of_notifyIf _ _ (h.resume _ s hs)

theorem StopFree.of_cutClick (hcut : ∀ s, I s → I (cutBeats s)) {s : State} (hs : I s) : I (cutClick s) :=
  h.of_clearArmed (h.of_cutFlashes (h.clicks (cutBeats s).clicks.silence (cutBeats s) rfl rfl (hcut s hs)))

theorem StopFree.of_resetShow (hcut : ∀ s, I s → I (cutBeats s))
    (hvamps : ∀ s, I s → I (clearCountIn (emptyVamps s))) {s : State} (hs : I s) : I (resetShow s) := by
  have hn := h.notify .stop _ (h.anyStops { s.stops with stack := [], topTicked := false, topReported := false } s hs)
  have hc := hvamps _ (h.of_cutClick hcut (h.of_setHoldOff 0 (h.of_lowerCommands hn)))
  unfold resetShow
  dsimp only
  exact h.of_setStopState _ (h.of_dropResume hc)

theorem StopFree.of_endStops {s : State} (hs : I s) : I (endStops s) := by
  have hr := h.of_setRaised .rigFault false (h.of_lowerCommands hs)
  unfold endStops
  dsimp only
  exact h.of_dropResume (h.of_setHoldOff 0 (h.of_notifyIf _ _ (h.anyStops _ _ hr)))

/-- END SHOW keeps it where its end of the beats and of the session do (R79). -/
theorem StopFree.of_endShow (hsession : ∀ x s, I s → I { s with tables := { s.tables with session := x } })
    (hbeats : ∀ s, I s → I (endBeats s)) {s : State} (hs : I s) : I (endShow s) := by
  have hsetup : I (setSession .setup s) := h.of_notifyIf _ _ (hsession .setup s hs)
  have hp := h.of_setPointer { s.pointer with armed := none, chasePending := false } hsetup
  have hf := h.of_cutFlashes (h.of_endStops (hbeats _ hp))
  unfold endShow
  dsimp only
  exact h.of_setStopState _ (h.of_setFrozen _ (h.overlay _ _ hf))

/-- A sampling keeps it where the ends of the click do. -/
theorem StopFree.keptBySampling (hcut : ∀ s, I s → I (cutBeats s)) (hfinish : ∀ s, I s → I (finishClick s)) :
    KeptBySampling I :=
  .of_anyStops h.toSteady h.anyStops hcut hfinish

end StopFree

/-- A property that depends on neither the tempo, nor the beats, nor the stops, nor the session. -/
structure Untimed (I : State → Prop) : Prop extends BeatFree I, StopFree I where
  session : ∀ x s, I s → I { s with tables := { s.tables with session := x } }

section Untimed

variable {I : State → Prop} (h : Untimed I)
include h

theorem Untimed.keptByCues : KeptByCues I :=
  h.toBeatFree.keptByCues (h.toStopFree.keptBySampling (fun _ hs => h.of_cutBeats hs) fun _ hs => h.of_finishClick hs)

theorem Untimed.of_endBeats {s : State} (hs : I s) : I (endBeats s) := by
  have hv := h.of_emptyVamps (h.anyTempo { s.tempo with taps := [] } s hs)
  have hc : I (clearCountIn (emptyVamps { s with tempo := { s.tempo with taps := [] } })) := h.anyBeats _ _ hv
  exact h.of_beatsAndClicks _ rfl rfl hc

theorem Untimed.of_resetShow {s : State} (hs : I s) : I (resetShow s) :=
  h.toStopFree.of_resetShow (fun _ hs => h.of_cutBeats hs) (fun _ hs => h.anyBeats _ _ (h.of_emptyVamps hs)) hs

theorem Untimed.of_endShow {s : State} (hs : I s) : I (endShow s) :=
  h.toStopFree.of_endShow h.session (fun _ hs => h.of_endBeats hs) hs

end Untimed

/-- What the commands ask beside the writes that `Untimed` lists: the tables, and the records of the desk, of
the pictures and of the rigs. -/
structure KeptByTables (I : State → Prop) : Prop extends Untimed I where
  anyRigs : ∀ x s, SameBindings s.rigs x → I s → I { s with rigs := x }
  desk : ∀ p d s, DeskWrite p s d → I s → I (s.setPort p d)
  settings : ∀ x s, I s → I { s with tables := { s.tables with settings := x } }
  cues : ∀ x s, CueWrite s.tables x → I s → I { s with tables := { s.tables with cues := x } }
  memory : ∀ a x s, a + x.length ≤ Config.clipMemorySize → I s →
    I { s with clicks := { s.clicks with memory := ClipMem.writeRun s.clicks.memory a x } }
  directory : ∀ n c s, (∀ d, c = some d → 1 ≤ d.length ∧ d.length ≤ Config.clipLengthMax ∧
      d.start + d.length ≤ Config.clipMemorySize ∧ s.clicks.overlaps n d = false) → I s →
    I { s with clicks := { s.clicks with directory := tput s.clicks.directory n c } }
  camera : ∀ k c s, CameraWrite (s.picture.cam k) c → I s → I { s with picture := s.picture.setCam k c }
  visits : ∀ s, I s → I { s with picture := s.picture.visitAll }
  unbindSlot : ∀ k s, I s → I (unbindSlot k s)
  unbindPort : ∀ p s, I s → I (unbindPort p s)
  loseSlot : ∀ k s, I s → I (loseSlot k s)
  bindRecords : ∀ p k s, (s.rigPort p).boundSlot = none → (s.rig k).boundPort = none → I s → I (bindRecords p k s)

theorem KeptByTables.keptByStep {I : State → Prop} (h : KeptByTables I) : KeptByStep I where
  toKeptByCues := h.toUntimed.keptByCues
  anyRigs := h.anyRigs
  desk := h.desk
  afterPops _ hs := h.toStopFree.of_afterPops hs
  resetShow _ hs := h.toUntimed.of_resetShow hs
  endShow _ _ hs := h.toUntimed.of_endShow hs
  acknowledge _ _ s _ hs := h.anyStops _ s hs
  beginShow s _ hs := h.session .inShow s hs
  levels _ s _ hs := h.anyStops _ s hs
  settings := h.settings
  cues x s _ hc hs := h.cues x s hc hs
  memory := h.memory
  directory := h.directory
  camera := h.camera
  visits := h.visits
  unbindSlot := h.unbindSlot
  unbindPort := h.unbindPort
  loseSlot := h.loseSlot
  bindRecords := h.bindRecords

end Sys2Proof.Machine
end

section
/-!
PROOFS. The roles, the pending sets and the binding map (R98 to R101, R191, R197): their writes keep them, and with them every step.
-/

namespace Sys2Proof.Machine
set_option Elab.async false

/-! ## Roles and notices (R191, R197) -/

/-- A pending set that lies within its mask does so with any kinds of the mask added. -/
theorem masked_addKinds {d : DeskPortRec} (kinds : BitVec 8) (hd : d.pendingSet &&& ~~~d.mask = 0) :
    (d.addKinds kinds).pendingSet &&& ~~~(d.addKinds kinds).mask = 0 := by
  have hbit : ∀ i, (d.pendingSet &&& ~~~d.mask).getLsbD i = false := by rw [hd]; simp
  refine BitVec.eq_of_getLsbD_eq fun i hi => ?_
  have := hbit i
  simp only [BitVec.getLsbD_and, BitVec.getLsbD_not, hi, decide_true, Bool.true_and] at this
  simp only [DeskPortRec.addKinds, BitVec.getLsbD_and, BitVec.getLsbD_or, BitVec.getLsbD_not, hi, decide_true,
    Bool.true_and]
  cases h1 : d.mask.getLsbD i <;> simp [h1] at this ⊢
  exact this

theorem DeskInv.notify (k : NoticeKind) {s : State} (hs : DeskInv s) : DeskInv (notify k s) where
  roles p q := by simpa [DeskPortRec.addKinds] using hs.roles p q
  masked p := by rw [port_notify]; exact masked_addKinds _ (hs.masked p)

/-- A write of a port's record that gives it no other port's role and keeps its pending set within its mask (R191). -/
theorem DeskInv.setPort {p : DeskPort} {d : DeskPortRec} {s : State} (hd : DeskWrite p s d) (hs : DeskInv s) :
    DeskInv (s.setPort p d) where
  roles q r hqr hq := by
    have hother : ∀ x, x ≠ p → d.role ≠ none → (s.port x).role ≠ d.role := by
      intro x hx hnone hsame
      rcases hd.role with hr | hr | hr
      · exact hx (hs.roles x p (hsame.trans hr) (hsame ▸ hnone))
      · exact hnone hr
      · exact hr x hsame
    simp only [port_setPort] at hqr hq
    by_cases hpq : p = q <;> by_cases hpr : p = r
    · exact hpq.symm.trans hpr
    · rw [if_pos hpq, if_neg hpr] at hqr
      rw [if_pos hpq] at hq
      exact absurd hqr.symm (hother r (Ne.symm hpr) hq)
    · rw [if_neg hpq, if_pos hpr] at hqr
      rw [if_neg hpq] at hq
      exact absurd hqr (hother q (Ne.symm hpq) (hqr ▸ hq))
    · rw [if_neg hpq, if_neg hpr] at hqr
      rw [if_neg hpq] at hq
      exact hs.roles q r hqr hq
  masked q := by
    rw [port_setPort]
    split
    · exact hd.masked (hs.masked p)
    · exact hs.masked q

theorem DeskInv.congr {s t : State} (hs : DeskInv s) (hd : t.desk = s.desk) : DeskInv t where
  roles p q := by simpa [port_congr hd] using hs.roles p q
  masked p := by simpa [port_congr hd] using hs.masked p

theorem DeskInv.untimed : Untimed DeskInv where
  notify k _ hs := hs.notify k
  time _ _ hs := hs.congr rfl
  pointer _ _ hs := hs.congr rfl
  overlay _ _ hs := hs.congr rfl
  resume _ _ hs := hs.congr rfl
  clicks _ _ _ _ hs := hs.congr rfl
  rigs _ _ _ hs := hs.congr rfl
  picture _ _ _ hs := hs.congr rfl
  stops _ _ _ hs := hs.congr rfl
  anyTempo _ _ hs := hs.congr rfl
  anyBeats _ _ hs := hs.congr rfl
  noHoldOff _ hs := hs.congr rfl
  anyStops _ _ hs := hs.congr rfl
  session _ _ hs := hs.congr rfl

section Bindings

variable {I : State → Prop} (h : Steady I) (hrigs : ∀ x s, I s → I { s with rigs := x })
include h hrigs

/-- What no write of the rig records touches, the binding operations leave. -/
theorem Steady.of_anyRigPort (p : RigPort) (r : RigPortRec) {s : State} (hs : I s) : I (setRigPort p r s) :=
  h.of_notifyIf _ _ (hrigs _ s hs)

theorem Steady.of_anyRig (k : Slot) (r : Rig) {s : State} (hs : I s) : I (setRig k r s) :=
  h.of_notifyIf _ _ (hrigs _ s hs)

theorem Steady.of_anyUnbindSlot (k : Slot) {s : State} (hs : I s) : I (unbindSlot k s) := by
  refine h.of_anyRig hrigs _ _ ?_
  split
  · exact h.notify _ _ (h.of_anyRigPort hrigs _ _ hs)
  · exact hs

theorem Steady.of_anyUnbindPort (p : RigPort) {s : State} (hs : I s) : I (unbindPort p s) := by
  unfold unbindPort
  split
  · exact h.of_anyUnbindSlot hrigs _ (h.of_anyRigPort hrigs _ _ hs)
  · exact hs

theorem Steady.of_anyLoseSlot (k : Slot) {s : State} (hs : I s) : I (loseSlot k s) := by
  refine h.of_anyRig hrigs _ _ ?_
  split
  · exact h.of_anyRigPort hrigs _ _ hs
  · exact hs

theorem Steady.of_anyBindRecords (p : RigPort) (k : Slot) {s : State} (hs : I s) : I (bindRecords p k s) :=
  h.notify _ _ (h.of_anyRig hrigs _ _ (h.of_anyRigPort hrigs _ _ hs))

end Bindings

theorem DeskInv.keptByTables : KeptByTables DeskInv where
  toUntimed := DeskInv.untimed
  anyRigs _ _ _ hs := hs.congr rfl
  desk _ _ _ hd hs := hs.setPort hd
  settings _ _ hs := hs.congr rfl
  cues _ _ _ hs := hs.congr rfl
  memory _ _ _ _ hs := hs.congr rfl
  directory _ _ _ _ hs := hs.congr rfl
  camera _ _ _ _ hs := hs.congr rfl
  visits _ hs := hs.congr rfl
  unbindSlot k _ hs := DeskInv.untimed.toSteady.of_anyUnbindSlot (fun _ _ hs => hs.congr rfl) k hs
  unbindPort p _ hs := DeskInv.untimed.toSteady.of_anyUnbindPort (fun _ _ hs => hs.congr rfl) p hs
  loseSlot k _ hs := DeskInv.untimed.toSteady.of_anyLoseSlot (fun _ _ hs => hs.congr rfl) k hs
  bindRecords p k _ _ _ hs := DeskInv.untimed.toSteady.of_anyBindRecords (fun _ _ hs => hs.congr rfl) p k hs

/-! ## The binding map (R98, R99, R101) -/

theorem BindInv.congr {s t : State} (hs : BindInv s) (hp : ∀ p, (t.rigPort p).boundSlot = (s.rigPort p).boundSlot)
    (hk : ∀ k, (t.rig k).boundPort = (s.rig k).boundPort) : BindInv t := by
  intro p k
  rw [hp, hk]
  exact hs p k

theorem BindInv.same {s t : State} (hs : BindInv s) (hr : t.rigs = s.rigs) : BindInv t :=
  hs.congr (fun p => by rw [State.rigPort, State.rigPort, hr]) fun k => by rw [State.rig, State.rig, hr]

/-- A binding that ends leaves the other pairs. -/
theorem BindInv.ended {s t : State} (k : Slot) (hs : BindInv s)
    (hp : ∀ q, (t.rigPort q).boundSlot = if (s.rig k).boundPort = some q then none else (s.rigPort q).boundSlot)
    (hk : ∀ j, (t.rig j).boundPort = if k = j then none else (s.rig j).boundPort) : BindInv t := by
  intro p j
  rw [hp, hk]
  by_cases hkj : k = j
  · subst hkj
    rw [if_pos rfl]
    split
    · simp
    · next hne => simpa using fun he => hne ((hs p k).1 he)
  · rw [if_neg hkj]
    split
    · next he =>
      have hpk := (hs p k).2 he
      simp only [reduceCtorEq, false_iff]
      intro hj
      exact hkj (Option.some.inj (hpk.symm.trans ((hs p j).2 hj)))
    · exact hs p j

theorem BindInv.unbindSlot (k : Slot) {s : State} (hs : BindInv s) : BindInv (unbindSlot k s) :=
  hs.ended k (fun q => by rw [rigPort_unbindSlot]; split <;> rfl)
    fun j => by rw [rig_unbindSlot]; split <;> rfl

theorem BindInv.unbindPort (p : RigPort) {s : State} (hs : BindInv s) : BindInv (unbindPort p s) := by
  cases hk : (s.rigPort p).boundSlot with
  | none => unfold Machine.unbindPort; rwa [hk]
  | some k =>
    have hpk := (hs p k).1 hk
    have heq : Machine.unbindPort p s = Machine.unbindSlot k (setRigPort p { s.rigPort p with boundSlot := none } s) := by
      unfold Machine.unbindPort; rw [hk]
    rw [heq]
    refine hs.ended k (fun q => ?_) fun j => ?_
    · rw [rigPort_unbindSlot, rig_setRigPort, rigPort_setRigPort, hpk]
      by_cases hpq : p = q
      · simp [hpq]
      · simp [hpq]
    · rw [rig_unbindSlot]
      split
      · rfl
      · rw [rig_setRigPort]

theorem BindInv.loseSlot (k : Slot) {s : State} (hs : BindInv s) : BindInv (loseSlot k s) := by
  refine hs.ended k (fun q => ?_) fun j => ?_
  · unfold Machine.loseSlot
    dsimp only
    rw [rigPort_setRig]
    cases hp : (s.rig k).boundPort with
    | none => simp
    | some p =>
      dsimp only
      rw [rigPort_setRigPort]
      by_cases hpq : p = q
      · simp [hpq]
      · simp [hpq]
  · unfold Machine.loseSlot
    dsimp only
    rw [rig_setRig]
    split
    · rfl
    · split <;> simp

theorem BindInv.bindRecords {p : RigPort} {k : Slot} {s : State} (hp : (s.rigPort p).boundSlot = none)
    (hk : (s.rig k).boundPort = none) (hs : BindInv s) : BindInv (bindRecords p k s) := by
  have hport : ∀ q, ((Machine.bindRecords p k s).rigPort q).boundSlot =
      if p = q then some k else (s.rigPort q).boundSlot := by
    intro q
    unfold Machine.bindRecords
    dsimp only
    rw [rigPort_notify, rigPort_setRig, rigPort_setRigPort]
    split <;> rfl
  have hslot : ∀ j, ((Machine.bindRecords p k s).rig j).boundPort = if k = j then some p else (s.rig j).boundPort := by
    intro j
    unfold Machine.bindRecords
    dsimp only
    rw [rig_notify, rig_setRig]
    split
    · rfl
    · rw [rig_setRigPort]
  intro q j
  rw [hport, hslot]
  by_cases hpq : p = q <;> by_cases hkj : k = j
  · simp [hpq, hkj]
  · subst hpq
    rw [if_pos rfl, if_neg hkj]
    have : (s.rig j).boundPort ≠ some p := fun he => by rw [(hs p j).2 he] at hp; cases hp
    simp [this, hkj]
  · subst hkj
    rw [if_neg hpq, if_pos rfl]
    have : (s.rigPort q).boundSlot ≠ some k := fun he => by rw [(hs q k).1 he] at hk; cases hk
    simp [this, hpq]
  · rw [if_neg hpq, if_neg hkj]
    exact hs q j

theorem BindInv.untimed : Untimed BindInv where
  notify _ _ hs := hs.same rfl
  time _ _ hs := hs.same rfl
  pointer _ _ hs := hs.same rfl
  overlay _ _ hs := hs.same rfl
  resume _ _ hs := hs.same rfl
  clicks _ _ _ _ hs := hs.same rfl
  rigs _ _ hx hs := hs.congr hx.ports hx.slots
  picture _ _ _ hs := hs.same rfl
  stops _ _ _ hs := hs.same rfl
  anyTempo _ _ hs := hs.same rfl
  anyBeats _ _ hs := hs.same rfl
  noHoldOff _ hs := hs.same rfl
  anyStops _ _ hs := hs.same rfl
  session _ _ hs := hs.same rfl

theorem BindInv.keptByTables : KeptByTables BindInv where
  toUntimed := BindInv.untimed
  anyRigs _ _ hx hs := hs.congr hx.ports hx.slots
  desk _ _ _ _ hs := hs.same rfl
  settings _ _ hs := hs.same rfl
  cues _ _ _ hs := hs.same rfl
  memory _ _ _ _ hs := hs.same rfl
  directory _ _ _ _ hs := hs.same rfl
  camera _ _ _ _ hs := hs.same rfl
  visits _ hs := hs.same rfl
  unbindSlot k _ hs := hs.unbindSlot k
  unbindPort p _ hs := hs.unbindPort p
  loseSlot k _ hs := hs.loseSlot k
  bindRecords _ _ _ hp hk hs := hs.bindRecords hp hk

/-! ## Power on -/

theorem DeskInv.reset (q : List Instr) : DeskInv { State.reset with pending := q } :=
  have hrole : ∀ p : DeskPort, (State.reset.port p).role = none := by decide
  have hmasked : ∀ p : DeskPort, (State.reset.port p).pendingSet &&& ~~~(State.reset.port p).mask = 0 := by decide
  DeskInv.congr (s := State.reset) ⟨fun p _ _ hp => absurd (hrole p) hp, hmasked⟩ rfl

theorem BindInv.reset (q : List Instr) : BindInv { State.reset with pending := q } :=
  have hport : ∀ p : RigPort, (State.reset.rigPort p).boundSlot = none := by decide
  have hslot : ∀ k : Slot, (State.reset.rig k).boundPort = none := by decide
  BindInv.same (s := State.reset) (fun p k => by simp [hport p, hslot k]) rfl

/-- Settles O59: the writes of a port record and of a binding keep the two, and every step is made of such writes. -/
theorem rolesStayUnique : Obligations.RolesStayUnique :=
  ⟨fun _ _ hs ht => DeskInv.keptByTables.keptByStep.step (fun _ _ hs => hs.congr rfl) DeskInv.reset hs ht,
   fun _ _ hs ht => BindInv.keptByTables.keptByStep.step (fun _ _ hs => hs.same rfl) BindInv.reset hs ht⟩

end Sys2Proof.Machine
end

section
/-!
PROOFS. The cue list, the clips and the rings of the cameras (R43, R44, R61, R62, R121, R134, R136): their edits and their
frame events keep them in order, and with them every step.
-/

namespace Sys2Proof.Machine
set_option Elab.async false

/-! ## The cue list (R61, R62) -/

/-- A list rises by number just where it is sorted by it. -/
theorem cuesRise_iff_pairwise {l : List Cue} : cuesRise l ↔ l.Pairwise fun c d => c.number < d.number := by
  refine ⟨cuesRise.pairwise, fun hp => ?_⟩
  induction l using cuesRise.induct with
  | case1 => trivial
  | case2 c => trivial
  | case3 c d l ih =>
    obtain ⟨hc, hrest⟩ := List.pairwise_cons.mp hp
    exact ⟨hc d List.mem_cons_self, ih hrest⟩

@[simp] theorem insertChange_length (e : ChangeEntry) (l : List ChangeEntry) :
    (insertChange e l).length = l.length + 1 := by
  induction l with
  | nil => rfl
  | cons f l ih =>
    unfold insertChange
    split
    · rfl
    · simp [ih]

/-- A stored cue has as many change entries as its record. -/
@[simp] theorem stored_changes_length (c : Cue) : c.stored.changes.length = c.changes.length := by
  show (c.changes.foldr insertChange []).length = c.changes.length
  induction c.changes with
  | nil => rfl
  | cons e l ih => simp [ih]

theorem insertCue_perm (c : Cue) (l : List Cue) : (insertCue c l).Perm (c :: l) := by
  induction l with
  | nil => exact .refl _
  | cons d l ih =>
    unfold insertCue
    split
    · exact .refl _
    · exact (ih.cons d).trans (.swap c d l)

theorem mem_insertCue {c x : Cue} {l : List Cue} : x ∈ insertCue c l ↔ x = c ∨ x ∈ l := by
  rw [(insertCue_perm c l).mem_iff, List.mem_cons]

/-- A cue of a new number joins an ascending list in its place (R61). -/
theorem insertCue_rises {c : Cue} {l : List Cue} (hnew : ∀ d ∈ l, d.number ≠ c.number) (hl : cuesRise l) :
    cuesRise (insertCue c l) := by
  rw [cuesRise_iff_pairwise] at hl ⊢
  induction l with
  | nil => exact List.pairwise_singleton _ c
  | cons d l ih =>
    obtain ⟨hd, hrest⟩ := List.pairwise_cons.mp hl
    have hdc := hnew d List.mem_cons_self
    unfold insertCue
    split
    · next hlt =>
      refine .cons (fun x hx => ?_) hl
      obtain rfl | hx := List.mem_cons.mp hx
      · exact hlt
      · exact hlt.trans (hd x hx)
    · next hge =>
      refine .cons (fun x hx => ?_) (ih (fun x hx => hnew x (List.mem_cons_of_mem _ hx)) hrest)
      obtain rfl | hx := mem_insertCue.mp hx
      · omega
      · exact hd x hx

theorem find_none {t : Tables} {n : Nat} (hn : t.find n = none) : ∀ d ∈ t.cues, d.number ≠ n := fun d hd => by
  simpa using List.find?_eq_none.mp hn d hd

@[simp] theorem stored_number (c : Cue) : c.stored.number = c.number := rfl

/-- The replacement of the cue of a number moves no number. -/
theorem map_replace_number (c : Cue) (l : List Cue) :
    (l.map fun d => if d.number = c.number then c.stored else d).map Cue.number = l.map Cue.number := by
  rw [List.map_map]
  refine List.map_congr_left fun d _ => ?_
  simp only [Function.comp]
  split
  · next he => exact he.symm
  · rfl

theorem cuesRise_congr {l m : List Cue} (hn : m.map Cue.number = l.map Cue.number) (hl : cuesRise l) : cuesRise m := by
  rw [cuesRise_iff_pairwise] at hl ⊢
  have hpair : (m.map Cue.number).Pairwise (· < ·) := by
    rw [hn]
    exact List.pairwise_map.mpr hl
  exact List.pairwise_map.mp hpair

/-- The pool after a replacement: the new entries in place of the old (R65). -/
theorem poolUsed_replace {c old : Cue} {l : List Cue} (hl : cuesRise l) (ho : old ∈ l) (hn : old.number = c.number) :
    poolUsed (l.map fun d => if d.number = c.number then c.stored else d) + old.changes.length =
      poolUsed l + c.changes.length := by
  rw [cuesRise_iff_pairwise] at hl
  induction l with
  | nil => cases ho
  | cons d l ih =>
    obtain ⟨hd, hrest⟩ := List.pairwise_cons.mp hl
    obtain rfl | ho := List.mem_cons.mp ho
    · have hkeep : l.map (fun d => if d.number = c.number then c.stored else d) = l := by
        conv_rhs => rw [← List.map_id l]
        refine List.map_congr_left fun x hx => ?_
        have := hd x hx
        exact if_neg (by omega)
      simp only [List.map_cons, poolUsed, List.sum_cons, if_pos hn, stored_changes_length, hkeep]
      omega
    · have hne : d.number ≠ c.number := by
        have := hd old ho
        omega
      have := ih hrest ho
      simp only [List.map_cons, poolUsed, List.sum_cons, if_neg hne] at this ⊢
      omega

theorem poolUsed_sublist {l m : List Cue} (h : l.Sublist m) : poolUsed l ≤ poolUsed m :=
  (h.map fun c => c.changes.length).sum_le_sum (by simp)

theorem CueInv.edit {s : State} {x : List Cue} (hx : CueWrite s.tables x) (hs : CueInv s) :
    CueInv { s with tables := { s.tables with cues := x } } := by
  obtain ⟨horder, hsize, hpool⟩ := hs
  cases hx with
  | insert c hv hn hfull hp =>
    have hlength := (insertCue_perm c.stored s.tables.cues).length_eq
    have hsum := ((insertCue_perm c.stored s.tables.cues).map fun c => c.changes.length).sum_eq
    refine ⟨insertCue_rises (find_none hn) horder, ?_, ?_⟩
    · simp only [List.length_cons] at hlength
      simp only [hlength]
      omega
    · simp only [Tables.freeCount] at hp
      simp only [poolUsed, List.map_cons, List.sum_cons, stored_changes_length] at hsum hpool hp ⊢
      omega
  | replace c old hv ho hp =>
    have hpool' := poolUsed_replace horder (find_mem ho) (by simpa using List.find?_some ho)
    refine ⟨cuesRise_congr (map_replace_number c _) horder, by simpa using hsize, ?_⟩
    simp only [Tables.freeCount] at hp
    dsimp only
    omega
  | delete n =>
    have hsub : (s.tables.cues.filter fun d => d.number != n).Sublist s.tables.cues := List.filter_sublist
    refine ⟨cuesRise_iff_pairwise.mpr (horder.pairwise.sublist hsub), hsub.length_le.trans hsize,
      (poolUsed_sublist hsub).trans hpool⟩
  | clear => exact ⟨trivial, Nat.zero_le _, Nat.zero_le _⟩

theorem CueInv.congr {s t : State} (hs : CueInv s) (hc : t.tables.cues = s.tables.cues) : CueInv t := by
  obtain ⟨horder, hsize, hpool⟩ := hs
  rw [← hc] at horder hsize hpool
  exact ⟨horder, hsize, hpool⟩

theorem CueInv.untimed : Untimed CueInv where
  notify _ _ hs := hs.congr rfl
  time _ _ hs := hs.congr rfl
  pointer _ _ hs := hs.congr rfl
  overlay _ _ hs := hs.congr rfl
  resume _ _ hs := hs.congr rfl
  clicks _ _ _ _ hs := hs.congr rfl
  rigs _ _ _ hs := hs.congr rfl
  picture _ _ _ hs := hs.congr rfl
  stops _ _ _ hs := hs.congr rfl
  anyTempo _ _ hs := hs.congr rfl
  anyBeats _ _ hs := hs.congr rfl
  noHoldOff _ hs := hs.congr rfl
  anyStops _ _ hs := hs.congr rfl
  session _ _ hs := hs.congr rfl

theorem CueInv.keptByTables : KeptByTables CueInv where
  toUntimed := CueInv.untimed
  anyRigs _ _ _ hs := hs.congr rfl
  desk _ _ _ _ hs := hs.congr rfl
  settings _ _ hs := hs.congr rfl
  cues _ _ hx hs := hs.edit hx
  memory _ _ _ _ hs := hs.congr rfl
  directory _ _ _ _ hs := hs.congr rfl
  camera _ _ _ _ hs := hs.congr rfl
  visits _ hs := hs.congr rfl
  unbindSlot k _ hs := CueInv.untimed.toSteady.of_anyUnbindSlot (fun _ _ hs => hs.congr rfl) k hs
  unbindPort p _ hs := CueInv.untimed.toSteady.of_anyUnbindPort (fun _ _ hs => hs.congr rfl) p hs
  loseSlot k _ hs := CueInv.untimed.toSteady.of_anyLoseSlot (fun _ _ hs => hs.congr rfl) k hs
  bindRecords p k _ _ _ hs := CueInv.untimed.toSteady.of_anyBindRecords (fun _ _ hs => hs.congr rfl) p k hs

/-! ## The clips (R43, R44) -/

/-- Spans that lie apart share no address. -/
theorem not_share_of_apart {a b : Clip} (h : a.apart b = true) : ¬ a.Share b := by
  rintro ⟨x, h1, h2, h3, h4⟩
  simp only [Clip.apart, Bool.or_eq_true, decide_eq_true_eq] at h
  omega

theorem Clip.Share.symm {a b : Clip} (h : a.Share b) : b.Share a := by
  obtain ⟨x, h1, h2, h3, h4⟩ := h
  exact ⟨x, h3, h4, h1, h2⟩

theorem mem_allLanes (i : LaneNo) : i ∈ allLanes := by revert i; decide

/-- A span that overlaps no other entry shares no address with one (R44). -/
theorem not_share_of_overlaps {g : ClickGen} {n i : Fin 16} {c d : Clip} (ho : g.overlaps n c = false) (hi : i ≠ n)
    (hd : tget g.directory i = some d) : ¬ c.Share d := by
  have := List.any_eq_false.mp ho i (mem_allLanes i)
  simp only [hd, bne_iff_ne.mpr hi, Bool.true_and, Bool.not_eq_true', Bool.not_eq_false] at this
  exact not_share_of_apart this

theorem ClipInv.congr {s t : State} (hs : ClipInv s) (hm : t.clicks.memory = s.clicks.memory)
    (hd : t.clicks.directory = s.clicks.directory) : ClipInv t := by
  obtain ⟨hmemory, hspans, hapart⟩ := hs
  rw [← hd] at hspans hapart
  exact ⟨hm ▸ hmemory, hspans, hapart⟩

theorem ClipInv.define {n : Fin 16} {c : Option Clip} {s : State}
    (hc : ∀ d, c = some d → 1 ≤ d.length ∧ d.length ≤ Config.clipLengthMax ∧
      d.start + d.length ≤ Config.clipMemorySize ∧ s.clicks.overlaps n d = false) (hs : ClipInv s) :
    ClipInv { s with clicks := { s.clicks with directory := tput s.clicks.directory n c } } where
  memory := hs.memory
  spans m d hd := by
    dsimp only at hd
    rw [tget_tput] at hd
    split at hd
    · obtain ⟨hpos, hlength, hspan, -⟩ := hc d hd
      exact ⟨hpos, hlength, hspan⟩
    · exact hs.spans m d hd
  apart i j d e hij hd he := by
    dsimp only at hd he
    rw [tget_tput] at hd he
    split at hd <;> split at he
    · next hi hj => exact absurd (hi.symm.trans hj) hij
    · next hi hj => exact not_share_of_overlaps (hc d hd).2.2.2 (Ne.symm hj) he
    · next hi hj => exact fun h => not_share_of_overlaps (hc e he).2.2.2 (Ne.symm hi) hd h.symm
    · exact hs.apart i j d e hij hd he

theorem ClipInv.untimed : Untimed ClipInv where
  notify _ _ hs := hs.congr rfl rfl
  time _ _ hs := hs.congr rfl rfl
  pointer _ _ hs := hs.congr rfl rfl
  overlay _ _ hs := hs.congr rfl rfl
  resume _ _ hs := hs.congr rfl rfl
  clicks _ _ hm hd hs := hs.congr hm hd
  rigs _ _ _ hs := hs.congr rfl rfl
  picture _ _ _ hs := hs.congr rfl rfl
  stops _ _ _ hs := hs.congr rfl rfl
  anyTempo _ _ hs := hs.congr rfl rfl
  anyBeats _ _ hs := hs.congr rfl rfl
  noHoldOff _ hs := hs.congr rfl rfl
  anyStops _ _ hs := hs.congr rfl rfl
  session _ _ hs := hs.congr rfl rfl

theorem ClipInv.keptByTables : KeptByTables ClipInv where
  toUntimed := ClipInv.untimed
  anyRigs _ _ _ hs := hs.congr rfl rfl
  desk _ _ _ _ hs := hs.congr rfl rfl
  settings _ _ hs := hs.congr rfl rfl
  cues _ _ _ hs := hs.congr rfl rfl
  memory _ _ _ ha hs := ⟨ClipMem.writeRun_wf _ hs.memory ha, hs.spans, hs.apart⟩
  directory _ _ _ hc hs := hs.define hc
  camera _ _ _ _ hs := hs.congr rfl rfl
  visits _ hs := hs.congr rfl rfl
  unbindSlot k _ hs := ClipInv.untimed.toSteady.of_anyUnbindSlot (fun _ _ hs => hs.congr rfl rfl) k hs
  unbindPort p _ hs := ClipInv.untimed.toSteady.of_anyUnbindPort (fun _ _ hs => hs.congr rfl rfl) p hs
  loseSlot k _ hs := ClipInv.untimed.toSteady.of_anyLoseSlot (fun _ _ hs => hs.congr rfl rfl) k hs
  bindRecords p k _ _ _ hs := ClipInv.untimed.toSteady.of_anyBindRecords (fun _ _ hs => hs.congr rfl rfl) p k hs

/-! ## The rings (R121, R134, R136) -/

/-- The number of monitors that hold a slot (R134). -/
def holders (p : Picture) (k : Camera) (i : Fin 6) : Nat :=
  allMonitors.countP fun m => decide ((p.monitor m).held = some ⟨k, i⟩)

/-- What `PictureInv` says of one camera's ring, with the number of monitors that hold each slot. -/
structure RingOk (c : CameraRec) (n : Fin 6 → Nat) : Prop where
  readers : ∀ i, (c.slot i).readers = n i
  held : ∀ i, n i ≠ 0 → (c.slot i).state = .ready
  listed : ∀ i, i ∈ c.ready ↔ (c.slot i).state = .ready
  once : c.ready.Nodup
  oneFilling : ∀ i j, (c.slot i).state = .filling → (c.slot j).state = .filling → i = j

theorem mem_allMonitors (m : Fin 6) : m ∈ allMonitors := by revert m; decide

theorem holders_ne_zero {p : Picture} {k : Camera} {i : Fin 6} :
    holders p k i ≠ 0 ↔ ∃ m, (p.monitor m).held = some ⟨k, i⟩ := by
  unfold holders
  rw [← Nat.pos_iff_ne_zero, List.countP_pos_iff]
  simp [mem_allMonitors]

theorem pictureInv_iff {s : State} : PictureInv s ↔ ∀ k, RingOk (s.picture.cam k) (holders s.picture k) := by
  constructor
  · intro hs k
    refine ⟨hs.readers k, fun i hi => ?_, hs.listed k, hs.once k, hs.oneFilling k⟩
    obtain ⟨m, hm⟩ := holders_ne_zero.mp hi
    exact hs.held m _ hm
  · intro hs
    exact ⟨fun k => (hs k).readers, fun m id hm => (hs id.camera).held id.index (holders_ne_zero.mpr ⟨m, hm⟩),
      fun k => (hs k).listed, fun k => (hs k).once, fun k => (hs k).oneFilling⟩

theorem slot_setSlot (c : CameraRec) (i j : Fin 6) (f : FrameSlot) :
    (c.setSlot i f).slot j = if i = j then f else c.slot j := by
  simp [CameraRec.slot, CameraRec.setSlot, tget_tput]

section RingOk

variable {c d : CameraRec} {n : Fin 6 → Nat} (h : RingOk c n)
include h

theorem RingOk.congr (hring : d.ring = c.ring) (hready : d.ready = c.ready) : RingOk d n := by
  have hslot : ∀ i, d.slot i = c.slot i := fun i => by rw [CameraRec.slot, CameraRec.slot, hring]
  obtain ⟨hreaders, hheld, hlisted, honce, hfilling⟩ := h
  simp only [← hslot, ← hready] at hreaders hheld hlisted honce hfilling
  exact ⟨hreaders, hheld, hlisted, honce, hfilling⟩

/-- One slot is replaced, its reader count kept: a held slot stays READY, the ready list follows the slot's state, and a
slot becomes FILLING only where no other is. -/
theorem RingOk.replace {i : Fin 6} {f : FrameSlot} (hslot : ∀ j, d.slot j = if i = j then f else c.slot j)
    (hreaders : f.readers = (c.slot i).readers) (hheld : n i ≠ 0 → f.state = .ready)
    (hready : ∀ j, j ∈ d.ready ↔ if i = j then f.state = .ready else j ∈ c.ready) (honce : d.ready.Nodup)
    (hfill : f.state = .filling → ∀ j, i ≠ j → (c.slot j).state ≠ .filling) : RingOk d n where
  readers j := by
    rw [hslot]
    split
    · next hij => rw [hreaders, h.readers, hij]
    · exact h.readers j
  held j hj := by
    rw [hslot]
    split
    · next hij => exact hheld (hij ▸ hj)
    · exact h.held j hj
  listed j := by
    rw [hready, hslot]
    split
    · rfl
    · exact h.listed j
  once := honce
  oneFilling j l hj hl := by
    rw [hslot] at hj hl
    split at hj <;> split at hl
    · next hij hil => exact hij.symm.trans hil
    · next hij hil => exact absurd hl (hfill hj l hil)
    · next hij hil => exact absurd hj (hfill hl j hij)
    · exact h.oneFilling j l hj hl

omit h in
/-- The slot that is FILLING, where there is one, is the one that the search finds. -/
theorem filling_some {i : Fin 6} (hi : c.filling = some i) : (c.slot i).state = .filling := by
  simpa using List.find?_some hi

omit h in
theorem filling_none (hn : c.filling = none) (i : Fin 6) : (c.slot i).state ≠ .filling := by
  have hmem : i ∈ ringIndices := by revert i; decide
  simpa using List.find?_eq_none.mp hn i hmem

theorem RingOk.not_listed {i : Fin 6} (hi : (c.slot i).state ≠ .ready) : i ∉ c.ready := fun hmem =>
  hi ((h.listed i).1 hmem)

/-- A slot that is neither READY before nor after is replaced. -/
theorem RingOk.setUnready {i : Fin 6} {f : FrameSlot} (hslot : ∀ j, d.slot j = if i = j then f else c.slot j)
    (hd : d.ready = c.ready) (hreaders : f.readers = (c.slot i).readers) (hi : (c.slot i).state ≠ .ready)
    (hf : f.state ≠ .ready) (hfill : f.state = .filling → ∀ j, i ≠ j → (c.slot j).state ≠ .filling) : RingOk d n := by
  refine h.replace hslot hreaders (fun hn => absurd (h.held i hn) hi) (fun j => ?_) (hd ▸ h.once) hfill
  rw [hd]
  split
  · next hij => exact iff_of_false (hij ▸ h.not_listed hi) hf
  · rfl

/-- The filling slot, where there is one, becomes FREE. -/
theorem RingOk.freeFilling : RingOk c.freeFilling n := by
  unfold CameraRec.freeFilling
  split
  · next i hi =>
    exact h.setUnready (slot_setSlot c i · _) rfl rfl (by simp [filling_some hi]) (by simp) (by simp)
  · exact h

/-- With the FILLING slot freed, none is FILLING. -/
theorem RingOk.freeFilling_slot (j : Fin 6) : (c.freeFilling.slot j).state ≠ .filling := by
  unfold CameraRec.freeFilling
  split
  · next i hi =>
    rw [slot_setSlot]
    split
    · simp
    · next hij => exact fun hj => hij (h.oneFilling i j (filling_some hi) hj)
  · next hn => exact filling_none hn j

theorem RingOk.closeOpen : RingOk c.closeOpen n ∧ ∀ j, (c.closeOpen.slot j).state ≠ .filling := by
  unfold CameraRec.closeOpen
  split
  · exact ⟨h.freeFilling.congr rfl rfl, h.freeFilling_slot⟩
  · next hn =>
    split
    · exact ⟨h.congr rfl rfl, filling_none hn⟩
    · exact ⟨h, filling_none hn⟩

/-- A slot that no monitor holds leaves the ready list for another state (R121). -/
theorem RingOk.unlist {i : Fin 6} {f : FrameSlot} (hslot : ∀ j, d.slot j = if i = j then f else c.slot j)
    (hd : d.ready = c.ready.filter fun j => j != i) (hreaders : f.readers = (c.slot i).readers) (hi : n i = 0)
    (hf : f.state ≠ .ready) (hfill : f.state = .filling → ∀ j, i ≠ j → (c.slot j).state ≠ .filling) : RingOk d n := by
  refine h.replace hslot hreaders (fun hn => absurd hi hn) (fun j => ?_) (hd ▸ h.once.filter _) hfill
  rw [hd, List.mem_filter]
  split
  · next hij => simp [hij, hf]
  · next hij => simp [Ne.symm hij]

/-- The slot that a frame start chooses is held by no monitor (R123). -/
theorem RingOk.candidate {i : Fin 6} (hi : c.candidate = some i) : n i = 0 := by
  unfold CameraRec.candidate at hi
  split at hi
  · next j hj =>
    obtain rfl := Option.some.inj hi
    by_contra hn
    have hfree := List.find?_some hj
    simp [h.held j hn] at hfree
  · have hfound := List.find?_some hi
    simp only [Bool.and_eq_true, beq_iff_eq] at hfound
    rw [← h.readers i]
    exact hfound.2

theorem RingOk.start (now : Nat) : RingOk (c.start now) n := by
  obtain ⟨hclose, hnone⟩ := h.closeOpen
  have hopen : RingOk { c.closeOpen with frameOpen := true, lastStart := now } n := hclose.congr rfl rfl
  unfold CameraRec.start
  dsimp only
  split
  · next i hi => exact hopen.unlist (slot_setSlot _ i · _) rfl rfl (hopen.candidate hi) (by simp) fun _ j _ => hnone j
  · exact hopen.congr rfl rfl

theorem RingOk.store : RingOk c.store n := by
  unfold CameraRec.store
  split
  · next i hi =>
    have hfilling := filling_some hi
    have hnot : i ∉ c.ready := h.not_listed (by simp [hfilling])
    refine h.replace (slot_setSlot c i · _) rfl (fun _ => rfl) (fun j => ?_) ?_ (by simp)
    · by_cases hij : i = j
      · simp [hij]
      · simp [hij, Ne.symm hij]
    · exact List.nodup_append.mpr ⟨h.once, List.nodup_singleton i, fun a ha b hb => by
        rw [List.mem_singleton.mp hb]
        rintro rfl
        exact hnot ha⟩
  · exact h

theorem RingOk.countGood : RingOk c.countGood n := by
  unfold CameraRec.countGood
  split
  · split
    · exact h.congr rfl rfl
    · exact h.congr rfl rfl
  · exact h

theorem RingOk.freeUnheld (i : Fin 6) : RingOk (c.freeUnheld i) n := by
  unfold CameraRec.freeUnheld
  split
  · next hi => exact h.unlist (slot_setSlot c i · _) rfl rfl (by rw [← h.readers i, hi.2]) (by simp) (by simp)
  · exact h

theorem RingOk.disable : RingOk c.disable n := by
  have hfree : RingOk { c.freeFilling with enabled := false, state := .off, frameOpen := false, marks := [] } n :=
    h.freeFilling.congr rfl rfl
  unfold CameraRec.disable
  dsimp only
  generalize ({ c.freeFilling with enabled := false, state := .off, frameOpen := false, marks := [] } : CameraRec) = e
    at hfree
  induction ringIndices generalizing e with
  | nil => exact hfree
  | cons i l ih => exact ih _ (hfree.freeUnheld i)

/-- Every write of a camera's record keeps its ring in order. -/
theorem RingOk.write (hd : CameraWrite c d) : RingOk d n := by
  cases hd with
  | start now => exact h.start now
  | finish =>
    have hclosed : RingOk { c with frameOpen := false } n := h.congr rfl rfl
    exact hclosed.store.countGood
  | abort =>
    have hclosed : RingOk { c with frameOpen := false, goodRun := 0, aborts := countUp c.aborts } n := h.congr rfl rfl
    exact hclosed.freeFilling
  | expire =>
    unfold CameraRec.expire
    dsimp only
    split
    · exact h.freeFilling.congr rfl rfl
    · exact h.congr rfl rfl
  | enable => exact h.congr rfl rfl
  | disable => exact h.disable
  | clearDrops => exact h.congr rfl rfl
  | clearAborts => exact h.congr rfl rfl

end RingOk

/-! ### The visits of the monitors (R133, R134) -/

/-- A count over a list without duplicates, after a change of the test at one of its members. -/
theorem countP_change {α : Type} {l : List α} {f g : α → Bool} {a : α} (hl : l.Nodup) (ha : a ∈ l)
    (hfg : ∀ b, b ≠ a → g b = f b) : l.countP g + (f a).toNat = l.countP f + (g a).toNat := by
  induction l with
  | nil => cases ha
  | cons b l ih =>
    obtain ⟨hb, hl⟩ := List.nodup_cons.mp hl
    by_cases hba : b = a
    · subst hba
      have hsame : l.countP g = l.countP f := List.countP_congr fun x hx => by
        rw [hfg x (fun hxb => hb (hxb ▸ hx))]
      rw [List.countP_cons, List.countP_cons, hsame]
      cases f b <;> cases g b <;> rfl
    · obtain hab | ha := List.mem_cons.mp ha
      · exact absurd hab.symm hba
      · have hrest := ih hl ha
        rw [List.countP_cons, List.countP_cons, hfg b hba]
        omega

@[simp] theorem monitor_setMonitor (p : Picture) (m j : Fin 6) (r : Monitor) :
    (p.setMonitor m r).monitor j = if m = j then r else p.monitor j := by
  simp [Picture.monitor, Picture.setMonitor, tget_tput]

@[simp] theorem cam_setMonitor (p : Picture) (m : Fin 6) (r : Monitor) (k : Camera) :
    (p.setMonitor m r).cam k = p.cam k := by
  cases k <;> rfl

@[simp] theorem cam_setCam (p : Picture) (k j : Camera) (c : CameraRec) :
    (p.setCam k c).cam j = if k = j then c else p.cam j := by
  cases k <;> cases j <;> rfl

@[simp] theorem monitor_setCam (p : Picture) (k : Camera) (c : CameraRec) (m : Fin 6) :
    (p.setCam k c).monitor m = p.monitor m := by
  cases k <;> rfl

/-- The holders of a slot after one monitor's record is replaced. -/
theorem holders_setMonitor (p : Picture) (c : CameraRec) (k j : Camera) (m i : Fin 6) (r : Monitor) :
    holders ((p.setCam k c).setMonitor m r) j i + (decide ((p.monitor m).held = some ⟨j, i⟩)).toNat =
      holders p j i + (decide (r.held = some ⟨j, i⟩)).toNat := by
  have hchange := countP_change (l := allMonitors) (a := m)
    (f := fun x => decide ((p.monitor x).held = some ⟨j, i⟩))
    (g := fun x => decide ((((p.setCam k c).setMonitor m r).monitor x).held = some ⟨j, i⟩))
    (by decide) (mem_allMonitors m) (fun b hb => by simp [Ne.symm hb])
  simpa [holders] using hchange

/-- The rings of both cameras are in order. -/
def RingsOk (p : Picture) : Prop := ∀ k, RingOk (p.cam k) (holders p k)

/-- A READY slot's reader count follows the number of its holders. -/
theorem RingOk.recount {c : CameraRec} {n n' : Fin 6 → Nat} {i : Fin 6} {r : Nat} (h : RingOk c n)
    (hother : ∀ j, i ≠ j → n' j = n j) (hr : r = n' i) (hready : (c.slot i).state = .ready) :
    RingOk (c.setSlot i { c.slot i with readers := r }) n' := by
  have hstate : ∀ j, ((c.setSlot i { c.slot i with readers := r }).slot j).state = (c.slot j).state := by
    intro j
    rw [slot_setSlot]
    split
    · next hij => rw [← hij]
    · rfl
  refine ⟨fun j => ?_, fun j hj => ?_, fun j => ?_, h.once, fun j l hj hl => ?_⟩
  · rw [slot_setSlot]
    split
    · next hij => rw [← hij, hr]
    · next hij => rw [h.readers, hother j hij]
  · rw [hstate]
    by_cases hij : i = j
    · rwa [← hij]
    · exact h.held j (hother j hij ▸ hj)
  · rw [hstate]
    exact h.listed j
  · rw [hstate] at hj hl
    exact h.oneFilling j l hj hl

/-- One monitor's held slot changes, and the record of that slot's camera with it. -/
theorem RingsOk.setHeld {p : Picture} {m : Fin 6} {id : SlotId} {c : CameraRec} {r : Monitor} (h : RingsOk p)
    (hc : RingOk c (holders ((p.setCam id.camera c).setMonitor m r) id.camera))
    (hbefore : ∀ k i, id.camera ≠ k → (p.monitor m).held ≠ some ⟨k, i⟩)
    (hafter : ∀ k i, id.camera ≠ k → r.held ≠ some ⟨k, i⟩) : RingsOk ((p.setCam id.camera c).setMonitor m r) := by
  intro k
  rw [cam_setMonitor, cam_setCam]
  split
  · next hk => exact hk ▸ hc
  · next hk =>
    have hsame : holders ((p.setCam id.camera c).setMonitor m r) k = holders p k := by
      funext i
      simpa [hbefore k i hk, hafter k i hk] using holders_setMonitor p c id.camera k m i r
    rw [hsame]
    exact h k

theorem RingsOk.releaseSlot (m : Fin 6) {p : Picture} (h : RingsOk p) : RingsOk (p.releaseSlot m) := by
  unfold Picture.releaseSlot
  split
  · exact h
  · next id hid =>
    obtain ⟨k, i⟩ := id
    have hheld : holders p k i ≠ 0 := holders_ne_zero.mpr ⟨m, hid⟩
    have hcount : ∀ c j, holders ((p.setCam k c).setMonitor m { p.monitor m with held := none }) k j =
        if i = j then holders p k j - 1 else holders p k j := by
      intro c j
      have hchange := holders_setMonitor p c k k m j { p.monitor m with held := none }
      generalize holders ((p.setCam k c).setMonitor m { p.monitor m with held := none }) k j = x at hchange ⊢
      split
      · next hij => simp [hid, hij] at hchange; omega
      · next hij => simpa [hid, hij] using hchange
    have hring : ∀ c, RingOk ((p.cam k).setSlot i { (p.cam k).slot i with readers := ((p.cam k).slot i).readers - 1 })
        (holders ((p.setCam k c).setMonitor m { p.monitor m with held := none }) k) := by
      intro c
      refine (h k).recount (fun j hj => by rw [hcount, if_neg hj]) ?_ ((h k).held i hheld)
      rw [hcount, if_pos rfl, (h k).readers]
    refine h.setHeld (id := ⟨k, i⟩) ?_ (fun j l hk => ?_) (fun _ _ _ => by simp)
    · dsimp only
      split
      · exact hring _
      · exact (hring _).freeUnheld _
    · rw [hid]
      exact fun he => hk (congrArg SlotId.camera (Option.some.inj he))

/-- A monitor that has released its slot holds none. -/
theorem releaseSlot_held (p : Picture) (m : Fin 6) : ((p.releaseSlot m).monitor m).held = none := by
  unfold Picture.releaseSlot
  split
  · next hn => exact hn
  · simp

theorem RingsOk.holdSlot {m : Fin 6} {k : Camera} {i : Fin 6} {p : Picture} (h : RingsOk p)
    (hm : (p.monitor m).held = none) (hready : ((p.cam k).slot i).state = .ready) : RingsOk (p.holdSlot m ⟨k, i⟩) := by
  have hcount : ∀ c j, holders ((p.setCam k c).setMonitor m { p.monitor m with held := some ⟨k, i⟩ }) k j =
      if i = j then holders p k j + 1 else holders p k j := by
    intro c j
    have hchange := holders_setMonitor p c k k m j { p.monitor m with held := some ⟨k, i⟩ }
    split
    · next hij => simpa [hm, hij] using hchange
    · next hij => simpa [hm, hij] using hchange
  refine h.setHeld (id := ⟨k, i⟩) ((h k).recount (fun j hj => by rw [hcount, if_neg hj]) ?_ hready)
    (fun _ _ _ => by simp [hm]) fun j l hk he => hk (congrArg SlotId.camera (Option.some.inj he))
  rw [hcount, if_pos rfl, (h k).readers]

/-- The release of a slot leaves every other slot as it is. -/
theorem releaseSlot_slot {p : Picture} {m : Fin 6} {id : SlotId} (hne : (p.monitor m).held ≠ some id) :
    ((p.releaseSlot m).cam id.camera).slot id.index = (p.cam id.camera).slot id.index := by
  unfold Picture.releaseSlot
  split
  · rfl
  · next x hx =>
    rw [cam_setMonitor, cam_setCam]
    split
    · next hk =>
      have hi : x.index ≠ id.index := fun hi => hne (by rw [hx]; cases x; cases id; simp_all)
      have hset : ∀ f, ((p.cam x.camera).setSlot x.index f).slot id.index = (p.cam id.camera).slot id.index := by
        intro f
        rw [slot_setSlot, if_neg hi, hk]
      split
      · exact hset _
      · unfold CameraRec.freeUnheld
        split
        · exact (slot_setSlot ..).trans ((if_neg hi).trans (hset _))
        · exact hset _
    · rfl

theorem RingsOk.visitCamera (m : Fin 6) (k : Camera) {p : Picture} (h : RingsOk p) : RingsOk (p.visitCamera m k) := by
  unfold Picture.visitCamera
  split
  · exact h.releaseSlot m
  · exact h
  · split
    · exact h
    · next i hi =>
      dsimp only
      split
      · exact h
      · next hne =>
        refine (h.releaseSlot m).holdSlot (releaseSlot_held p m) ?_
        rw [releaseSlot_slot (id := ⟨k, i⟩) hne]
        exact ((h k).listed i).1 (List.mem_of_getLast? hi)

theorem RingsOk.visit (m : Fin 6) {p : Picture} (h : RingsOk p) : RingsOk (p.visit m) := by
  unfold Picture.visit
  split
  · exact h
  · split
    · exact h.releaseSlot m
    · split
      · split
        · exact h.visitCamera m _
        · exact (h.releaseSlot m).visitCamera m _
      · exact h.visitCamera m _

theorem RingsOk.visitAll {p : Picture} (h : RingsOk p) : RingsOk p.visitAll := by
  unfold Picture.visitAll
  induction allMonitors generalizing p with
  | nil => exact h
  | cons m l ih => exact ih (h.visit m)

/-- A camera's record is replaced, the monitors left. -/
theorem RingsOk.setCam {p : Picture} {k : Camera} {c : CameraRec} (h : RingsOk p) (hc : CameraWrite (p.cam k) c) :
    RingsOk (p.setCam k c) := by
  have hsame : holders (p.setCam k c) = holders p := by funext j i; simp [holders]
  intro j
  rw [cam_setCam, hsame]
  split
  · next hj => exact hj ▸ (h k).write hc
  · exact h j

theorem RingsOk.congr {p q : Picture} (h : RingsOk p) (hs : SameRings p q) : RingsOk q := by
  have hsame : holders q = holders p := by funext j i; simp [holders, hs.held]
  intro k
  rw [hsame]
  exact (h k).congr (hs.ring k) (hs.ready k)

/-! ### The steps -/

/-- What `PictureInv` says is of the pictures alone. -/
def ringsOkState (s : State) : Prop := RingsOk s.picture

theorem ringsOkState.untimed : Untimed ringsOkState where
  notify _ _ hs := hs
  time _ _ hs := hs
  pointer _ _ hs := hs
  overlay _ _ hs := hs
  resume _ _ hs := hs
  clicks _ _ _ _ hs := hs
  rigs _ _ _ hs := hs
  picture _ _ hx hs := RingsOk.congr hs hx
  stops _ _ _ hs := hs
  anyTempo _ _ hs := hs
  anyBeats _ _ hs := hs
  noHoldOff _ hs := hs
  anyStops _ _ hs := hs
  session _ _ hs := hs

theorem ringsOkState.visits {s : State} (hs : ringsOkState s) :
    ringsOkState { s with picture := s.picture.visitAll } := by
  have hv := RingsOk.visitAll hs
  unfold ringsOkState
  generalize s.picture.visitAll = p at hv ⊢
  exact hv

theorem ringsOkState.keptByTables : KeptByTables ringsOkState where
  toUntimed := ringsOkState.untimed
  anyRigs _ _ _ hs := hs
  desk _ _ _ _ hs := hs
  settings _ _ hs := hs
  cues _ _ _ hs := hs
  memory _ _ _ _ hs := hs
  directory _ _ _ _ hs := hs
  camera _ _ _ hc hs := RingsOk.setCam hs hc
  visits _ hs := hs.visits
  unbindSlot k _ hs := ringsOkState.untimed.toSteady.of_anyUnbindSlot (fun _ _ hs => hs) k hs
  unbindPort p _ hs := ringsOkState.untimed.toSteady.of_anyUnbindPort (fun _ _ hs => hs) p hs
  loseSlot k _ hs := ringsOkState.untimed.toSteady.of_anyLoseSlot (fun _ _ hs => hs) k hs
  bindRecords p k _ _ _ hs := ringsOkState.untimed.toSteady.of_anyBindRecords (fun _ _ hs => hs) p k hs

/-! ### Power on -/

theorem CueInv.reset (q : List Instr) : CueInv { State.reset with pending := q } :=
  ⟨trivial, Nat.zero_le _, Nat.zero_le _⟩

theorem ClipInv.reset (q : List Instr) : ClipInv { State.reset with pending := q } := by
  have hnone : ∀ n : Fin 16, tget State.reset.clicks.directory n = none := by decide
  refine ClipInv.congr (s := State.reset) ⟨rfl, fun n c hc => ?_, fun m n c d _ hc => ?_⟩ rfl rfl
  · rw [hnone] at hc
    cases hc
  · rw [hnone] at hc
    cases hc

theorem PictureInv.ringsOk {s : State} (hs : PictureInv s) : RingsOk s.picture := pictureInv_iff.mp hs

theorem PictureInv.reset : PictureInv State.reset := by
  have hfree : ∀ k i, ((State.reset.picture.cam k).slot i).state = .free ∧
      ((State.reset.picture.cam k).slot i).readers = 0 := by
    intro k
    cases k <;> decide
  have hnone : ∀ m : Fin 6, (State.reset.picture.monitor m).held = none := by decide
  have hempty : ∀ k, (State.reset.picture.cam k).ready = [] := by intro k; cases k <;> rfl
  refine ⟨fun k i => ?_, fun m id hm => ?_, fun k i => ?_, fun k => ?_, fun k i j hi => ?_⟩
  · simp [hfree, hnone]
  · rw [hnone] at hm
    cases hm
  · simp [hfree, hempty]
  · simp [hempty]
  · rw [(hfree k i).1] at hi
    cases hi

/-- Settles O58: each edit of a table, each frame event and each visit keeps its own table or ring in order. -/
theorem tablesStayOrdered : Obligations.TablesStayOrdered :=
  ⟨fun _ _ hcues hclips ht => ⟨CueInv.keptByTables.keptByStep.step (fun _ _ hs => hs.congr rfl) CueInv.reset hcues ht,
      ClipInv.keptByTables.keptByStep.step (fun _ _ hs => hs.congr rfl rfl) ClipInv.reset hclips ht⟩,
   fun _ _ hs ht => pictureInv_iff.mpr (ringsOkState.keptByTables.keptByStep.step (fun _ _ hs => hs)
      (fun _ => PictureInv.ringsOk (s := State.reset) PictureInv.reset) (pictureInv_iff.mp hs) ht)⟩

end Sys2Proof.Machine
end

section
/-!
PROOFS. The stop stack (R156, R166, TABLE 9-3): a take pushes a source above the stop level, the ends of a run empty the
stack, and every other write leaves it.
-/

namespace Sys2Proof.Machine
set_option Elab.async false

/-! ## The stack -/

/-- Levels fall strictly down to 0 just where they are sorted and none is 0. -/
theorem levelsFall_iff {l : List StopRecord} :
    levelsFall l ↔ (l.Pairwise fun r q => q.level < r.level) ∧ ∀ r ∈ l, 1 ≤ r.level := by
  induction l using levelsFall.induct with
  | case1 => simp [levelsFall]
  | case2 r => simp [levelsFall]
  | case3 r q l ih =>
    rw [levelsFall, ih, List.pairwise_cons (a := r)]
    constructor
    · rintro ⟨hrq, hpair, hpos⟩
      obtain ⟨hq, -⟩ := List.pairwise_cons.mp hpair
      refine ⟨⟨fun x hx => ?_, hpair⟩, fun x hx => ?_⟩
      · obtain rfl | hx := List.mem_cons.mp hx
        · exact hrq
        · exact (hq x hx).trans hrq
      · obtain rfl | hx := List.mem_cons.mp hx
        · have := hpos q List.mem_cons_self
          omega
        · exact hpos x hx
    · rintro ⟨⟨hr, hpair⟩, hpos⟩
      exact ⟨hr q List.mem_cons_self, hpair, fun x hx => hpos x (List.mem_cons_of_mem _ hx)⟩

/-- What `StopInv` and `StackFits` say of the stops alone. -/
structure StackOk (x : Stops) : Prop where
  size : x.stack.length ≤ 4
  falls : x.stack.Pairwise fun r q => q.level < r.level
  positive : ∀ r ∈ x.stack, 1 ≤ r.level
  distinct : (x.stack.map (·.source)).Nodup
  taken : ∀ r ∈ x.stack, r.level = x.level r.source
  holdOff : x.holdOff ≤ 32
  fits : x.stack = [] ↔ x.state.stacked = false

theorem stacked_iff (x : StopState) : x.stacked = false ↔ x ≠ .stopping ∧ x ≠ .stopped := by
  cases x <;> simp [StopState.stacked]

/-- The stop stack is in order, and empty in SETUP. -/
def StackInv (s : State) : Prop := StackOk s.stops ∧ (s.stops.stack ≠ [] → s.inShow = true)

theorem stackInv_iff {s : State} : StackInv s ↔ StopInv s ∧ StackFits s := by
  constructor
  · rintro ⟨⟨hsize, hfalls, hpositive, hdistinct, htaken, hholdOff, hfits⟩, hshow⟩
    exact ⟨⟨hsize, levelsFall_iff.mpr ⟨hfalls, hpositive⟩, hdistinct, htaken, hshow, hholdOff⟩,
      hfits.trans (stacked_iff _)⟩
  · rintro ⟨⟨hsize, hlevels, hdistinct, htaken, hshow, hholdOff⟩, hfits⟩
    obtain ⟨hfalls, hpositive⟩ := levelsFall_iff.mp hlevels
    exact ⟨⟨hsize, hfalls, hpositive, hdistinct, htaken, hholdOff, hfits.trans (stacked_iff _).symm⟩, hshow⟩

theorem StackOk.congr {x y : Stops} (h : StackOk x) (hs : SameStack x y) : StackOk y := by
  obtain ⟨hsize, hfalls, hpositive, hdistinct, htaken, hholdOff, hfits⟩ := h
  have hlevel : ∀ i, y.level i = x.level i := fun i => by rw [Stops.level, Stops.level, hs.levels]
  rw [← hs.stack] at hsize hfalls hpositive hdistinct htaken hfits
  simp only [← hlevel] at htaken
  exact ⟨hsize, hfalls, hpositive, hdistinct, htaken, hs.holdOff ▸ hholdOff, hfits.trans (by rw [hs.state])⟩

/-- The stops with an empty stack, in a state that has none. -/
theorem StackOk.empty {x : Stops} (hstack : x.stack = []) (hstate : x.state.stacked = false) (hholdOff : x.holdOff ≤ 32) :
    StackOk x := by
  refine ⟨?_, ?_, ?_, ?_, ?_, hholdOff, ?_⟩ <;> simp [hstack, hstate]

/-- Part of a stack that was in order, in a state that fits it. -/
theorem StackOk.sublist {x y : Stops} (h : StackOk x) (hlevels : y.levels = x.levels)
    (hstack : y.stack.Sublist x.stack) (hholdOff : y.holdOff ≤ 32) (hfits : y.stack = [] ↔ y.state.stacked = false) :
    StackOk y where
  size := hstack.length_le.trans h.size
  falls := h.falls.sublist hstack
  positive r hr := h.positive r (hstack.subset hr)
  distinct := (hstack.map _).nodup h.distinct
  taken r hr := by rw [h.taken r (hstack.subset hr), Stops.level, Stops.level, hlevels]
  holdOff := hholdOff
  fits := hfits

/-- Every record of the stack lies at or below the stop level (R156). -/
theorem StackOk.le_stopLevel {x : Stops} (h : StackOk x) : ∀ r ∈ x.stack, r.level ≤ x.stopLevel := by
  intro r hr
  have hfalls := h.falls
  cases hx : x.stack with
  | nil => rw [hx] at hr; cases hr
  | cons q l =>
    rw [hx] at hr hfalls
    rw [Stops.stopLevel, hx]
    obtain rfl | hr := List.mem_cons.mp hr
    · exact le_rfl
    · exact (List.rel_of_pairwise_cons hfalls hr).le

/-- A push puts a record on what is left of a stack of at most four (R160, R161). -/
theorem push_stack {x : Stops} (hsize : x.stack.length ≤ 4) (i : StopSource) :
    ∃ rest, (x.push i).stack = { source := i, level := x.level i, acked := false } :: rest ∧
      rest.Sublist x.stack ∧ rest.length ≤ 3 := by
  refine ⟨_, rfl, ?_⟩
  by_cases hfull : Config.stackCapacity ≤ x.stack.length
  · rw [if_pos hfull]
    exact ⟨List.dropLast_sublist _, by rw [List.length_dropLast]; omega⟩
  · rw [if_neg hfull]
    simp only [Config.stackCapacity] at hfull
    exact ⟨.refl _, by omega⟩

/-- The push of a source above the stop level keeps the stack in order (R156, R160, R161). -/
theorem StackOk.push {x y : Stops} {i : StopSource} (h : StackOk x) (hlevel : x.stopLevel < x.level i)
    (hlevels : y.levels = x.levels) (hstack : y.stack = (x.push i).stack) (hstate : y.state = .stopping)
    (hholdOff : y.holdOff = 0) : StackOk y := by
  obtain ⟨rest, hrest, hsub, hlength⟩ := push_stack h.size i
  have hy := hstack.trans hrest
  have hbelow : ∀ r ∈ rest, r.level < x.level i := fun r hr => (h.le_stopLevel r (hsub.subset hr)).trans_lt hlevel
  have hy_level : ∀ j, y.level j = x.level j := fun j => by rw [Stops.level, Stops.level, hlevels]
  refine ⟨?_, ?_, ?_, ?_, ?_, by omega, by simp [hy, hstate, StopState.stacked]⟩
  · rw [hy, List.length_cons]
    omega
  · rw [hy]
    exact .cons hbelow (h.falls.sublist hsub)
  · rw [hy]
    intro r hr
    obtain rfl | hr := List.mem_cons.mp hr
    · exact Nat.one_le_of_lt hlevel
    · exact h.positive r (hsub.subset hr)
  · rw [hy, List.map_cons, List.nodup_cons]
    refine ⟨fun hmem => ?_, (hsub.map _).nodup h.distinct⟩
    obtain ⟨r, hr, hsource⟩ := List.mem_map.mp hmem
    have hsource : r.source = i := hsource
    have hr_level := h.taken r (hsub.subset hr)
    have := hbelow r hr
    rw [hsource] at hr_level
    omega
  · rw [hy]
    intro r hr
    rw [hy_level]
    obtain rfl | hr := List.mem_cons.mp hr
    · rfl
    · exact h.taken r (hsub.subset hr)

/-! ## Which source a sampling takes -/

theorem better_eq (x : Stops) (best : Option StopSource) (i : StopSource) :
    better x best i = some i ∨ better x best i = best := by
  unfold better
  split
  · exact .inl rfl
  · split
    · exact .inl rfl
    · exact .inr rfl

/-- The source that a sampling takes is eligible (R159). -/
theorem chosen_eligible {c : Bool} {s : State} {i : StopSource} (hi : chosen c s = some i) : eligible c s i = true := by
  have hfold : ∀ (l : List StopSource) (best : Option StopSource), (∀ j ∈ l, eligible c s j = true) →
      (∀ j, best = some j → eligible c s j = true) → ∀ j, l.foldl (better s.stops) best = some j →
      eligible c s j = true := by
    intro l
    induction l with
    | nil => exact fun best _ hbest => hbest
    | cons j l ih =>
      intro best hl hbest
      refine ih _ (fun k hk => hl k (List.mem_cons_of_mem _ hk)) fun k hk => ?_
      rcases better_eq s.stops best j with hb | hb
      · rw [hb] at hk
        exact Option.some.inj hk ▸ hl j List.mem_cons_self
      · exact hbest k (hb ▸ hk)
  exact hfold _ none (fun j hj => (List.mem_filter.mp hj).2) (fun _ hj => by cases hj) i hi

theorem lt_level_of_chosen {c : Bool} {s : State} {i : StopSource} (hi : chosen c s = some i) :
    s.stops.stopLevel < s.stops.level i := by
  have := chosen_eligible hi
  simp only [eligible, Bool.and_eq_true, decide_eq_true_eq] at this
  exact this.1.1.2

/-! ## What the composite writes leave in the stops -/

@[simp] theorem lowerCommands_stops (s : State) :
    (lowerCommands s).stops.levels = s.stops.levels ∧ (lowerCommands s).stops.stack = s.stops.stack ∧
    (lowerCommands s).stops.state = s.stops.state ∧ (lowerCommands s).stops.holdOff = s.stops.holdOff ∧
    (lowerCommands s).stops.profiles = s.stops.profiles := by
  simp [lowerCommands]

theorem pushed_stops (i : StopSource) (s : State) :
    (pushed i s).stops.levels = s.stops.levels ∧ (pushed i s).stops.stack = (s.stops.push i).stack ∧
    (pushed i s).stops.state = .stopping ∧ (pushed i s).stops.holdOff = 0 := by
  unfold pushed
  dsimp only
  split <;> simp [Stops.push]

/-- A CUT with the hold-off count at 0 leaves the stops. -/
@[simp] theorem cutBeats_setHoldOff_stops (s : State) :
    (cutBeats (setHoldOff 0 s)).stops = { s.stops with holdOff := 0 } := by
  rw [cutBeats_stops]
  split <;> simp

@[simp] theorem clearCountIn_stops (s : State) : (clearCountIn s).stops = s.stops := rfl

theorem halt_stops (i : StopSource) (s : State) :
    (halt i s).stops.levels = s.stops.levels ∧ (halt i s).stops.stack = [] ∧ (halt i s).stops.state = .halted ∧
    (halt i s).stops.holdOff = 0 := by
  unfold halt
  dsimp only
  simp

theorem resetShow_stops (s : State) :
    (resetShow s).stops.stack = [] ∧ (resetShow s).stops.state = .awaitResume ∧ (resetShow s).stops.holdOff = 0 := by
  unfold resetShow
  dsimp only
  simp

theorem endShow_stops (s : State) :
    (endShow s).stops.stack = [] ∧ (endShow s).stops.state = .clear ∧ (endShow s).stops.holdOff = 0 := by
  simp [endShow, endStops]

theorem popped_sublist (x : Stops) (l : List StopRecord) : (popped x l).Sublist l := by
  induction l with
  | nil => exact .refl _
  | cons r l ih =>
    unfold popped
    split
    · exact ih.cons r
    · exact .refl _

@[simp] theorem issueRestores_stops (s : State) : (issueRestores s).stops = { s.stops with state := .restoring } := by
  unfold issueRestores
  rw [keep_foldl (fun t : State => t.stops) _ _ _ (by simp)]
  simp

/-- The end of a run moves the stop state to one that has no record on the stack (R176). -/
theorem endRun_stops (s : State) : ∃ x : StopState, x.stacked = false ∧ (endRun s).stops = { s.stops with state := x } := by
  unfold endRun
  split
  · exact ⟨.restoring, rfl, by simp⟩
  · split
    · exact ⟨.clear, rfl, by simp⟩
    · exact ⟨.awaitResume, rfl, by simp⟩

theorem afterPops_stops (s : State) (h : StackOk s.stops) : StackOk (afterPops s).stops := by
  have hsub := popped_sublist s.stops s.stops.stack
  unfold afterPops
  dsimp only
  split
  · next hempty =>
    have hempty : popped s.stops s.stops.stack = [] := by simpa using hempty
    obtain ⟨x, hx, hstops⟩ := endRun_stops (notify .stop { s with stops := { s.stops with
      stack := popped s.stops s.stops.stack, topTicked := false, topReported := false } })
    rw [hstops]
    exact .empty hempty hx h.holdOff
  · next hne =>
    have hne : popped s.stops s.stops.stack ≠ [] := by simpa using hne
    have hstack : s.stops.stack ≠ [] := fun he => hne (by rw [he]; rfl)
    exact h.sublist rfl hsub h.holdOff (iff_of_false hne (mt h.fits.mpr hstack))

@[simp] theorem endShow_session (s : State) : (endShow s).tables.session = .setup := by
  simp [endShow, setSession]

/-! ## The steps -/

theorem StackInv.congr {s t : State} (hs : StackInv s) (hstops : t.stops = s.stops)
    (hsession : t.tables.session = s.tables.session) : StackInv t := by
  obtain ⟨hok, hshow⟩ := hs
  unfold StackInv State.inShow
  rw [hstops, hsession]
  exact ⟨hok, hshow⟩

/-- The stops are written as their order allows, the session as it stands. -/
theorem StackInv.write {s t : State} (hs : StackInv s) (hok : StackOk t.stops) (htables : t.tables = s.tables)
    (hstack : t.stops.stack ≠ [] → s.stops.stack ≠ []) : StackInv t :=
  ⟨hok, fun hne => by
    have := hs.2 (hstack hne)
    rwa [State.inShow, htables]⟩

/-- An empty stack needs no session. -/
theorem StackInv.empty {s : State} (hok : StackOk s.stops) (hstack : s.stops.stack = []) : StackInv s :=
  ⟨hok, fun hne => absurd hstack hne⟩

theorem StackInv.beatFree : BeatFree StackInv where
  notify _ _ hs := hs.congr rfl rfl
  time _ _ hs := hs.congr rfl rfl
  pointer _ _ hs := hs.congr rfl rfl
  overlay _ _ hs := hs.congr rfl rfl
  resume _ _ hs := hs.congr rfl rfl
  clicks _ _ _ _ hs := hs.congr rfl rfl
  rigs _ _ _ hs := hs.congr rfl rfl
  picture _ _ _ hs := hs.congr rfl rfl
  stops _ _ hx hs := hs.write (hs.1.congr hx) rfl fun hne => hx.stack ▸ hne
  anyTempo _ _ hs := hs.congr rfl rfl
  anyBeats _ _ hs := hs.congr rfl rfl
  noHoldOff _ hs := hs.write (hs.1.sublist rfl (.refl _) (Nat.zero_le _) hs.1.fits) rfl id

theorem StackInv.keptBySampling : KeptBySampling StackInv where
  toSteady := StackInv.beatFree.toSteady
  holdOff n s hn hs := by
    have := hs.1.holdOff
    exact hs.write (hs.1.sublist rfl (.refl _) (by dsimp only; omega) hs.1.fits) rfl id
  cutBeats _ hs := StackInv.beatFree.of_cutBeats hs
  finishClick _ hs := StackInv.beatFree.of_finishClick hs
  push c i s hshow _ hi hs := by
    obtain ⟨hlevels, hstack, hstate, hholdOff⟩ := pushed_stops i s
    refine ⟨hs.1.push (lt_level_of_chosen hi) hlevels hstack hstate hholdOff, fun _ => ?_⟩
    have htables : (pushed i s).tables = s.tables := by
      unfold pushed
      dsimp only
      split <;> simp
    rwa [State.inShow, htables]
  halt i s hs := by
    obtain ⟨-, hstack, hstate, hholdOff⟩ := halt_stops i s
    exact .empty (.empty hstack (by rw [hstate]; rfl) (by omega)) hstack

theorem StackInv.keptByStep : KeptByStep StackInv where
  toKeptByCues := StackInv.beatFree.keptByCues StackInv.keptBySampling
  anyRigs _ _ _ hs := hs.congr rfl rfl
  desk _ _ _ _ hs := hs.congr rfl rfl
  afterPops s hs := by
    have hok := afterPops_stops s hs.1
    refine ⟨hok, fun hne => ?_⟩
    have htables : (afterPops s).tables = s.tables := by
      unfold afterPops
      dsimp only
      split <;> simp
    have hold : s.stops.stack ≠ [] := fun he => hne (by
      unfold afterPops
      obtain ⟨x, -, hstops⟩ := endRun_stops (notify .stop { s with stops := { s.stops with
        stack := popped s.stops s.stops.stack, topTicked := false, topReported := false } })
      simp [he, popped] at hstops ⊢
      rw [hstops])
    have := hs.2 hold
    rwa [State.inShow, htables]
  resetShow s hs := by
    obtain ⟨hstack, hstate, hholdOff⟩ := resetShow_stops s
    exact .empty (.empty hstack (by rw [hstate]; rfl) (by omega)) hstack
  endShow s _ hs := by
    obtain ⟨hstack, hstate, hholdOff⟩ := endShow_stops s
    exact .empty (.empty hstack (by rw [hstate]; rfl) (by omega)) hstack
  acknowledge r rest s hstack hs := by
    obtain ⟨⟨hsize, hfalls, hpositive, hdistinct, htaken, hholdOff, hfits⟩, hshow⟩ := hs
    rw [hstack] at hsize hfalls hpositive hdistinct htaken hfits hshow
    refine ⟨⟨hsize, ?_, ?_, hdistinct, ?_, hholdOff, ?_⟩, ?_⟩
    · exact .cons (List.pairwise_cons.mp hfalls).1 (List.pairwise_cons.mp hfalls).2
    · simpa using hpositive
    · simpa [Stops.level] using htaken
    · simpa using hfits
    · exact fun _ => hshow (by simp)
  beginShow s _ hs := ⟨hs.1, fun _ => rfl⟩
  levels x s hshow hs := by
    have hempty : s.stops.stack = [] := by
      by_contra hne
      rw [hs.2 hne] at hshow
      cases hshow
    exact .empty (.empty hempty (hs.1.fits.mp hempty) hs.1.holdOff) hempty
  settings _ _ hs := hs.congr rfl rfl
  cues _ _ _ _ hs := hs.congr rfl rfl
  memory _ _ _ _ hs := hs.congr rfl rfl
  directory _ _ _ _ hs := hs.congr rfl rfl
  camera _ _ _ _ hs := hs.congr rfl rfl
  visits _ hs := hs.congr rfl rfl
  unbindSlot k _ hs := StackInv.beatFree.toSteady.of_anyUnbindSlot (fun _ _ hs => hs.congr rfl rfl) k hs
  unbindPort p _ hs := StackInv.beatFree.toSteady.of_anyUnbindPort (fun _ _ hs => hs.congr rfl rfl) p hs
  loseSlot k _ hs := StackInv.beatFree.toSteady.of_anyLoseSlot (fun _ _ hs => hs.congr rfl rfl) k hs
  bindRecords p k _ _ _ hs := StackInv.beatFree.toSteady.of_anyBindRecords (fun _ _ hs => hs.congr rfl rfl) p k hs

theorem StackInv.reset (q : List Instr) : StackInv { State.reset with pending := q } :=
  .empty (.empty rfl rfl (Nat.zero_le _)) rfl

/-- Settles O57: a take pushes a source above the stop level, and only the levels' SETUP rows write a level. -/
theorem stopStackStaysOrdered : Obligations.StopStackStaysOrdered := fun _ _ hstop hfits ht =>
  stackInv_iff.mp (StackInv.keptByStep.step (fun _ _ hs => hs.congr rfl rfl) StackInv.reset (stackInv_iff.mpr ⟨hstop, hfits⟩) ht)

end Sys2Proof.Machine
end

section
/-!
PROOFS. Tempos, beats, bars and vamps (R9, R16, R18, R20 to R22, R27, R30 to R38): a commit fixes a legal beat at the next
onset, in a bar that lies within the innermost vamp, and every other write leaves the run in order.
-/

namespace Sys2Proof.Machine
set_option Elab.async false

/-! ## Tempos (R9 to R18) -/

/-- What `TempoInv` says of the tempo state alone. -/
structure TempoStateOk (t : TempoState) : Prop where
  current : TempoOk t.current
  live : TempoOk t.live
  ramp : ∀ r, t.ramp = some r → r.Ok
  follows : t.mode = .live → t.current = t.live

theorem tempoOk_clampTempo (v : Nat) : TempoOk (clampTempo v) := by
  simp only [TempoOk, clampTempo, Config.tempoMin, Config.tempoMax]
  omega

theorem cueTempo_iff {v : Nat} : cueTempo v = true ↔ TempoOk v := by
  simp [cueTempo, TempoOk]

section TempoStateOk

variable {t : TempoState} (h : TempoStateOk t)
include h

theorem TempoStateOk.toLive : TempoStateOk t.toLive := by
  unfold TempoState.toLive
  split
  · exact h
  · exact ⟨h.current, h.current, fun _ hr => (by cases hr), fun _ => rfl⟩

omit h in
@[simp] theorem toLive_mode (t : TempoState) : t.toLive.mode = .live := by
  unfold TempoState.toLive
  split
  · assumption
  · rfl

theorem TempoStateOk.setLive (v : Nat) : TempoStateOk (t.setLive v) :=
  ⟨tempoOk_clampTempo v, tempoOk_clampTempo v, h.ramp, fun _ => rfl⟩

theorem TempoStateOk.setTaps (taps : List Nat) : TempoStateOk { t with taps := taps } :=
  ⟨h.current, h.live, h.ramp, h.follows⟩

theorem TempoStateOk.acceptTap (taps : List Nat) : TempoStateOk (t.acceptTap taps) := by
  have ht := h.toLive.setTaps taps
  unfold TempoState.acceptTap
  dsimp only
  split
  · exact ht.setLive _
  · exact ht

theorem TempoStateOk.apply {spec : TempoSpec} (hv : spec.valid = true) : TempoStateOk (t.apply spec) := by
  cases spec with
  | keep => exact h
  | fixed v => exact ⟨cueTempo_iff.mp hv, h.live, fun _ hr => (by cases hr), fun hm => (by cases hm)⟩
  | live => exact ⟨h.live, h.live, fun _ hr => (by cases hr), fun _ => rfl⟩
  | ramp v n =>
    simp only [TempoSpec.valid, Bool.and_eq_true, decide_eq_true_eq] at hv
    obtain ⟨⟨hv, hn⟩, -⟩ := hv
    refine ⟨h.current, h.live, fun r hr => ?_, fun hm => (by cases hm)⟩
    obtain rfl := Option.some.inj hr
    exact ⟨h.current, cueTempo_iff.mp hv, hn⟩

end TempoStateOk

/-- A quotient toward zero of part of a step lies between 0 and the step. -/
theorem tdiv_part (d i n : Nat) (hi : i ≤ n) :
    0 ≤ ((d : Int) * i).tdiv n ∧ ((d : Int) * i).tdiv n ≤ d := by
  have heq : ((d : Int) * i).tdiv n = ((d * i / n : Nat) : Int) := by
    rw [← Int.natCast_mul, ← Int.ofNat_tdiv]
  have hle : d * i / n ≤ d := Nat.div_le_of_le_mul (by rw [Nat.mul_comm n d]; exact Nat.mul_le_mul_left d hi)
  rw [heq]
  exact ⟨Int.natCast_nonneg _, Int.ofNat_le.mpr hle⟩

/-- The tempo of a ramp beat lies between the tempos of the ramp (R18). -/
theorem Ramp.Ok.tempoOk {r : Ramp} (h : r.Ok) : TempoOk (rampTempo r) := by
  obtain ⟨⟨h0min, h0max⟩, ⟨h1min, h1max⟩, hdone⟩ := h
  simp only [TempoOk, Config.tempoMin, Config.tempoMax] at *
  unfold rampTempo
  by_cases hup : r.t0 ≤ r.t1
  · obtain ⟨hlow, hhigh⟩ := tdiv_part (r.t1 - r.t0) (r.done + 1) r.length hdone
    have hd : ((r.t1 - r.t0 : Nat) : Int) = r.t1 - r.t0 := by omega
    rw [hd] at hlow hhigh
    push_cast at hlow hhigh
    omega
  · obtain ⟨hlow, hhigh⟩ := tdiv_part (r.t0 - r.t1) (r.done + 1) r.length hdone
    have hd : ((r.t1 : Int) - r.t0) * (r.done + 1) = -(((r.t0 - r.t1 : Nat) : Int) * ((r.done + 1 : Nat) : Int)) := by
      rw [Int.ofNat_sub (by omega)]
      push_cast
      ring
    rw [hd, Int.neg_tdiv]
    omega

theorem TempoStateOk.commit {t : TempoState} (h : TempoStateOk t) : TempoOk t.commit.1 ∧ TempoStateOk t.commit.2 := by
  unfold TempoState.commit
  split
  · next r hm hr =>
    obtain ⟨h0, h1, hdone⟩ := h.ramp r hr
    have hv := Ramp.Ok.tempoOk ⟨h0, h1, hdone⟩
    dsimp only
    split
    · exact ⟨h1, h1, h.live, fun _ hr => (by cases hr), fun hm => (by cases hm)⟩
    · refine ⟨hv, hv, h.live, fun q hq => ?_, fun hl => (by rw [hm] at hl; cases hl)⟩
      obtain rfl := Option.some.inj hq
      exact ⟨h0, h1, by dsimp only; omega⟩
  · exact ⟨h.live, h⟩
  · exact ⟨h.current, h⟩

/-! ## Cue lists and chases (R59, R71, R72) -/

/-- What the invariants say of the cue list. -/
def CuesOk (l : List Cue) : Prop :=
  ∀ c ∈ l, c.tempo.valid = true ∧ optWithin 1 9999 c.scoreBar = true ∧ ∀ v, c.vamp = some v → v.valid = true

theorem optWithin_iff {low high : Nat} {o : Option Nat} :
    optWithin low high o = true ↔ ∀ n, o = some n → low ≤ n ∧ n ≤ high := by
  cases o <;> simp [optWithin]

/-- The fields of a valid cue that the beats read (TABLE 4-1). -/
theorem valid_cue {c : Cue} (h : c.valid = true) :
    c.tempo.valid = true ∧ optWithin 1 9999 c.scoreBar = true ∧ ∀ v, c.vamp = some v → v.valid = true := by
  simp only [Cue.valid, Bool.and_eq_true, Config.barMax] at h
  obtain ⟨⟨⟨⟨⟨⟨⟨⟨⟨-, hbar⟩, htempo⟩, -⟩, -⟩, hvamp⟩, -⟩, -⟩, -⟩, -⟩ := h
  refine ⟨htempo, hbar, fun v hv => ?_⟩
  rwa [hv] at hvamp

theorem upTo_mem {t : Tables} {a : ChaseAt} {c : Cue} (hc : c ∈ t.upTo a) : c ∈ t.cues := by
  cases a with
  | first => cases hc
  | cue n => exact (List.mem_filter.mp hc).1

/-- A chase that finds a cue's value has it from a cue of the list; else it is the default. -/
theorem chase_cases {α : Type} {t : Tables} {a : ChaseAt} (f : Cue → Option α) (d : α) :
    (∃ c ∈ t.cues, f c = some ((((t.upTo a).filterMap f).getLast?).getD d)) ∨
      (((t.upTo a).filterMap f).getLast?).getD d = d := by
  cases hl : ((t.upTo a).filterMap f).getLast? with
  | none => exact .inr rfl
  | some x =>
    obtain ⟨c, hc, hx⟩ := List.mem_filterMap.mp (List.mem_of_getLast? hl)
    exact .inl ⟨c, upTo_mem hc, hx⟩

theorem CuesOk.tempoChase {t : Tables} (h : CuesOk t.cues) (a : ChaseAt) : (t.tempoChase a).valid = true := by
  rcases chase_cases (t := t) (a := a) (fun c => chasedTempo c.tempo) (.fixed Config.tempoDefault) with ⟨c, hc, hx⟩ | hx
  · have hv := (h c hc).1
    show TempoSpec.valid ((((t.upTo a).filterMap fun c => chasedTempo c.tempo).getLast?).getD _) = true
    revert hx
    generalize (((t.upTo a).filterMap fun c => chasedTempo c.tempo).getLast?).getD _ = x
    intro hx
    cases hspec : c.tempo with
    | keep => rw [hspec] at hx; cases hx
    | fixed v =>
      rw [hspec] at hx hv
      obtain rfl := Option.some.inj hx
      exact hv
    | live =>
      rw [hspec] at hx
      obtain rfl := Option.some.inj hx
      rfl
    | ramp v n =>
      rw [hspec] at hx hv
      obtain rfl := Option.some.inj hx
      simp only [TempoSpec.valid, Bool.and_eq_true] at hv
      exact hv.1.1
  · show TempoSpec.valid ((((t.upTo a).filterMap fun c => chasedTempo c.tempo).getLast?).getD _) = true
    rw [hx]
    rfl

theorem CuesOk.barChase {t : Tables} (h : CuesOk t.cues) (a : ChaseAt) : 1 ≤ t.barChase a ∧ t.barChase a ≤ 9999 := by
  rcases chase_cases (t := t) (a := a) (fun c => c.scoreBar) 1 with ⟨c, hc, hx⟩ | hx
  · exact optWithin_iff.mp (h c hc).2.1 _ hx
  · show 1 ≤ (((t.upTo a).filterMap (·.scoreBar)).getLast?).getD 1 ∧ _ ≤ 9999
    unfold Tables.barChase
    rw [hx]
    omega

theorem CuesOk.startBar {t : Tables} (h : CuesOk t.cues) {b : Nat} (hb : StartBar t b) : 1 ≤ b ∧ b ≤ 9999 := by
  cases hb with
  | one => omega
  | chase a offset =>
    have := h.barChase a
    simp only [Config.barMax]
    omega

theorem CuesOk.write {t : Tables} {x : List Cue} (h : CuesOk t.cues) (hx : CueWrite t x) : CuesOk x := by
  cases hx with
  | insert c hv hn hs hp =>
    intro d hd
    obtain rfl | hd := mem_insertCue.mp hd
    · exact valid_cue (c := c) hv
    · exact h d hd
  | replace c old hv ho hp =>
    intro d hd
    obtain ⟨e, he, rfl⟩ := List.mem_map.mp hd
    split
    · exact valid_cue (c := c) hv
    · exact h e he
  | delete n => exact fun d hd => h d (List.mem_filter.mp hd).1
  | clear => exact fun d hd => by cases hd

/-! ## The run of beats -/

/-- What the invariants say of every beat record. -/
structure BeatOk (p : Beat) : Prop where
  tempo : TempoOk p.tempo
  first : 1 ≤ p.beat
  downbeat : p.downbeat = (p.beat == 1)

/-- What the invariants say of the beat state alone, but that a running click has a latest beat. -/
structure RunOk (b : BeatState) : Prop where
  idle : b.click = .idle → b.current = none ∧ b.next = none ∧ b.nextOnset = none ∧ b.vamps = []
  ends : b.nextOnset = none → b.click = .idle ∨ b.click = .finishing
  size : b.vamps.length ≤ 4
  pushesSize : b.pushes.length ≤ 4
  currentBeat : ∀ p, b.current = some p → BeatOk p
  nextBeat : ∀ p, b.next = some p → BeatOk p
  onset : ∀ p o, b.latest = some p → b.nextOnset = some o → o = p.onset + p.period
  follows : ∀ c n, b.current = some c → b.next = some n → n.onset = c.onset + c.period
  within : ∀ p v outer, b.latest = some p → p.countIn = false → b.vamps = v :: outer →
    (v.start : Int) ≤ p.bar ∧ p.bar ≤ (v.last : Int)
  fresh : b.firstBarDue = true → b.vamps = []
  countIn : ∀ p, b.latest = some p → p.countIn = true → b.firstBarDue = true
  bar : ∀ p, b.latest = some p → p.countIn = false → 1 ≤ p.bar ∧ p.bar ≤ 9999
  nested : b.vamps.Pairwise fun inner outer => outer.start ≤ inner.start
  spans : ∀ v ∈ b.vamps, 1 ≤ v.start ∧ v.start ≤ v.last ∧ v.last ≤ 9999
  pushes : ∀ v ∈ b.pushes, v.valid = true
  pendingBar : ∀ n, b.pendingBar = some n → 1 ≤ n ∧ n ≤ 9999
  startBar : 1 ≤ b.startBar ∧ b.startBar ≤ 9999

/-- The invariants of the tempo, the beats and the bars, by the parts of the state that they speak of. -/
structure Legal (s : State) : Prop where
  tempo : TempoStateOk s.tempo
  cues : CuesOk s.tables.cues
  run : RunOk s.beats
  running : s.beats.click ≠ .idle → s.beats.latest ≠ none

theorem legal_iff {s : State} : Legal s ↔ TempoInv s ∧ BeatInv s ∧ BarInv s := by
  constructor
  · rintro ⟨ht, hc, hr, hrun⟩
    exact ⟨⟨ht.current, ht.live, ht.ramp, ht.follows, fun b hb => (hr.currentBeat b hb).tempo,
        fun b hb => (hr.nextBeat b hb).tempo, fun c hm => (hc c hm).1⟩,
      ⟨hr.idle, hr.ends, hr.size, hr.pushesSize, fun b hb => ⟨(hr.currentBeat b hb).first, (hr.currentBeat b hb).downbeat⟩,
        fun b hb => ⟨(hr.nextBeat b hb).first, (hr.nextBeat b hb).downbeat⟩⟩,
      ⟨hr.onset, hr.follows, hrun, hr.within, hr.fresh, hr.countIn, hr.bar, hr.nested, hr.spans, hr.pushes,
        hr.pendingBar, hr.startBar, fun c hm => (hc c hm).2⟩⟩
  · rintro ⟨ht, hb, hr⟩
    exact ⟨⟨ht.current, ht.live, ht.ramp, ht.follows⟩, fun c hm => ⟨ht.cues c hm, hr.cues c hm⟩,
      ⟨hb.idle, hb.onset, hb.vamps, hb.pushes,
        fun p hp => ⟨ht.currentBeat p hp, (hb.currentBeat p hp).1, (hb.currentBeat p hp).2⟩,
        fun p hp => ⟨ht.nextBeat p hp, (hb.nextBeat p hp).1, (hb.nextBeat p hp).2⟩,
        hr.onset, hr.follows, hr.within, hr.fresh, hr.countIn, hr.bar, hr.nested, hr.spans, hr.pushes, hr.pendingBar,
        hr.startBar⟩, hr.running⟩

theorem Legal.congr {s t : State} (h : Legal s) (ht : t.tempo = s.tempo) (hb : t.beats = s.beats)
    (hc : t.tables.cues = s.tables.cues) : Legal t := by
  obtain ⟨htempo, hcues, hrun, hrunning⟩ := h
  rw [← ht] at htempo
  rw [← hc] at hcues
  rw [← hb] at hrun hrunning
  exact ⟨htempo, hcues, hrun, hrunning⟩

@[simp] theorem takeOnset_latest (b : BeatState) : b.takeOnset.latest = b.latest := by
  unfold BeatState.takeOnset BeatState.latest
  split <;> simp_all

theorem takeOnset_current (b : BeatState) : b.takeOnset.current = b.latest := by
  unfold BeatState.takeOnset BeatState.latest
  split <;> simp_all

@[simp] theorem takeOnset_next (b : BeatState) : b.takeOnset.next = none := by
  unfold BeatState.takeOnset
  split
  · rfl
  · assumption

section RunOk

variable {b : BeatState} (h : RunOk b)
include h

/-- The latest beat is one of the two that stand. -/
theorem RunOk.latestBeat {p : Beat} (hp : b.latest = some p) : BeatOk p := by
  unfold BeatState.latest at hp
  cases hn : b.next with
  | some n =>
    rw [hn] at hp
    exact h.nextBeat p (hn.trans hp)
  | none =>
    rw [hn] at hp
    exact h.currentBeat p hp

theorem RunOk.not_idle {o : Nat} (ho : b.nextOnset = some o) : b.click ≠ .idle := fun hidle => by
  rw [(h.idle hidle).2.2.1] at ho
  cases ho

theorem RunOk.idled : RunOk b.idled where
  idle _ := ⟨rfl, rfl, rfl, rfl⟩
  ends _ := .inl rfl
  size := Nat.zero_le _
  pushesSize := Nat.zero_le _
  currentBeat _ hp := by cases hp
  nextBeat _ hp := by cases hp
  onset _ _ hp := by cases hp
  follows _ _ hc := by cases hc
  within _ _ _ hp := by cases hp
  fresh _ := rfl
  countIn _ hp := by cases hp
  bar _ hp := by cases hp
  nested := .nil
  spans _ hv := by cases hv
  pushes _ hv := by cases hv
  pendingBar := h.pendingBar
  startBar := h.startBar

/-- An onset moves the latest beat into CURRENT (R24). -/
theorem RunOk.takeOnset : RunOk b.takeOnset where
  idle hidle := by
    have hclick : b.click = .idle := by simpa using hidle
    obtain ⟨hc, hn, ho, hv⟩ := h.idle hclick
    simp [takeOnset_current, BeatState.latest, hc, hn, ho, hv]
  ends ho := by simpa using h.ends (by simpa using ho)
  size := by simpa using h.size
  pushesSize := by simpa using h.pushesSize
  currentBeat p hp := h.latestBeat (by rwa [takeOnset_current] at hp)
  nextBeat _ hp := by simp at hp
  onset p o hp ho := h.onset p o (by simpa using hp) (by simpa using ho)
  follows _ _ _ hn := by simp at hn
  within p v outer hp hm hv := h.within p v outer (by simpa using hp) hm (by simpa using hv)
  fresh hf := by simpa using h.fresh (by simpa using hf)
  countIn p hp hc := by simpa using h.countIn p (by simpa using hp) hc
  bar p hp hm := h.bar p (by simpa using hp) hm
  nested := by simpa using h.nested
  spans := by simpa using h.spans
  pushes := by simpa using h.pushes
  pendingBar := by simpa using h.pendingBar
  startBar := by simpa using h.startBar

/-- A running click is FINISHING, with its beats as they stand (R26). -/
theorem RunOk.finishing (last : Bool) : RunOk { b with click := .finishing, lastBarToBegin := last } :=
  { h with idle := fun hidle => (by cases hidle), ends := fun _ => .inr rfl }

end RunOk

/-! ## The writes of the beat state -/

theorem RunOk.write {s : State} {x : BeatState} (hx : BeatWrite s x) (hc : CuesOk s.tables.cues) (h : RunOk s.beats) :
    RunOk x := by
  cases hx with
  | overflow b => exact { h with }
  | release v outer hv =>
    have hsize := h.size
    have hnested := h.nested
    have hspans := h.spans
    rw [hv] at hsize hnested hspans
    obtain ⟨hv1, hv2⟩ := List.pairwise_cons.mp hnested
    exact { h with
      idle := fun hidle => by
        have := (h.idle hidle).2.2.2
        rw [hv] at this
        cases this
      size := hsize
      within := fun p w rest hp hm hw => by
        obtain ⟨rfl, rfl⟩ := List.cons.inj hw
        exact h.within p v outer hp hm hv
      fresh := fun hf => by
        have := h.fresh hf
        rw [hv] at this
        cases this
      nested := .cons hv1 hv2
      spans := by simpa using hspans }
  | meterAndBar c hmem =>
    refine { h with pendingBar := fun n hn => ?_ }
    cases hbar : c.scoreBar with
    | none =>
      simp only [hbar] at hn
      exact h.pendingBar n hn
    | some m =>
      simp only [hbar] at hn
      exact optWithin_iff.mp (hc c hmem).2.1 n (hbar.trans hn)
  | dropPending => exact { h with pendingBar := fun _ hn => by cases hn }
  | meter m => exact { h with pendingBar := fun _ hn => by cases hn }
  | dropVamps =>
    exact { h with
      idle := fun hidle => by
        obtain ⟨hcur, hn, ho, -⟩ := h.idle hidle
        exact ⟨hcur, hn, ho, rfl⟩
      size := Nat.zero_le _
      pushesSize := Nat.zero_le _
      within := fun _ _ _ _ _ hv => by cases hv
      fresh := fun _ => rfl
      nested := .nil
      spans := fun _ hv => by cases hv
      pushes := fun _ hv => by cases hv }
  | countIn => exact { h with }
  | onset => exact h.takeOnset
  | discard hd =>
    have ht := h.takeOnset
    simp only [BeatState.discardsNext, Bool.and_eq_true, beq_iff_eq] at hd
    obtain ⟨⟨hclick, -⟩, -⟩ := hd
    exact { ht with
      idle := fun hidle => by
        obtain ⟨hcur, hn, -, hv⟩ := ht.idle hidle
        exact ⟨hcur, hn, rfl, hv⟩
      ends := fun _ => .inr (by simpa using hclick)
      onset := fun _ _ _ ho => by cases ho }
  | push c v hmem hv hp =>
    exact { h with
      pushesSize := by simp; omega
      pushes := fun w hw => by
        obtain hw | hw := List.mem_append.mp hw
        · exact h.pushes w hw
        · obtain rfl := List.mem_singleton.mp hw
          exact (hc c hmem).2.2 w hv }

/-- No write of the beat state takes the latest beat, or makes an IDLE click run. -/
theorem BeatWrite.latest {s : State} {x : BeatState} (hx : BeatWrite s x) :
    x.latest = s.beats.latest ∧ x.click = s.beats.click := by
  cases hx with
  | onset => exact ⟨takeOnset_latest _, by simp⟩
  | discard => exact ⟨takeOnset_latest s.beats, by simp⟩
  | _ => exact ⟨rfl, rfl⟩

end Sys2Proof.Machine
end

section
/-!
PROOFS. The fixing of a beat (R22, R30 to R36): the bar that a commit begins lies within the innermost vamp that is left,
and the beat that it fixes follows the latest one. With it every step keeps the run in order.
-/

namespace Sys2Proof.Machine
set_option Elab.async false

/-! ## Pushes and the vamp test -/

/-- A vamp stack at the start of a bar: it is in order, no vamp starts after the bar, and the innermost does not end
before it (R33). -/
structure VampsAt (bar : Nat) (l : List Vamp) : Prop where
  size : l.length ≤ 4
  nested : l.Pairwise fun inner outer => outer.start ≤ inner.start
  spans : ∀ v ∈ l, 1 ≤ v.start ∧ v.start ≤ v.last ∧ v.last ≤ 9999
  starts : ∀ v ∈ l, v.start ≤ bar
  ends : ∀ v outer, l = v :: outer → bar ≤ v.last

theorem VampsAt.nil (bar : Nat) : VampsAt bar [] :=
  ⟨Nat.zero_le _, .nil, fun _ hv => (by cases hv), fun _ hv => (by cases hv), fun _ _ hv => (by cases hv)⟩

/-- A push at a bar puts a vamp that starts there on the stack (R34). -/
theorem VampsAt.push {bar : Nat} {l : List Vamp} {v : VampSpec} (h : VampsAt bar l) (hbar : 1 ≤ bar ∧ bar ≤ 9999)
    (hv : v.valid = true) (hroom : l.length < 4) : VampsAt bar (v.record bar :: l) := by
  have hlength : 1 ≤ v.length := by
    simp only [VampSpec.valid, Bool.and_eq_true, decide_eq_true_eq] at hv
    exact hv.1.1
  have hlast : bar ≤ (v.record bar).last ∧ (v.record bar).last ≤ 9999 := by
    simp only [VampSpec.record, Config.barMax]
    omega
  refine ⟨hroom, .cons h.starts h.nested, fun w hw => ?_, fun w hw => ?_, fun w outer hw => ?_⟩
  · obtain rfl | hw := List.mem_cons.mp hw
    · exact ⟨hbar.1, hlast⟩
    · exact h.spans w hw
  · obtain rfl | hw := List.mem_cons.mp hw
    · exact le_rfl
    · exact h.starts w hw
  · obtain ⟨rfl, rfl⟩ := List.cons.inj hw
    exact hlast.1

/-- What a push does to the beat state: a vamp on the stack where it fits, or else VAMP_OVERFLOW (R34). -/
theorem pushVamp_beats (bar : Nat) (s : State) (v : VampSpec) :
    (pushVamp bar s v).beats =
      if s.beats.vamps.length < Config.vampCapacity then { s.beats with vamps := v.record bar :: s.beats.vamps }
      else { s.beats with overflow := true } := by
  unfold pushVamp vampOverflow
  split <;> simp

theorem VampsAt.pushVamp {bar : Nat} {s : State} {v : VampSpec} (h : VampsAt bar s.beats.vamps)
    (hbar : 1 ≤ bar ∧ bar ≤ 9999) (hv : v.valid = true) : VampsAt bar (pushVamp bar s v).beats.vamps := by
  rw [pushVamp_beats]
  split
  · next hroom => exact h.push hbar hv hroom
  · exact h

/-- The pushes are made on the stack and leave the rest of the beat state, but for the list that they empty and
VAMP_OVERFLOW (R34). -/
theorem pushAll_spec {bar : Nat} {s : State} (h : VampsAt bar s.beats.vamps) (hbar : 1 ≤ bar ∧ bar ≤ 9999)
    (hv : ∀ v ∈ s.beats.pushes, v.valid = true) :
    ∃ vamps overflow, (pushAll bar s).beats = { s.beats with pushes := [], vamps := vamps, overflow := overflow } ∧
      VampsAt bar vamps := by
  have hfold : ∀ (l : List VampSpec) (t : State), (∀ v ∈ l, v.valid = true) → VampsAt bar t.beats.vamps →
      ∃ vamps overflow, (l.foldl (Machine.pushVamp bar) t).beats = { t.beats with vamps := vamps, overflow := overflow } ∧
        VampsAt bar vamps := by
    intro l
    induction l with
    | nil => exact fun t _ ht => ⟨t.beats.vamps, t.beats.overflow, rfl, ht⟩
    | cons v l ih =>
      intro t hl ht
      have hpush := ht.pushVamp hbar (hl v List.mem_cons_self)
      obtain ⟨vamps, overflow, hbeats, hvamps⟩ := ih _ (fun w hw => hl w (List.mem_cons_of_mem _ hw)) hpush
      refine ⟨vamps, overflow, ?_, hvamps⟩
      rw [List.foldl_cons, hbeats, pushVamp_beats]
      split <;> rfl
  exact hfold _ { s with beats := { s.beats with pushes := [] } } hv h

/-- The vamp test leaves a stack in order at the bar it gives, which is a bar of the show (R35, R36). -/
theorem vampTest_spec {ended : Nat} {l : List Vamp} (hended : 1 ≤ ended ∧ ended ≤ 9999) (hsize : l.length ≤ 4)
    (hnested : l.Pairwise fun inner outer => outer.start ≤ inner.start)
    (hspans : ∀ v ∈ l, 1 ≤ v.start ∧ v.start ≤ v.last ∧ v.last ≤ 9999) (hstarts : ∀ v ∈ l, v.start ≤ ended) :
    (∀ bar, (vampTest ended l).bar = some bar → (1 ≤ bar ∧ bar ≤ 9999) ∧ VampsAt bar (vampTest ended l).stack) ∧
      ((vampTest ended l).bar = none → (vampTest ended l).stack = []) := by
  induction l with
  | nil => exact ⟨fun _ hb => (by cases hb), fun _ => rfl⟩
  | cons v outer ih =>
    have hv := hspans v List.mem_cons_self
    obtain ⟨hbelow, houter⟩ := List.pairwise_cons.mp hnested
    unfold vampTest
    split
    · next hlast =>
      refine ⟨fun bar hbar => ?_, fun hnone => (by cases hnone)⟩
      obtain rfl := Option.some.inj hbar
      refine ⟨by omega, hsize, hnested, hspans, fun w hw => (hstarts w hw).trans (Nat.le_succ _), fun w rest hw => ?_⟩
      obtain ⟨rfl, rfl⟩ := List.cons.inj hw
      exact hlast
    · split
      · refine ⟨fun bar hbar => ?_, fun hnone => (by cases hnone)⟩
        obtain rfl := Option.some.inj hbar
        refine ⟨by omega, hsize, .cons hbelow houter, fun w hw => ?_, fun w hw => ?_, fun w rest hw => ?_⟩
        · obtain rfl | hw := List.mem_cons.mp hw
          · exact hv
          · exact hspans w (List.mem_cons_of_mem _ hw)
        · obtain rfl | hw := List.mem_cons.mp hw
          · exact le_rfl
          · exact hbelow w hw
        · obtain ⟨rfl, rfl⟩ := List.cons.inj hw
          exact hv.2.1
      · exact ih (Nat.le_of_succ_le hsize) houter (fun w hw => hspans w (List.mem_cons_of_mem _ hw))
          fun w hw => hstarts w (List.mem_cons_of_mem _ hw)

/-! ## The bar of a commit -/

/-- What a commit needs of the bar that it has decided, and leaves of the beat state: the vamps at that bar, and what the
decision of a bar does not touch. -/
structure BarOk (bs : BarStart) (b : BeatState) : Prop where
  size : b.vamps.length ≤ 4
  pushesSize : b.pushes.length ≤ 4
  fresh : b.firstBarDue = true → b.vamps = []
  countIn : bs.countIn = true → b.firstBarDue = true
  bar : bs.countIn = false → 1 ≤ bs.bar ∧ bs.bar ≤ 9999
  within : bs.countIn = false → ∀ v outer, b.vamps = v :: outer → (v.start : Int) ≤ bs.bar ∧ bs.bar ≤ (v.last : Int)
  nested : b.vamps.Pairwise fun inner outer => outer.start ≤ inner.start
  spans : ∀ v ∈ b.vamps, 1 ≤ v.start ∧ v.start ≤ v.last ∧ v.last ≤ 9999
  pushes : ∀ v ∈ b.pushes, v.valid = true
  pendingBar : ∀ n, b.pendingBar = some n → 1 ≤ n ∧ n ≤ 9999
  startBar : 1 ≤ b.startBar ∧ b.startBar ≤ 9999

/-- The bar of a music bar start, with every pending push made at it (R32, R34). -/
theorem BarOk.pushed {bar : Nat} {s : State} {bs : BarStart} (h : VampsAt bar s.beats.vamps)
    (hbar : 1 ≤ bar ∧ bar ≤ 9999) (hbs : bs.bar = bar) (hcount : bs.countIn = false)
    (hfresh : s.beats.firstBarDue = false) (hpushes : ∀ v ∈ s.beats.pushes, v.valid = true)
    (hpending : ∀ n, s.beats.pendingBar = some n → 1 ≤ n ∧ n ≤ 9999)
    (hstart : 1 ≤ s.beats.startBar ∧ s.beats.startBar ≤ 9999) : BarOk bs (pushAll bar s).beats := by
  obtain ⟨vamps, overflow, hbeats, hvamps⟩ := pushAll_spec h hbar hpushes
  rw [hbeats]
  refine ⟨hvamps.size, Nat.zero_le _, fun hf => ?_, fun hc => ?_, fun _ => ?_, fun _ v outer hv => ?_, hvamps.nested,
    hvamps.spans, fun v hv => (by cases hv), hpending, hstart⟩
  · rw [hfresh] at hf
    cases hf
  · rw [hcount] at hc
    cases hc
  · omega
  · have hv : vamps = v :: outer := hv
    have h1 := hvamps.starts v (by rw [hv]; exact List.mem_cons_self)
    have h2 := hvamps.ends v outer hv
    omega

/-- The beats that stand are not touched by what begins a bar, and no click becomes IDLE by it. -/
structure BeatsStand (b c : BeatState) : Prop where
  current : c.current = b.current
  next : c.next = b.next
  running : b.click ≠ .idle → c.click ≠ .idle

theorem pushAll_stand (bar : Nat) (s : State) : BeatsStand s.beats (pushAll bar s).beats where
  current := by
    unfold pushAll
    rw [keep_foldl (fun t : State => t.beats.current) _ _ _ (fun _ _ => by rw [pushVamp_beats]; split <;> rfl)]
  next := (pushAll_beats_next bar s).1
  running hc := by rwa [(pushAll_beats_next bar s).2.2]

theorem BeatsStand.of_parts {b c d : BeatState} (h : BeatsStand c d) (hcurrent : c.current = b.current)
    (hnext : c.next = b.next) (hclick : b.click ≠ .idle → c.click ≠ .idle) : BeatsStand b d :=
  ⟨h.current.trans hcurrent, h.next.trans hnext, fun hb => h.running (hclick hb)⟩

/-- What the bar-start of a run must find: the beat state in order, before a latest beat only at a first bar (R31). -/
structure BarReady (prev : Option Beat) (b : BeatState) : Prop where
  size : b.vamps.length ≤ 4
  pushesSize : b.pushes.length ≤ 4
  fresh : b.firstBarDue = true → b.vamps = []
  first : prev = none → b.firstBarDue = true
  countIn : ∀ p, prev = some p → p.countIn = true → b.firstBarDue = true
  bar : ∀ p, prev = some p → p.countIn = false → 1 ≤ p.bar ∧ p.bar ≤ 9999
  within : ∀ p v outer, prev = some p → p.countIn = false → b.vamps = v :: outer →
    (v.start : Int) ≤ p.bar ∧ p.bar ≤ (v.last : Int)
  nested : b.vamps.Pairwise fun inner outer => outer.start ≤ inner.start
  spans : ∀ v ∈ b.vamps, 1 ≤ v.start ∧ v.start ≤ v.last ∧ v.last ≤ 9999
  pushes : ∀ v ∈ b.pushes, v.valid = true
  pendingBar : ∀ n, b.pendingBar = some n → 1 ≤ n ∧ n ≤ 9999
  startBar : 1 ≤ b.startBar ∧ b.startBar ≤ 9999

theorem BarReady.takeMeter {prev : Option Beat} {b : BeatState} (h : BarReady prev b) : BarReady prev b.takeMeter := by
  unfold BeatState.takeMeter
  split
  · exact { h with }
  · exact h

/-- A pending score bar, or else a given bar of the show (R31, R32). -/
theorem getD_bar {o : Option Nat} {d : Nat} (ho : ∀ n, o = some n → 1 ≤ n ∧ n ≤ 9999) (hd : 1 ≤ d ∧ d ≤ 9999) :
    1 ≤ o.getD d ∧ o.getD d ≤ 9999 := by
  cases o with
  | none => exact hd
  | some n => exact ho n rfl

theorem beginFirstBar_ok {prev : Option Beat} {s : State} (h : BarReady prev s.beats) (hfirst : s.beats.firstBarDue = true) :
    BarOk (beginFirstBar s).1 (beginFirstBar s).2.beats ∧ BeatsStand s.beats (beginFirstBar s).2.beats := by
  have hbar := getD_bar h.pendingBar h.startBar
  have hclick : (if s.beats.click = .countIn then setClick .running s else s).beats =
      { s.beats with click := if s.beats.click = .countIn then .running else s.beats.click } := by
    split <;> simp
  unfold beginFirstBar
  dsimp only
  refine ⟨.pushed ?_ hbar rfl rfl rfl ?_ (fun _ hn => by cases hn) ?_, (pushAll_stand _ _).of_parts ?_ ?_ fun hc => ?_⟩
  · dsimp only
    rw [hclick, h.fresh hfirst]
    exact .nil _
  · dsimp only
    rw [hclick]
    exact h.pushes
  · dsimp only
    rw [hclick]
    exact h.startBar
  · dsimp only
    rw [hclick]
  · dsimp only
    rw [hclick]
  · dsimp only
    rw [hclick]
    dsimp only
    split
    · simp
    · exact hc

theorem beginCountInBar_ok {prev : Option Beat} {s : State} (h : BarReady prev s.beats)
    (hfirst : s.beats.firstBarDue = true) :
    BarOk (beginCountInBar s).1 (beginCountInBar s).2.beats ∧ BeatsStand s.beats (beginCountInBar s).2.beats :=
  ⟨⟨h.size, h.pushesSize, h.fresh, fun _ => hfirst, fun hm => (by cases hm), fun hm => (by cases hm), h.nested, h.spans,
    h.pushes, h.pendingBar, h.startBar⟩, rfl, rfl, id⟩

theorem beginMusicBar_ok {p : Beat} {s : State} (h : BarReady (some p) s.beats) (hfirst : s.beats.firstBarDue = false) :
    BarOk (beginMusicBar p.bar.toNat s).1 (beginMusicBar p.bar.toNat s).2.beats ∧
      BeatsStand s.beats (beginMusicBar p.bar.toNat s).2.beats := by
  have hmusic : p.countIn = false := by
    cases hc : p.countIn with
    | false => rfl
    | true =>
      rw [h.countIn p rfl hc] at hfirst
      cases hfirst
  have hbar := h.bar p rfl hmusic
  have hended : 1 ≤ p.bar.toNat ∧ p.bar.toNat ≤ 9999 := by omega
  have hstarts : ∀ v ∈ s.beats.vamps, v.start ≤ p.bar.toNat := by
    intro v hv
    have hnested := h.nested
    cases hl : s.beats.vamps with
    | nil =>
      rw [hl] at hv
      cases hv
    | cons w outer =>
      have hw := h.within p w outer rfl hmusic hl
      rw [hl] at hv hnested
      obtain rfl | hv := List.mem_cons.mp hv
      · omega
      · have := List.rel_of_pairwise_cons hnested hv
        omega
  obtain ⟨hsome, hnone⟩ := vampTest_spec hended h.size h.nested h.spans hstarts
  unfold beginMusicBar
  dsimp only
  split
  · next bar hb =>
    obtain ⟨hok, hvamps⟩ := hsome bar hb
    refine ⟨.pushed (by simpa using hvamps) hok rfl rfl (by simpa using hfirst) (by simpa using h.pushes)
      (by simpa using h.pendingBar) (by simpa using h.startBar), (pushAll_stand _ _).of_parts ?_ ?_ ?_⟩ <;> simp
  · next hb =>
    have hok := getD_bar h.pendingBar (d := min (p.bar.toNat + 1) Config.barMax) (by simp only [Config.barMax]; omega)
    refine ⟨.pushed ?_ ?_ rfl rfl (by simpa using hfirst) (by simpa using h.pushes) (fun _ hn => by cases hn)
      (by simpa using h.startBar), (pushAll_stand _ _).of_parts ?_ ?_ ?_⟩
    · simpa [hnone hb] using VampsAt.nil _
    · simpa using hok
    all_goals simp

theorem beginBar_ok {prev : Option Beat} {s : State} (h : BarReady prev s.beats) :
    BarOk (beginBar prev s).1 (beginBar prev s).2.beats ∧ BeatsStand s.beats (beginBar prev s).2.beats := by
  have hm := h.takeMeter
  have hstand : ∀ {d : BeatState}, BeatsStand s.beats.takeMeter d → BeatsStand s.beats d := fun hd =>
    hd.of_parts (by simp) (by simp) (by simp)
  unfold beginBar
  dsimp only
  split
  · next hfirst =>
    split
    · obtain ⟨hok, hbeats⟩ := beginCountInBar_ok (s := { s with beats := s.beats.takeMeter }) hm hfirst
      exact ⟨hok, hstand hbeats⟩
    · obtain ⟨hok, hbeats⟩ := beginFirstBar_ok (s := { s with beats := s.beats.takeMeter }) hm hfirst
      exact ⟨hok, hstand hbeats⟩
  · next hfirst =>
    cases prev with
    | none => exact absurd (hm.first rfl) hfirst
    | some p =>
      obtain ⟨hok, hbeats⟩ := beginMusicBar_ok (s := { s with beats := s.beats.takeMeter }) hm (by simpa using hfirst)
      exact ⟨hok, hstand hbeats⟩

/-! ## The beat of a commit -/

/-- The bar that a commit decides, with the state after the decision: a bar start's, or the bar in progress (R30). -/
def barOfCommit (s : State) : BarStart × State :=
  let t := (fixTempo { s with beats := s.beats.takeOnset }).2
  if s.beats.barStartNext then beginBar s.beats.latest t
  else ({ bar := (s.beats.latest.map (·.bar)).getD 1, countIn := (s.beats.latest.map (·.countIn)).getD false,
          vampLoop := false, lastPass := false }, t)

/-- The number in its bar of the beat that a commit fixes (R30). -/
def BeatState.nextBeatInBar (b : BeatState) : Nat :=
  if b.barStartNext then 1 else (b.latest.map (·.beat)).getD 0 + 1

/-- The beat that a commit fixes (R22, R30). -/
def committedBeat (onset : Nat) (s : State) : Beat :=
  { onset, period := periodOf s.tempo.commit.1, tempo := s.tempo.commit.1, bar := (barOfCommit s).1.bar,
    beat := s.beats.nextBeatInBar, downbeat := s.beats.nextBeatInBar == 1, countIn := (barOfCommit s).1.countIn,
    vampLoop := (barOfCommit s).1.vampLoop, lastPass := (barOfCommit s).1.lastPass }

/-- The fixing of a beat is the decision of its bar, and the record in NEXT (R22). -/
theorem fixBeat_eq (onset : Nat) (s : State) :
    fixBeat onset s =
      (committedBeat onset s,
        { (barOfCommit s).2 with beats := { (barOfCommit s).2.beats with
          next := some (committedBeat onset s), nextOnset := some (onset + (committedBeat onset s).period),
          lastBarToBegin := (barOfCommit s).2.beats.lastBarToBegin && !s.beats.barStartNext } }) := rfl

theorem barStartNext_of_none {b : BeatState} (hb : b.latest = none) : b.barStartNext = true := by
  rw [BeatState.barStartNext, hb]

/-- A beat state in order is ready for a bar start, once the first bar is due where no beat stands. -/
theorem RunOk.barReady {b : BeatState} (h : RunOk b) (hfirst : b.latest = none → b.firstBarDue = true) :
    BarReady b.latest b.takeOnset := by
  have ht := h.takeOnset
  refine ⟨ht.size, ht.pushesSize, ht.fresh, fun hn => ?_, fun p hp hc => ?_, h.bar, fun p v outer hp hm hv => ?_,
    ht.nested, ht.spans, ht.pushes, ht.pendingBar, ht.startBar⟩
  · simpa using hfirst hn
  · simpa using h.countIn p hp hc
  · exact h.within p v outer hp hm (by simpa using hv)

theorem barOfCommit_ok {s : State} (h : RunOk s.beats) (hfirst : s.beats.latest = none → s.beats.firstBarDue = true) :
    BarOk (barOfCommit s).1 (barOfCommit s).2.beats ∧ BeatsStand s.beats.takeOnset (barOfCommit s).2.beats := by
  have hready := h.barReady hfirst
  have hfix : (fixTempo { s with beats := s.beats.takeOnset }).2.beats = s.beats.takeOnset := by simp
  rw [← hfix] at hready
  unfold barOfCommit
  dsimp only
  split
  · have hbar := beginBar_ok hready
    rwa [hfix] at hbar
  · next hstart =>
    cases hp : s.beats.latest with
    | none => exact absurd (barStartNext_of_none hp) hstart
    | some p =>
      rw [hp] at hready
      dsimp only [Option.map_some, Option.getD_some]
      exact ⟨⟨hready.size, hready.pushesSize, hready.fresh, hready.countIn p rfl, hready.bar p rfl,
        fun hm v outer hv => hready.within p v outer rfl hm hv, hready.nested, hready.spans, hready.pushes,
        hready.pendingBar, hready.startBar⟩, by rw [hfix], by rw [hfix], fun hc => by rwa [hfix]⟩

@[simp] theorem barOfCommit_tempo (s : State) : (barOfCommit s).2.tempo = s.tempo.commit.2 := by
  unfold barOfCommit
  dsimp only
  split
  · simp [fixTempo]
  · simp [fixTempo]

theorem nextBeatInBar_pos (b : BeatState) : 1 ≤ b.nextBeatInBar := by
  unfold BeatState.nextBeatInBar
  split <;> omega

/-- A commit fixes a legal beat at the next onset, and leaves the run in order with it as the latest beat (R22, R30). -/
theorem Legal.fixBeat_of_first {o : Nat} {s : State} (ht : TempoStateOk s.tempo) (hc : CuesOk s.tables.cues)
    (h : RunOk s.beats) (hclick : s.beats.click ≠ .idle)
    (ho : ∀ p, s.beats.latest = some p → o = p.onset + p.period)
    (hfirst : s.beats.latest = none → s.beats.firstBarDue = true) : Legal (fixBeat o s).2 := by
  obtain ⟨hok, hcurrent, -, hstand⟩ := barOfCommit_ok h hfirst
  have hrunning : (barOfCommit s).2.beats.click ≠ .idle := hstand (by simpa using hclick)
  have hcurrent : (barOfCommit s).2.beats.current = s.beats.latest := by rw [hcurrent, takeOnset_current]
  have hbeat : BeatOk (committedBeat o s) := ⟨ht.commit.1, nextBeatInBar_pos _, rfl⟩
  rw [fixBeat_eq]
  refine ⟨?_, ?_, ?_, fun _ hn => ?_⟩
  · show TempoStateOk (barOfCommit s).2.tempo
    rw [barOfCommit_tempo]
    exact ht.commit.2
  · show CuesOk (barOfCommit s).2.tables.cues
    have htables : (barOfCommit s).2.tables = s.tables := by
      have := (fixBeat_keeps o s).2.1
      rwa [fixBeat_eq] at this
    rwa [htables]
  · refine ⟨fun hidle => absurd hidle hrunning, fun hn => (by cases hn), hok.size, hok.pushesSize, fun p hp => ?_,
      fun p hp => ?_, fun p q hp hq => ?_, fun c n hcur hn => ?_, fun p v outer hp hm hv => ?_, hok.fresh,
      fun p hp hm => ?_, fun p hp hm => ?_, hok.nested, hok.spans, hok.pushes, hok.pendingBar, hok.startBar⟩
    · exact h.latestBeat (hcurrent ▸ hp)
    · obtain rfl := Option.some.inj hp
      exact hbeat
    · obtain rfl := Option.some.inj hp
      exact (Option.some.inj hq).symm
    · obtain rfl := Option.some.inj hn
      exact ho c (hcurrent ▸ hcur)
    · obtain rfl := Option.some.inj hp
      exact hok.within hm v outer hv
    · obtain rfl := Option.some.inj hp
      exact hok.countIn hm
    · obtain rfl := Option.some.inj hp
      exact hok.bar hm
  · cases hn

/-! ## The steps -/

theorem Legal.steady : Steady Legal where
  notify _ _ h := h.congr rfl rfl rfl
  time _ _ h := h.congr rfl rfl rfl
  pointer _ _ h := h.congr rfl rfl rfl
  overlay _ _ h := h.congr rfl rfl rfl
  resume _ _ h := h.congr rfl rfl rfl
  clicks _ _ _ _ h := h.congr rfl rfl rfl
  rigs _ _ _ h := h.congr rfl rfl rfl
  picture _ _ _ h := h.congr rfl rfl rfl
  stops _ _ _ h := h.congr rfl rfl rfl

theorem Legal.stopFree : StopFree Legal where
  toSteady := Legal.steady
  anyStops _ _ h := h.congr rfl rfl rfl

/-- The beat state is replaced, the rest as it stands. -/
theorem Legal.withBeats {s t : State} (h : Legal s) (htempo : t.tempo = s.tempo) (htables : t.tables = s.tables)
    (hrun : RunOk t.beats) (hrunning : t.beats.click ≠ .idle → t.beats.latest ≠ none) : Legal t :=
  ⟨htempo ▸ h.tempo, htables ▸ h.cues, hrun, hrunning⟩

theorem Legal.beats {s : State} {x : BeatState} (hx : BeatWrite s x) (h : Legal s) : Legal { s with beats := x } := by
  obtain ⟨hlatest, hclick⟩ := hx.latest
  exact h.withBeats rfl rfl (h.run.write hx h.cues) (by
    dsimp only
    rw [hlatest, hclick]
    exact h.running)

theorem Legal.enterIdle {s : State} (h : Legal s) : Legal (enterIdle s) :=
  h.withBeats (by simp) (by simp) (by rw [enterIdle_beats]; exact h.run.idled) (by simp [BeatState.idled])

theorem Legal.cutBeats {s : State} (h : Legal s) : Legal (cutBeats s) := by
  by_cases hidle : s.beats.click = .idle
  · rwa [cutBeats_of_idle hidle]
  · refine h.withBeats (by simp) (by simp) ?_ ?_
    · rw [cutBeats_beats, if_neg hidle]
      exact { h.run.idled with }
    · rw [cutBeats_beats, if_neg hidle]
      exact fun hc => absurd rfl hc

theorem Legal.finishClick {s : State} (h : Legal s) : Legal (finishClick s) := by
  have hbeats := finishClick_beats s
  refine h.withBeats (by simp) (by simp) ?_ ?_
  · rw [hbeats]
    split
    · exact h.run.finishing _
    · exact h.run
  · rw [hbeats]
    split
    · next hrun => exact fun _ => h.running (by rcases hrun with hc | hc <;> simp [hc])
    · exact h.running

theorem Legal.keptBySampling : KeptBySampling Legal :=
  Legal.stopFree.keptBySampling (fun _ h => h.cutBeats) fun _ h => h.finishClick

theorem Legal.tempoWrite {s : State} {x : TempoState} (hx : TempoWrite s x) (h : Legal s) : TempoStateOk x := by
  have ht := h.tempo
  cases hx with
  | set v => exact (ht.toLive.setLive v).setTaps []
  | nudge percent => exact ht.toLive.setLive _
  | tap taps => exact ht.acceptTap taps
  | unclamp => exact ⟨ht.current, ht.live, ht.ramp, ht.follows⟩
  | dropTaps => exact ht.setTaps []
  | cue c hc => exact ht.apply (h.cues c hc).1
  | chase a => exact ht.apply (h.cues.tempoChase a)

/-- The state in which a START commits its first beat is in order, but that no beat stands yet (R25). -/
theorem RunOk.started {s : State} {n b : Nat} (h : RunOk s.beats) (hidle : s.beats.click = .idle)
    (hb : 1 ≤ b ∧ b ≤ 9999) :
    RunOk (started n b s).beats ∧ (started n b s).beats.latest = none ∧ (started n b s).beats.firstBarDue = true := by
  obtain ⟨hcurrent, hnext, -, hvamps⟩ := h.idle hidle
  have hbeats : (Machine.started n b s).beats =
      { s.beats with
        click := if n = 0 then .running else .countIn,
        nextOnset := some (q16OfSample ((setClick (if n = 0 then .running else .countIn) s).now + Config.horizon)),
        countInLeft := n, countInLength := n, firstBarDue := true, startBar := b, lastBarToBegin := false } := by
    simp [Machine.started]
  rw [hbeats]
  refine ⟨{ h with
    idle := fun hc => ?_
    ends := fun ho => (by cases ho)
    onset := fun p o hp => ?_
    fresh := fun _ => hvamps
    countIn := fun _ _ _ => rfl
    startBar := hb }, ?_, rfl⟩
  · dsimp only at hc
    split at hc <;> cases hc
  · simp [BeatState.latest, hcurrent, hnext] at hp
  · simp [BeatState.latest, hcurrent, hnext]

@[simp] theorem started_keeps (n b : Nat) (s : State) :
    (started n b s).tempo = s.tempo ∧ (started n b s).tables = s.tables ∧ (started n b s).stops = s.stops := by
  simp [started]

theorem Legal.fixBeat {o : Nat} {s : State} (ho : s.beats.nextOnset = some o) (h : Legal s) :
    Legal (fixBeat o s).2 :=
  have hclick := h.run.not_idle ho
  .fixBeat_of_first h.tempo h.cues h.run hclick (fun p hp => h.run.onset p o hp ho) fun hn =>
    absurd hn (h.running hclick)

theorem Legal.firstBeat {o n b : Nat} {s : State} (hidle : s.beats.click = .idle) (hb : StartBar s.tables b)
    (h : Legal s) : Legal (Machine.fixBeat o (started n b s)).2 := by
  obtain ⟨hrun, hlatest, hfirst⟩ := h.run.started hidle (h.cues.startBar hb) (n := n)
  refine .fixBeat_of_first (by simpa using h.tempo) (by simpa using h.cues) hrun (hrun.not_idle (started_nextOnset ..))
    (fun p hp => ?_) fun _ => hfirst
  rw [hlatest] at hp
  cases hp

/-- A bar start of a run's first bar, with no count-in remaining, begins the first music bar (R31). -/
theorem barOfCommit_first {s : State} (hlatest : s.beats.latest = none) (hfirst : s.beats.firstBarDue = true)
    (hleft : s.beats.countInLeft = 0) :
    (barOfCommit s).1.countIn = false ∧ (barOfCommit s).2.beats.firstBarDue = false := by
  unfold barOfCommit
  dsimp only
  rw [if_pos (barStartNext_of_none hlatest)]
  unfold beginBar
  dsimp only
  rw [if_pos (by simpa using hfirst), if_neg (by simp [hleft])]
  exact ⟨rfl, (pushAll_beats_next _ _).2.1⟩

/-- The first beat of a START without a count-in is a music beat, whose bar has begun (R31). -/
theorem musicNext_firstBeat {o b : Nat} {s : State} (hidle : s.beats.click = .idle) (h : Legal s) :
    MusicNext (Machine.fixBeat o (started 0 b s)).2.beats := by
  obtain ⟨hcurrent, hnext, -, -⟩ := h.run.idle hidle
  obtain ⟨hcount, hdue⟩ := barOfCommit_first (s := started 0 b s) (by simp [started, BeatState.latest, hcurrent, hnext])
    rfl rfl
  intro n hn
  rw [fixBeat_eq] at hn ⊢
  obtain rfl := Option.some.inj hn
  exact ⟨hcount, hdue⟩

theorem musicNext_start {s : State} (hidle : s.beats.click = .idle) (h : Legal s) :
    MusicNext (takeClick (.start 0) s).beats := by
  have hne : s.beats.click ≠ .finishing := by simp [hidle]
  unfold takeClick
  dsimp only
  rw [if_neg hne, startClick_of_idle hidle, commitBeat_of_onset (started_nextOnset ..)]
  exact MusicNext.keptBySampling.of_announceBeat true _ (musicNext_firstBeat hidle h)

theorem latest_of_next {b : BeatState} {n : Beat} (hn : b.next = some n) : b.latest = some n := by
  rw [BeatState.latest, hn]
  rfl

/-- The vamp of a cue whose START has begun the first music bar is pushed at that bar (R34). -/
theorem Legal.pushVamp {b : Beat} {c : Cue} {v : VampSpec} {s : State} (hidle : s.beats.click = .idle)
    (hn : (takeClick (.start 0) s).beats.next = some b) (hc : c ∈ s.tables.cues) (hv : c.vamp = some v) (h : Legal s)
    (ht : Legal (takeClick (.start 0) s)) : Legal (pushVamp b.bar.toNat (takeClick (.start 0) s) v) := by
  obtain ⟨hmusic, hdue⟩ := musicNext_start hidle h b hn
  have hvalid := (h.cues c hc).2.2 v hv
  generalize takeClick (.start 0) s = t at hn ht hdue
  have hlatest := latest_of_next hn
  have hbar := ht.run.bar b hlatest hmusic
  have hat : VampsAt b.bar.toNat t.beats.vamps := by
    have hnested := ht.run.nested
    refine ⟨ht.run.size, hnested, ht.run.spans, fun w hw => ?_, fun w outer hw => ?_⟩
    · cases hl : t.beats.vamps with
      | nil =>
        rw [hl] at hw
        cases hw
      | cons u outer =>
        have hu := ht.run.within b u outer hlatest hmusic hl
        rw [hl] at hw hnested
        obtain rfl | hw := List.mem_cons.mp hw
        · omega
        · have := List.rel_of_pairwise_cons hnested hw
          omega
    · have := ht.run.within b w outer hlatest hmusic hw
      omega
  have hpushed := hat.pushVamp (by omega) hvalid
  have hrunning : t.beats.click ≠ .idle := fun hi => by
    rw [(ht.run.idle hi).2.1] at hn
    cases hn
  refine ht.withBeats (by simp) (by simp) ?_ ?_
  · have hbeats := pushVamp_beats b.bar.toNat t v
    rw [hbeats] at hpushed ⊢
    split
    · next hroom =>
      rw [if_pos hroom] at hpushed
      exact { ht.run with
        idle := fun hi => absurd hi hrunning
        size := hpushed.size
        within := fun p w outer hp hm hw => by
          obtain rfl := Option.some.inj (hlatest.symm.trans hp)
          have h1 := hpushed.starts w (by rw [hw]; exact List.mem_cons_self)
          have h2 := hpushed.ends w outer hw
          omega
        fresh := fun hf => by
          rw [hdue] at hf
          cases hf
        nested := hpushed.nested
        spans := hpushed.spans }
    · exact { ht.run with }
  · rw [pushVamp_beats]
    split <;> exact ht.running

theorem Legal.keptByCues : KeptByCues Legal where
  toKeptBySampling := Legal.keptBySampling
  tempo _ _ hx h := ⟨h.tempoWrite hx, h.cues, h.run, h.running⟩
  beats _ _ hx h := h.beats hx
  enterIdle _ h := h.enterIdle
  fixBeat _ _ ho h := h.fixBeat ho
  firstBeat _ _ _ _ hidle hb h := h.firstBeat hidle hb
  pushVamp _ _ _ _ hidle hn hc hv h ht := Legal.pushVamp hidle hn hc hv h ht

theorem Legal.emptyVamps {s : State} (h : Legal s) : Legal (emptyVamps s) := Legal.keptByCues.of_emptyVamps h

theorem Legal.endBeats {s : State} (h : Legal s) : Legal (endBeats s) := by
  have ht : Legal { s with tempo := { s.tempo with taps := [] } } := ⟨h.tempo.setTaps [], h.cues, h.run, h.running⟩
  exact ((ht.emptyVamps.beats .countIn).beats .dropPending).congr rfl rfl rfl

theorem Legal.keptByStep : KeptByStep Legal where
  toKeptByCues := Legal.keptByCues
  anyRigs _ _ _ h := h.congr rfl rfl rfl
  desk _ _ _ _ h := h.congr rfl rfl rfl
  afterPops _ h := Legal.stopFree.of_afterPops h
  resetShow _ h := Legal.stopFree.of_resetShow (fun _ h => h.cutBeats) (fun _ h => h.emptyVamps.beats .countIn) h
  endShow _ _ h := Legal.stopFree.of_endShow (fun _ _ h => h.congr rfl rfl rfl) (fun _ h => h.endBeats) h
  acknowledge _ _ _ _ h := h.congr rfl rfl rfl
  beginShow _ _ h := h.congr rfl rfl rfl
  levels _ _ _ h := h.congr rfl rfl rfl
  settings _ _ h := h.congr rfl rfl rfl
  cues _ _ _ hx h := ⟨h.tempo, h.cues.write hx, h.run, h.running⟩
  memory _ _ _ _ h := h.congr rfl rfl rfl
  directory _ _ _ _ h := h.congr rfl rfl rfl
  camera _ _ _ _ h := h.congr rfl rfl rfl
  visits _ h := h.congr rfl rfl rfl
  unbindSlot k _ h := Legal.steady.of_anyUnbindSlot (fun _ _ h => h.congr rfl rfl rfl) k h
  unbindPort p _ h := Legal.steady.of_anyUnbindPort (fun _ _ h => h.congr rfl rfl rfl) p h
  loseSlot k _ h := Legal.steady.of_anyLoseSlot (fun _ _ h => h.congr rfl rfl rfl) k h
  bindRecords p k _ _ _ h := Legal.steady.of_anyBindRecords (fun _ _ h => h.congr rfl rfl rfl) p k h

theorem Legal.reset (q : List Instr) : Legal { State.reset with pending := q } :=
  have htempo : TempoStateOk State.reset.tempo :=
    ⟨⟨by decide, by decide⟩, ⟨by decide, by decide⟩, fun _ hr => (by cases hr), fun hm => (by cases hm)⟩
  have hrun : RunOk State.reset.beats :=
    ⟨fun _ => ⟨rfl, rfl, rfl, rfl⟩, fun _ => .inl rfl, Nat.zero_le _, Nat.zero_le _, fun _ hp => (by cases hp),
      fun _ hp => (by cases hp), fun _ _ hp => (by cases hp), fun _ _ hp => (by cases hp),
      fun _ _ _ hp => (by cases hp), fun _ => rfl, fun _ hp => (by cases hp), fun _ hp => (by cases hp), .nil,
      fun _ hv => (by cases hv), fun _ hv => (by cases hv), fun _ hn => (by cases hn), by decide⟩
  Legal.congr (s := State.reset) ⟨htempo, fun _ hc => (by cases hc), hrun, fun hc => absurd rfl hc⟩ rfl rfl rfl

/-- Settles O56: a commit fixes a legal beat in a bar within the innermost vamp, and every other write keeps the run. -/
theorem temposAndBeatsStayLegal : Obligations.TemposAndBeatsStayLegal := fun _ _ htempo hbeat hbar ht =>
  legal_iff.mp (Legal.keptByStep.step (fun _ _ h => h.congr rfl rfl rfl) Legal.reset (legal_iff.mpr ⟨htempo, hbeat, hbar⟩) ht)

/-- Settles O60: each invariant's reset lemma, on the queue that power-on reset leaves. -/
theorem powerOnMeetsTheInvariants : Obligations.PowerOnMeetsTheInvariants := by
  obtain ⟨htempo, hbeat, hbar⟩ := legal_iff.mp (Legal.reset [])
  obtain ⟨hstop, hfits⟩ := stackInv_iff.mp (StackInv.reset [])
  exact ⟨htempo, hbeat, hbar, hstop, hfits, CueInv.reset [], ClipInv.reset [], DeskInv.reset [], BindInv.reset [],
    PictureInv.reset⟩

end Sys2Proof.Machine
end

section
/-!
PROOFS. The step, the completeness of the commands, and power-on reset.
-/

namespace Sys2Proof.Machine
set_option Elab.async false

/-- Settles O1: both clauses are the two cases of a step. -/
theorem stepTakesTheFront : Obligations.StepTakesTheFront := by
  refine ⟨fun c q s => rfl, fun s hs => ?_⟩
  rw [step, hs]

/-- The commands that wait are `q`. -/
def waits (q : List Instr) (s : State) : Prop := s.pending = q

theorem waits.congr {q : List Instr} {s t : State} (hs : waits q s) (ht : t.pending = s.pending) : waits q t :=
  ht.trans hs

theorem waits_untimed (q : List Instr) : Untimed (waits q) where
  notify _ _ hs := hs.congr rfl
  time _ _ hs := hs.congr rfl
  pointer _ _ hs := hs.congr rfl
  overlay _ _ hs := hs.congr rfl
  resume _ _ hs := hs.congr rfl
  clicks _ _ _ _ hs := hs.congr rfl
  rigs _ _ _ hs := hs.congr rfl
  picture _ _ _ hs := hs.congr rfl
  stops _ _ _ hs := hs.congr rfl
  anyTempo _ _ hs := hs.congr rfl
  anyBeats _ _ hs := hs.congr rfl
  noHoldOff _ hs := hs.congr rfl
  anyStops _ _ hs := hs.congr rfl
  session _ _ hs := hs.congr rfl

theorem waits_keptByTables (q : List Instr) : KeptByTables (waits q) where
  toUntimed := waits_untimed q
  anyRigs _ _ _ hs := hs.congr rfl
  desk _ _ _ _ hs := hs.congr rfl
  settings _ _ hs := hs.congr rfl
  cues _ _ _ hs := hs.congr rfl
  memory _ _ _ _ hs := hs.congr rfl
  directory _ _ _ _ hs := hs.congr rfl
  camera _ _ _ _ hs := hs.congr rfl
  visits _ hs := hs.congr rfl
  unbindSlot k _ hs := (waits_untimed q).toSteady.of_anyUnbindSlot (fun _ _ hs => hs.congr rfl) k hs
  unbindPort p _ hs := (waits_untimed q).toSteady.of_anyUnbindPort (fun _ _ hs => hs.congr rfl) p hs
  loseSlot k _ hs := (waits_untimed q).toSteady.of_anyLoseSlot (fun _ _ hs => hs.congr rfl) k hs
  bindRecords p k _ _ _ hs := (waits_untimed q).toSteady.of_anyBindRecords (fun _ _ hs => hs.congr rfl) p k hs

/-- The events of the model that are guarded by a test answer a next state in each of its branches. -/
theorem guardedEvent_next (s : State) :
    (∀ i c, ∃ t, execWordClockEdge i c s = .next t) ∧ (∀ i c, ∃ t, execWordClockQualified i c s = .next t) ∧
    (∃ t, execWordClockSilence s = .next t) ∧ (∃ t, execHoldover s = .next t) ∧ (∃ t, execFrameTick s = .next t) ∧
    (∀ k, ∃ t, execForceDue k s = .next t) ∧ (∃ t, execCueBannerExpiry s = .next t) ∧
    (∃ t, execBeatOnset s = .next t) ∧ (∀ l, ∃ t, execVoiceStart l s = .next t) ∧
    (∀ l v c, ∃ t, execVoiceEnd l v c s = .next t) := by
  refine ⟨fun i c => ?_, fun i c => ?_, ?_, ?_, ?_, fun k => ?_, ?_, ?_, fun l => ?_, fun l v c => ?_⟩
  · unfold execWordClockEdge; (repeat' split) <;> exact ⟨_, rfl⟩
  · unfold execWordClockQualified; (repeat' split) <;> exact ⟨_, rfl⟩
  · unfold execWordClockSilence; (repeat' split) <;> exact ⟨_, rfl⟩
  · unfold execHoldover; (repeat' split) <;> exact ⟨_, rfl⟩
  · unfold execFrameTick; (repeat' split) <;> exact ⟨_, rfl⟩
  · unfold execForceDue; (repeat' split) <;> exact ⟨_, rfl⟩
  · unfold execCueBannerExpiry; dsimp only; (repeat' split) <;> exact ⟨_, rfl⟩
  · unfold execBeatOnset; (repeat' split) <;> exact ⟨_, rfl⟩
  · unfold execVoiceStart; (repeat' split) <;> exact ⟨_, rfl⟩
  · unfold execVoiceEnd; (repeat' split) <;> exact ⟨_, rfl⟩

theorem guardedMessage_next (s : State) :
    (∀ p chars, ∃ t, execRigInvalidMessage p chars s = .next t) ∧ (∀ k, ∃ t, execReplyTimeout k s = .next t) ∧
    (∀ k, ∃ t, execRigPresenceExpiry k s = .next t) ∧ (∀ p chars, ∃ t, execDeskBadFrame p chars s = .next t) ∧
    (∀ p f, ∃ t, execDeskStrayFrame p f s = .next t) ∧ (∀ p, ∃ t, execDeskPresenceExpiry p s = .next t) ∧
    (∀ r c x, ∃ t, execRequestWhileBusy r c x s = .next t) ∧ (∀ r c x, ∃ t, execUnknownCode r c x s = .next t) := by
  refine ⟨fun p chars => ?_, fun k => ?_, fun k => ?_, fun p chars => ?_, fun p f => ?_, fun p => ?_, fun r c x => ?_,
    fun r c x => ?_⟩
  · rcases execRigInvalidMessage_cases p chars s with ⟨-, hr⟩ | ⟨-, hr⟩ <;> exact ⟨_, hr⟩
  · unfold execReplyTimeout; (repeat' split) <;> exact ⟨_, rfl⟩
  · unfold execRigPresenceExpiry; (repeat' split) <;> exact ⟨_, rfl⟩
  · rcases execDeskBadFrame_cases p chars s with ⟨-, hr⟩ | ⟨-, hr⟩ <;> exact ⟨_, hr⟩
  · unfold execDeskStrayFrame; (repeat' split) <;> exact ⟨_, rfl⟩
  · unfold execDeskPresenceExpiry; (repeat' split) <;> exact ⟨_, rfl⟩
  · unfold execRequestWhileBusy; (repeat' split) <;> exact ⟨_, rfl⟩
  · unfold execUnknownCode; (repeat' split) <;> exact ⟨_, rfl⟩

/-- Every command answers a next state. -/
theorem exec_next (c : Instr) (s : State) : ∃ t, exec c s = .next t := by
  obtain ⟨hedge, hqualified, hsilence, hholdover, htick, hforce, hbanner, honset, hstart, hend⟩ := guardedEvent_next s
  obtain ⟨hinvalid, htimeout, hpresence, hbad, hstray, hexpiry, hbusy, hunknown⟩ := guardedMessage_next s
  cases c
  case wordClockEdge i c => exact hedge i c
  case wordClockQualified i c => exact hqualified i c
  case wordClockSilence => exact hsilence
  case holdover => exact hholdover
  case frameTick => exact htick
  case forceDue k => exact hforce k
  case cueBannerExpiry => exact hbanner
  case beatOnset => exact honset
  case voiceStart l => exact hstart l
  case voiceEnd l v c => exact hend l v c
  case rigInvalidMessage p chars => exact hinvalid p chars
  case replyTimeout k => exact htimeout k
  case rigPresenceExpiry k => exact hpresence k
  case deskBadFrame p chars => exact hbad p chars
  case deskStrayFrame p f => exact hstray p f
  case deskPresenceExpiry p => exact hexpiry p
  case requestWhileBusy r c x => exact hbusy r c x
  case unknownCode r c x => exact hunknown r c x
  all_goals exact ⟨_, rfl⟩

/-- Settles O2: every branch of every command answers, and none writes the queue. -/
theorem commandsComplete : Obligations.CommandsComplete := by
  intro c s
  obtain ⟨t, ht⟩ := exec_next c s
  refine ⟨t, ht, ?_⟩
  by_cases hc : c = .powerOnReset
  · subst hc
    cases ht
    rfl
  · exact (waits_keptByTables s.pending).keptByStep.of_exec hc rfl ht

/-- Settles O3: the reset state is a closed term, so each field is read off it. -/
theorem powerOnReset : Obligations.PowerOnReset := by
  refine ⟨fun _ => rfl, ?_⟩
  have hdirectory : ∀ i, tget State.reset.clicks.directory i = none := by decide
  have hroles : ∀ i, tget State.reset.clicks.roles i = none := by decide
  have hrigs : ∀ k, (State.reset.rig k).state = .absent ∧ (State.reset.rig k).boundPort = none ∧
      (State.reset.rig k).applied = none := by decide
  have hrigPorts : ∀ p, (State.reset.rigPort p).linkUp = false ∧ (State.reset.rigPort p).bit = false ∧
      (State.reset.rigPort p).rx = [] := by decide
  have hcameras : ∀ k, (State.reset.picture.cam k).state = .off := fun k => by cases k <;> rfl
  have hmonitors : ∀ m, (State.reset.picture.monitor m).source = .off := by decide
  have hraised : NothingRaised State.reset := fun i => by cases i <;> rfl
  have hports : ∀ p, (State.reset.port p).active = false ∧ (State.reset.port p).role = none ∧
      (State.reset.port p).mask = 0xFF ∧ (State.reset.port p).pendingSet = 0 ∧ (State.reset.port p).badFrames = 0 ∧
      (State.reset.port p).rx = [] := by decide
  exact ⟨rfl, rfl, rfl, rfl, rfl, rfl, rfl, rfl, rfl, rfl, rfl, rfl, rfl, rfl, rfl, rfl, rfl, rfl, rfl, rfl, rfl, rfl,
    rfl, fun _ => rfl, hdirectory, hroles, rfl, rfl, rfl, rfl, rfl, rfl, rfl, rfl, hrigs, hrigPorts, hcameras, hmonitors,
    rfl, rfl, rfl, rfl, rfl, hraised, rfl, rfl, rfl, rfl, rfl, hports⟩

end Sys2Proof.Machine
end

section
/-!
PROOFS. Requests turned away, item reads and the checks of item writes (R187, R189, R190, R195, R196).
-/

namespace Sys2Proof.Machine
set_option Elab.async false

/-! ## What each request is -/

/-- A command of TABLE 12-2 is a command open to its roles, or one open to any port, whose payload decodes just where
`commandRequest` says so. -/
theorem commandRequest_exec {c : Instr} {q : CommandRequest} (h : commandRequest c = some q) :
    ∃ (α : Type) (decode : List Byte → Option α) (payload : List Byte) (owner : α → State → Answer),
      q.decodes = (decode payload).isSome ∧
      ((∃ roles, q.roles = some roles ∧ ∀ s, exec c s = .next (command q.from_ roles decode payload owner s)) ∨
        (q.roles = none ∧ ∀ s, exec c s = .next (openCommand q.from_ decode payload owner s))) := by
  cases c <;> simp only [commandRequest, reduceCtorEq] at h
  case cueRead => obtain rfl := Option.some.inj h; exact ⟨_, _, _, _, rfl, .inr ⟨rfl, fun _ => rfl⟩⟩
  case chaseRead => obtain rfl := Option.some.inj h; exact ⟨_, _, _, _, rfl, .inr ⟨rfl, fun _ => rfl⟩⟩
  case noticeAck => obtain rfl := Option.some.inj h; exact ⟨_, _, _, _, rfl, .inr ⟨rfl, fun _ => rfl⟩⟩
  case claimRole => obtain rfl := Option.some.inj h; exact ⟨_, _, _, _, rfl, .inr ⟨rfl, fun _ => rfl⟩⟩
  case releaseRole => obtain rfl := Option.some.inj h; exact ⟨_, _, _, _, rfl, .inr ⟨rfl, fun _ => rfl⟩⟩
  case resetPort => obtain rfl := Option.some.inj h; exact ⟨_, _, _, _, rfl, .inr ⟨rfl, fun _ => rfl⟩⟩
  all_goals
    obtain rfl := Option.some.inj h
    exact ⟨_, _, _, _, rfl, .inl ⟨_, rfl, fun _ => rfl⟩⟩

/-- An item write is an item request of the item, and its item is one that a port may write (TABLE 12-6). -/
theorem itemWrite_exec {c : Instr} {w : ItemWrite} (h : itemWrite c = some w) :
    (∀ s, exec c s = .next (itemRequest w.item (opOfFlag w.op) w.from_ w.inst w.value s)) ∧
      w.item.writers ≠ .roles [] := by
  cases c <;> simp only [itemWrite, reduceCtorEq] at h <;> obtain rfl := Option.some.inj h <;>
    exact ⟨fun _ => rfl, by simp [Item.writers]⟩

/-- Every request that finds another in progress is a request of some owner's, whatever it asks. -/
theorem exec_request {c : Instr} {r : Req} (hw : c.wf = true) (hr : requestFrom c = some r) {s : State}
    (hq : (s.port r.port).inProgress ≠ none) : ∃ act, exec c s = .next (request r act s) := by
  cases c
  case requestWhileBusy r code payload =>
    obtain rfl := Option.some.inj hr
    obtain ⟨q, hq⟩ := Option.ne_none_iff_exists'.mp hq
    refine ⟨refuse .busy, ?_⟩
    show execRequestWhileBusy _ code payload s = _
    rw [execRequestWhileBusy, hq]
  case unknownCode r code payload =>
    obtain rfl := Option.some.inj hr
    have hcode : commandCodes.contains code = false := by simpa using (Bool.and_eq_true_iff.mp hw).1
    refine ⟨refuse .unknownCode, ?_⟩
    show execUnknownCode _ code payload s = _
    rw [execUnknownCode, hcode]
    rfl
  all_goals first | (cases hr; done) | (obtain rfl := Option.some.inj hr; exact ⟨_, rfl⟩)

/-! ## A request on a busy port (R189) -/

/-- A request on a busy port changes nothing but its port's record, whatever its owner would decide. -/
theorem request_busy {r : Req} {act : State → Answer} {q : Progress} {s : State}
    (hq : (s.port r.port).inProgress = some q) :
    request r act s = { s with desk := (request r act s).desk } ∧
    (∀ p, p ≠ r.port → (request r act s).port p = s.port p) ∧
    (request r act s).port r.port =
      (({ s.port r.port with active := true, presentAt := s.now, rx := [] } : DeskPortRec).busyRequest r.tag).choose := by
  have hv : ((validFrame r.port s).port r.port).inProgress = some q := by
    rw [port_validFrame, if_pos rfl]
    exact hq
  have heq : request r act s = chooseFrame r.port ((validFrame r.port s).setPort r.port
      (((validFrame r.port s).port r.port).busyRequest r.tag)) := by
    unfold request
    dsimp only
    rw [hv]
  rw [heq]
  refine ⟨rfl, fun p hp => ?_, ?_⟩
  · simp [chooseFrame, port_setPort, port_validFrame, Ne.symm hp]
  · simp [chooseFrame, port_validFrame]

/-- The record of a busy port after another request (R189): the request in progress stands, and the BUSY reply waits, goes
out, or is not made. -/
theorem busyRequest_choose {d : DeskPortRec} {q : Progress} (tag : Byte) (hq : d.inProgress = some q) :
    let e := (d.busyRequest tag).choose
    e.active = d.active ∧ e.presentAt = d.presentAt ∧ e.rx = d.rx ∧ e.outstanding = d.outstanding ∧
    e.inProgress.map (fun x => (x.tag, x.reply)) = some (q.tag, q.reply) ∧
    e.badFrames = (if d.waitingBusy = none then d.badFrames else countUp d.badFrames) ∧
    (∀ x, d.tx = some x → e.tx = some x ∧ e.waitingBusy = some (d.waitingBusy.getD tag)) ∧
    (d.tx = none → q.begun = true → d.waitingBusy = none →
      e.tx = some ⟨.busy, replyFrame tag ⟨.busy, []⟩⟩ ∧ e.waitingBusy = none) := by
  obtain ⟨t, reply, begun⟩ := q
  cases hw : d.waitingBusy <;> cases ht : d.tx <;> cases begun <;>
    simp [DeskPortRec.busyRequest, DeskPortRec.choose, hw, ht, hq]

/-- Settles O4: every request is taken in the same way on a busy port, whatever its owner would decide. -/
theorem requestWhileBusyRefused : Obligations.RequestWhileBusyRefused := by
  intro c r q s hw hr hq
  obtain ⟨act, hexec⟩ := exec_request hw hr (s := s) (by simp [hq])
  obtain ⟨hframe, hothers, hport⟩ := request_busy (act := act) hq
  obtain ⟨hactive, hpresent, hrx, houtstanding, hprogress, hbad, hsending, hfree⟩ :=
    busyRequest_choose (d := { s.port r.port with active := true, presentAt := s.now, rx := [] }) r.tag hq
  refine ⟨_, hexec, hframe, hothers, ?_⟩
  rw [hport]
  refine ⟨hactive, hpresent, hrx, hprogress, by simp, by simp, by simp, houtstanding, fun hnone => ?_, fun w hsome => ?_⟩
  · refine ⟨by rw [hbad, if_pos hnone], fun x hx => ?_, fun htx hbegun => hfree htx hbegun hnone⟩
    have := hsending x hx
    rwa [show (s.port r.port).waitingBusy = none from hnone] at this
  · refine ⟨by rw [hbad, if_neg (by simp [hsome])], fun x hx => ?_⟩
    have := hsending x hx
    rwa [show (s.port r.port).waitingBusy = some w from hsome] at this

/-! ## Requests turned away (R190) -/

/-- Settles O5: the payload, the role and the code are tested before the owner decides. -/
theorem requestsTurnedAway : Obligations.RequestsTurnedAway := by
  refine ⟨fun c r roles s hc hfree => ?_, fun c r roles s hc hfree hrole => ?_, fun r code payload s hfree hcode => ?_⟩
  · obtain ⟨α, decode, payload, owner, hdecodes, ⟨roles', -, hexec⟩ | ⟨-, hexec⟩⟩ := commandRequest_exec hc
    all_goals
      have hnone : decode payload = none := by simpa using hdecodes.symm
      exact ⟨_, hexec s, refused_served hfree (by simp only [hnone, refuse])⟩
  · obtain ⟨α, decode, payload, owner, hdecodes, ⟨roles', hroles, hexec⟩ | ⟨hroles, hexec⟩⟩ := commandRequest_exec hc
    · obtain rfl := Option.some.inj hroles
      obtain ⟨a, ha⟩ := Option.isSome_iff_exists.mp hdecodes.symm
      have hholds : ¬ holds roles ((validFrame r.port s).port r.port) = true := by
        rw [holds_validFrame, holds]
        cases hr : (s.port r.port).role with
        | none => simp
        | some role => simpa using hrole role hr
      exact ⟨_, hexec s, refused_served hfree (by simp only [ha, if_neg hholds, refuse])⟩
    · cases hroles
  · refine ⟨request r (refuse .unknownCode) s, ?_, refused_served hfree rfl⟩
    show execUnknownCode r code payload s = _
    rw [execUnknownCode, hcode]
    rfl

/-! ## Item requests (R195, R196, R206) -/

section Operate

variable {item : Item} {op : ItemOp} {port : DeskPort} {i : Nat} {rest : List Byte} {s : State}

/-- A form that its operation has not, a number past the last, and a mask on an item without flags are refused. -/
theorem operate_range (h : opFormOk op rest = false ∨ item.instances ≤ i ∨ (opIsMask op = true ∧ item.isFlag = false)) :
    item.operate op port i rest s = refuse .range s := by
  unfold Item.operate
  rcases h with hform | hinstance | ⟨hmask, hflag⟩
  · simp [hform]
  · simp [hinstance]
  · simp [hmask, hflag]

variable (hform : opFormOk op rest = true) (hinstance : i < item.instances)
  (hmask : opIsMask op = true → item.isFlag = true)
include hform hinstance hmask

/-- An operation that makes no write reads the value (R195). -/
theorem operate_read (hwrite : opWrite op rest = none) :
    item.operate op port i rest s = acceptWith (item.value i s) s := by
  unfold Item.operate
  rw [if_neg (by simp [hform]), if_neg (by simpa [hinstance] using hmask), hwrite]

theorem operate_readOnly {w : FlagOp} (hwrite : opWrite op rest = some w) (hw : item.writers = .roles []) :
    item.operate op port i rest s = refuse .readOnly s := by
  unfold Item.operate
  rw [if_neg (by simp [hform]), if_neg (by simpa [hinstance] using hmask), hwrite]
  dsimp only
  rw [if_pos hw]

theorem operate_noRight {w : FlagOp} (hwrite : opWrite op rest = some w) (hw : item.writers ≠ .roles [])
    (hmay : item.mayWrite port i s = false) : item.operate op port i rest s = refuse .noRight s := by
  unfold Item.operate
  rw [if_neg (by simp [hform]), if_neg (by simpa [hinstance] using hmask), hwrite]
  dsimp only
  rw [if_neg hw, if_pos (by simp [hmay])]

end Operate

/-- An item request that changes nothing is served with its answer. -/
theorem itemRequest_served {item : Item} {op : ItemOp} {r : Req} {i : Byte} {rest : List Byte} {s : State}
    {code : ReplyCode} {value : List Byte} (h : Free r s)
    (ha : item.operate op r.port i.toNat rest (validFrame r.port s) = ⟨⟨code, value⟩, validFrame r.port s⟩) :
    itemRequest item op r i rest s = { s with desk := (itemRequest item op r i rest s).desk } ∧
      Served r code value 0 s (itemRequest item op r i rest s) :=
  refused_served h ha

/-- The presence of a port is seen in no item but its own (TABLE 12-6). -/
theorem value_validFrame {item : Item} (h : item ≠ .presence) (i : Nat) (p : DeskPort) (s : State) :
    item.value i (validFrame p s) = item.value i s := by
  have hport : ∀ (f : DeskPortRec → List Byte), (∀ d now, f { d with active := true, presentAt := now, rx := [] } = f d) →
      atInstance 4 i (fun q => f ((validFrame p s).port q)) = atInstance 4 i fun q => f (s.port q) := by
    intro f hf
    congr 1
    funext q
    rw [port_validFrame]
    split
    · next hpq => rw [hf, hpq]
    · rfl
  cases item
  case presence => exact absurd rfl h
  case portRole => exact hport (fun d => optBytes 1 (fun r => [r.code]) d.role) fun _ _ => rfl
  case noticeMask => exact hport (fun d => [d.mask]) fun _ _ => rfl
  case pendingSet => exact hport (fun d => [d.pendingSet]) fun _ _ => rfl
  case noticeOutstanding => exact hport (fun d => boolByte d.outstanding) fun _ _ => rfl
  case badFrames => exact hport (fun d => beBytes 2 d.badFrames) fun _ _ => rfl
  case rigCounter c => cases c <;> rfl
  case cameraCounter c => cases c <;> rfl
  all_goals rfl

theorem mayWrite_validFrame (item : Item) (p q : DeskPort) (i : Nat) (s : State) :
    item.mayWrite q i (validFrame p s) = item.mayWrite q i s := by
  unfold Item.mayWrite
  split
  · exact holds_validFrame ..
  · rfl

theorem isMask_opOfFlag {w : FlagOp} : opIsMask (opOfFlag w) = true ↔ w ≠ .swap := by
  cases w <;> simp [opIsMask, opOfFlag]

/-- A write's operation makes that write, unless it is a mask of zero (R195). -/
theorem opWrite_opOfFlag {w : FlagOp} {rest : List Byte} :
    opWrite (opOfFlag w) rest = if w ≠ .swap ∧ rest = [0] then none else some w := by
  cases w <;> simp [opWrite, opOfFlag]

theorem opFormOk_zero {w : FlagOp} (hw : w ≠ .swap) : opFormOk (opOfFlag w) [0] = true := by
  cases w
  · exact absurd rfl hw
  all_goals rfl

/-- Settles O6: an item write is the item request of its row, whose checks come in their order. -/
theorem itemWriteChecks : Obligations.ItemWriteChecks := by
  intro c w s hc hfree
  obtain ⟨hexec, hwriters⟩ := itemWrite_exec hc
  refine ⟨_, hexec s, fun hrange => ?_, fun hinstance hflag hmask hzero => ?_, fun hform hinstance hflag hmay => ?_⟩
  · refine itemRequest_served hfree (operate_range ?_)
    rcases hrange with h | h | ⟨h, hflag⟩
    · exact .inl h
    · exact .inr (.inl h)
    · exact .inr (.inr ⟨isMask_opOfFlag.mpr h, hflag⟩)
  · have hne : w.item ≠ .presence := fun he => by rw [he] at hwriters; exact hwriters rfl
    rw [← value_validFrame hne w.inst.toNat w.from_.port s]
    rw [hzero]
    exact itemRequest_served hfree (operate_read (opFormOk_zero hmask) hinstance (fun _ => hflag)
      (by rw [opWrite_opOfFlag, if_pos ⟨hmask, rfl⟩]))
  · have hwrite : opWrite (opOfFlag w.op) w.value = some w.op := by
      rw [opWrite_opOfFlag, if_neg]
      rintro ⟨hmask, hzero⟩
      rcases hflag with h | ⟨-, h⟩
      · exact hmask h
      · exact h hzero
    have hmask : opIsMask (opOfFlag w.op) = true → w.item.isFlag = true := by
      rw [isMask_opOfFlag]
      rcases hflag with h | ⟨h, -⟩
      · exact fun hne => absurd h hne
      · exact fun _ => h
    refine itemRequest_served hfree (operate_noRight hform hinstance hmask hwrite hwriters ?_)
    rwa [mayWrite_validFrame]

/-- A READ request of a payload that names an item is the item request of that item. -/
theorem exec_read {op : ItemOp} {rest : List Byte} (r : Req) (n₁ n₀ i : Byte) (s : State) {item : Item}
    (hform : opFormOk op rest = true) (hitem : Item.ofNumber (word2 n₁ n₀) = some item) :
    exec (.read r op (n₁ :: n₀ :: i :: rest)) s = .next (itemRequest item op r i rest s) := by
  show Host.Outcome.next (request r (operatePayload op r.port (n₁ :: n₀ :: i :: rest)) s) = _
  have hact : operatePayload op r.port (n₁ :: n₀ :: i :: rest) = fun s => item.operate op r.port i.toNat rest s := by
    funext u
    unfold word2 at hitem
    simp [operatePayload, hform, hitem]
  rw [hact]
  rfl

/-- Settles O7: a READ of a known item is its item request; an unknown item is refused before it. -/
theorem readReturnsTheValue : Obligations.ReadReturnsTheValue := by
  intro r op n₁ n₀ i rest s hfree hform
  have hflags : ∀ item : Item, item.isFlag = true ↔ item = Item.tempoClamped ∨ item = Item.vampOverflow ∨
      item = Item.startIgnored ∨ item = Item.monitorField .overlayFields ∨ item = Item.noticeMask ∨
      item = Item.pendingSet := by
    intro item
    cases item
    case monitorField f => cases f <;> simp [Item.isFlag]
    all_goals simp [Item.isFlag]
  cases hitem : Item.ofNumber (word2 n₁ n₀) with
  | none =>
    refine ⟨request r (operatePayload op r.port (n₁ :: n₀ :: i :: rest)) s, rfl, fun _ => refused_served hfree ?_,
      fun _ h => (by cases h), hflags⟩
    unfold word2 at hitem
    simp [operatePayload, hform, hitem, refuse]
  | some item =>
    refine ⟨_, exec_read r n₁ n₀ i s hform hitem, fun h => (by cases h), fun item' h => ?_, hflags⟩
    obtain rfl := Option.some.inj h
    refine ⟨fun hinstance => ?_, fun hinstance hop => ?_, fun hinstance hflag hop hrest => ?_, fun hflag hop => ?_,
      fun hinstance hop hw => ?_⟩
    · exact itemRequest_served hfree (operate_range (.inr (.inl hinstance)))
    · subst hop
      exact itemRequest_served hfree (operate_read hform hinstance (fun h => by cases h) rfl)
    · subst hrest
      refine itemRequest_served hfree (operate_read hform hinstance (fun _ => hflag) ?_)
      rcases hop with rfl | rfl <;> rfl
    · refine itemRequest_served hfree (operate_range (.inr (.inr ⟨?_, hflag⟩)))
      rcases hop with rfl | rfl <;> rfl
    · rcases hop with rfl | ⟨hflag, hop, hrest⟩
      · exact itemRequest_served hfree (operate_readOnly hform hinstance (fun h => by cases h) (w := .swap) rfl hw)
      · rcases hop with rfl | rfl
        · exact itemRequest_served hfree (operate_readOnly hform hinstance (fun _ => hflag) (w := .set)
            (if_neg hrest) hw)
        · exact itemRequest_served hfree (operate_readOnly hform hinstance (fun _ => hflag) (w := .clear)
            (if_neg hrest) hw)

end Sys2Proof.Machine
end

section
/-!
PROOFS. The show clock and the word clock (R1 to R5): the sample counted, the edges, and the switches of the source with what
follows the lowering and the raising of CLOCK.
-/

namespace Sys2Proof.Machine
set_option Elab.async false

/-! ## The flags of the condition sources

A condition source is raised and lowered by its owner alone: a take lowers the command source that it takes, and HALTED
lowers the command sources (R160, R170). -/

@[simp] theorem isRaised_push (i j : StopSource) (x : Stops) : (x.push i).isRaised j = x.isRaised j := rfl

/-- A raised flag after the write of a flag. -/
theorem isRaised_setRaised (i j : StopSource) (b : Bool) (s : State) :
    (setRaised i b s).stops.isRaised j = if i = j then b else s.stops.isRaised j := by
  have hindex : i.index = j.index ↔ i = j := by cases i <;> cases j <;> simp [StopSource.index]
  rw [setRaised_stops, Stops.isRaised, tget_tput]
  simp only [hindex, Stops.isRaised]

@[simp] theorem isRaised_setHoldOff (n : Nat) (s : State) (j : StopSource) :
    (setHoldOff n s).stops.isRaised j = s.stops.isRaised j := by rw [setHoldOff_stops]; rfl

@[simp] theorem isRaised_setStopState (x : StopState) (s : State) (j : StopSource) :
    (setStopState x s).stops.isRaised j = s.stops.isRaised j := by rw [setStopState_stops]; rfl

@[simp] theorem isRaised_cutBeats (s : State) (j : StopSource) : (cutBeats s).stops.isRaised j = s.stops.isRaised j := by
  rw [cutBeats_stops]
  split <;> rfl

theorem isRaised_cutClick (s : State) (j : StopSource) : (cutClick s).stops.isRaised j = s.stops.isRaised j := by simp

@[simp] theorem isRaised_handProfile (x y : Profile) (s : State) (j : StopSource) :
    (handProfile x y s).stops.isRaised j = s.stops.isRaised j := by
  unfold handProfile
  split <;> split <;> split <;> simp <;> split <;> simp

section Conditions

variable {j : StopSource} (hj : j.isCommand = false)
include hj

theorem isRaised_lowerCommands (s : State) : (lowerCommands s).stops.isRaised j = s.stops.isRaised j := by
  have hne : .fohStop ≠ j ∧ .mdStop ≠ j ∧ .smStop ≠ j := by
    refine ⟨?_, ?_, ?_⟩ <;> (rintro rfl; cases hj)
  obtain ⟨hfoh, hmd, hsm⟩ := hne
  rw [lowerCommands, isRaised_setRaised, if_neg hfoh, isRaised_setRaised, if_neg hmd, isRaised_setRaised, if_neg hsm]

theorem isRaised_pushed (i : StopSource) (s : State) : (pushed i s).stops.isRaised j = s.stops.isRaised j := by
  unfold pushed
  dsimp only
  rw [isRaised_setStopState, isRaised_setHoldOff]
  split
  · next hi =>
    rw [isRaised_setRaised, if_neg (by rintro rfl; rw [hj] at hi; cases hi)]
    simp
  · simp

theorem isRaised_takeStop (i : StopSource) (s : State) : (takeStop i s).stops.isRaised j = s.stops.isRaised j := by
  rw [takeStop_eq, isRaised_handProfile, isRaised_pushed hj]

theorem isRaised_sampleOnce (c : Bool) (s : State) : (sampleOnce c s).stops.isRaised j = s.stops.isRaised j := by
  unfold sampleOnce
  split
  · split
    · exact isRaised_takeStop hj _ s
    · rfl
  · rfl

theorem isRaised_sample (c : Bool) (s : State) : (sample c s).stops.isRaised j = s.stops.isRaised j := by
  unfold sample
  dsimp only
  split
  · rw [isRaised_sampleOnce hj, isRaised_sampleOnce hj]
  · exact isRaised_sampleOnce hj c s

theorem isRaised_halt (i : StopSource) (s : State) : (halt i s).stops.isRaised j = s.stops.isRaised j := by
  unfold halt
  dsimp only
  simp only [isRaised_setStopState, setFrozen_keeps, handSafes_keeps, isRaised_cutClick, isRaised_setHoldOff,
    isRaised_lowerCommands hj, notify_keeps]
  rfl

theorem isRaised_afterRaising (i : StopSource) (s : State) : (afterRaising i s).stops.isRaised j = s.stops.isRaised j := by
  unfold afterRaising
  split
  · rfl
  · split
    · exact isRaised_halt hj i s
    · exact isRaised_sample hj false s

/-- A condition source is raised after its raising, whatever that leads to. -/
theorem isRaised_raiseCondition (s : State) : (raiseCondition j s).stops.isRaised j = true := by
  unfold raiseCondition
  split
  · assumption
  · rw [isRaised_afterRaising hj, isRaised_setRaised, if_pos rfl]

theorem isRaised_announceBeat (c : Bool) (b : Beat) (s : State) :
    (announceBeat c b s).stops.isRaised j = s.stops.isRaised j := by
  have hcount : (if (announceOutputs b s).stops.holdOff = 0 then announceOutputs b s
      else setHoldOff ((announceOutputs b s).stops.holdOff - 1) (announceOutputs b s)).stops.isRaised j =
      s.stops.isRaised j := by
    split
    · simp
    · rw [isRaised_setHoldOff]
      simp
  unfold announceBeat
  dsimp only
  cases c
  · split
    · rw [(forceVisits_keeps _).2.2.2.2.2.2.2.2.1]
      exact hcount
    · exact hcount
  · split
    · rw [(forceVisits_keeps _).2.2.2.2.2.2.2.2.1]
      exact (isRaised_sample hj true _).trans hcount
    · exact (isRaised_sample hj true _).trans hcount

theorem isRaised_commitBeat (c : Bool) (s : State) : (commitBeat c s).stops.isRaised j = s.stops.isRaised j := by
  cases ho : s.beats.nextOnset with
  | none => rw [commitBeat_of_none ho]
  | some o => simp [commitBeat_of_onset ho, isRaised_announceBeat hj]

theorem isRaised_startClick (c : Bool) (n b : Nat) (s : State) :
    (startClick c n b s).stops.isRaised j = s.stops.isRaised j := by
  by_cases hidle : s.beats.click = .idle
  · rw [startClick_of_idle hidle, isRaised_commitBeat hj]
    simp [started]
  · rw [startClick_of_not_idle hidle]

theorem isRaised_takeClick (a : ClickAction) (s : State) : (takeClick a s).stops.isRaised j = s.stops.isRaised j := by
  cases a with
  | keep => rfl
  | start n =>
    show (if s.beats.click = .finishing then startIgnored s else startClick true n 1 s).stops.isRaised j = _
    split
    · simp
    · exact isRaised_startClick hj true n 1 s
  | stop => simp [takeClick]
  | cut =>
    show (cueCut s).stops.isRaised j = _
    unfold cueCut
    dsimp only
    split
    · exact isRaised_cutClick s j
    · exact (isRaised_sample hj false _).trans (isRaised_cutClick s j)

theorem isRaised_takeCue (c : Cue) (s : State) : (takeCue c s).stops.isRaised j = s.stops.isRaised j := by
  unfold takeCue
  dsimp only
  simp [isRaised_takeClick hj]

theorem isRaised_takeArmedIfIdle (s : State) : (takeArmedIfIdle s).stops.isRaised j = s.stops.isRaised j := by
  unfold takeArmedIfIdle
  split
  · split
    · exact isRaised_takeCue hj _ s
    · rfl
  · rfl

omit hj in
theorem isRaised_endRun (s : State) : (endRun s).stops.isRaised j = s.stops.isRaised j := by
  obtain ⟨x, -, hstops⟩ := endRun_stops s
  rw [hstops]
  rfl

omit hj in
theorem isRaised_afterPops (s : State) : (afterPops s).stops.isRaised j = s.stops.isRaised j := by
  unfold afterPops
  dsimp only
  split
  · rw [isRaised_endRun]
    rfl
  · rfl

theorem isRaised_popTest (s : State) : (popTest s).stops.isRaised j = s.stops.isRaised j := by
  rw [popTest_eq]
  split
  · rfl
  · split
    · rw [isRaised_takeArmedIfIdle hj, isRaised_sample hj, isRaised_afterPops]
    · rw [isRaised_sample hj, isRaised_afterPops]

/-- A condition source is lowered after its lowering, whatever that leads to. -/
theorem isRaised_lowerCondition (s : State) : (lowerCondition j s).stops.isRaised j = false := by
  unfold lowerCondition
  split
  · rw [isRaised_popTest hj, isRaised_setRaised, if_pos rfl]
  · next h => simpa using h

end Conditions

/-! ## The count-in of a resume

A take suspends a resume and a run that ends may begin one; neither writes the resume count-in (R183, R184). -/

@[simp] theorem countIn_suspendResume (s : State) : (suspendResume s).resume.countIn = s.resume.countIn := by
  unfold suspendResume
  split <;> rfl

@[simp] theorem countIn_takeStop (i : StopSource) (s : State) : (takeStop i s).resume.countIn = s.resume.countIn := by
  have hpushed : (pushed i s).resume.countIn = s.resume.countIn := by
    unfold pushed
    dsimp only
    split <;> simp
  rw [takeStop_eq, (handProfile_keeps _ _ _).2.2.2.1]
  exact hpushed

@[simp] theorem countIn_sampleOnce (c : Bool) (s : State) : (sampleOnce c s).resume.countIn = s.resume.countIn := by
  unfold sampleOnce
  split
  · split
    · exact countIn_takeStop _ s
    · rfl
  · rfl

@[simp] theorem countIn_sample (c : Bool) (s : State) : (sample c s).resume.countIn = s.resume.countIn := by
  unfold sample
  dsimp only
  split <;> simp

@[simp] theorem countIn_announceBeat (c : Bool) (b : Beat) (s : State) :
    (announceBeat c b s).resume.countIn = s.resume.countIn := by
  unfold announceBeat
  dsimp only
  split <;> cases c <;> simp <;> split <;> simp

@[simp] theorem countIn_takeCue (c : Cue) (s : State) : (takeCue c s).resume.countIn = s.resume.countIn := by
  have hcommit : ∀ b u, (commitBeat b u).resume.countIn = u.resume.countIn := by
    intro b u
    cases ho : u.beats.nextOnset with
    | none => rw [commitBeat_of_none ho]
    | some o => simp [commitBeat_of_onset ho]
  have hclick : ∀ a u, (takeClick a u).resume.countIn = u.resume.countIn := by
    intro a u
    cases a with
    | keep => rfl
    | start n =>
      show (if u.beats.click = .finishing then startIgnored u else startClick true n 1 u).resume.countIn = _
      split
      · simp
      · by_cases hidle : u.beats.click = .idle
        · simp [startClick_of_idle hidle, hcommit, started]
        · rw [startClick_of_not_idle hidle]
    | stop => simp [takeClick]
    | cut =>
      show (cueCut u).resume.countIn = _
      unfold cueCut
      dsimp only
      split <;> simp
  unfold takeCue
  dsimp only
  simp [hclick]

@[simp] theorem countIn_takeArmedIfIdle (s : State) : (takeArmedIfIdle s).resume.countIn = s.resume.countIn := by
  unfold takeArmedIfIdle
  split
  · split <;> simp
  · rfl

@[simp] theorem countIn_endRun (s : State) : (endRun s).resume.countIn = s.resume.countIn := by
  unfold endRun
  split
  · unfold issueRestores
    rw [keep_foldl (fun t : State => t.resume.countIn) restoreSlot _ _ fun t k => ?_]
    · simp
    · unfold restoreSlot
      dsimp only
      split
      · rfl
      · split <;> simp
  · split <;> simp

@[simp] theorem countIn_lowerCondition (i : StopSource) (s : State) :
    (lowerCondition i s).resume.countIn = s.resume.countIn := by
  have hpops : ∀ u, (afterPops u).resume.countIn = u.resume.countIn := by
    intro u
    unfold afterPops
    dsimp only
    split <;> simp
  unfold lowerCondition
  split
  · rw [popTest_eq]
    split
    · simp
    · split <;> simp [hpops]
  · rfl

/-! ## A kind stays pending -/

/-- A port's mask is `m`, and the port holds a kind pending where its mask holds it. -/
def KindPending (k : NoticeKind) (q : DeskPort) (m : BitVec 8) (s : State) : Prop :=
  (s.port q).mask = m ∧ (m &&& k.bit = k.bit → (s.port q).pendingSet &&& k.bit = k.bit)

theorem KindPending.congr {k : NoticeKind} {q : DeskPort} {m : BitVec 8} {s t : State} (h : KindPending k q m s)
    (hd : t.desk = s.desk) : KindPending k q m t := by
  unfold KindPending
  rwa [port_congr hd]

theorem or_and_of_and {x y b : BitVec 8} (h : x &&& b = b) : (x ||| y) &&& b = b := by
  ext i hi
  have hbit := congrArg (fun v : BitVec 8 => v[i]) h
  simp only [BitVec.getElem_and, BitVec.getElem_or] at hbit ⊢
  cases hb : b[i] <;> simp_all

/-- A notice makes its kind pending wherever the mask holds it. -/
theorem kindPending_notify (k : NoticeKind) (q : DeskPort) (s : State) :
    KindPending k q (s.port q).mask (notify k s) := by
  rw [KindPending, port_notify]
  refine ⟨rfl, fun hmask => ?_⟩
  rw [DeskPortRec.addKinds, hmask, BitVec.or_comm]
  exact or_and_of_and BitVec.and_self

/-- A kind that is pending stays so under everything but the writes of the desk's records. -/
theorem kindPending_untimed (k : NoticeKind) (q : DeskPort) (m : BitVec 8) : Untimed (KindPending k q m) where
  notify j s hs := by
    rw [KindPending, port_notify]
    exact ⟨hs.1, fun hmask => or_and_of_and (hs.2 hmask)⟩
  time _ _ hs := hs.congr rfl
  pointer _ _ hs := hs.congr rfl
  overlay _ _ hs := hs.congr rfl
  resume _ _ hs := hs.congr rfl
  clicks _ _ _ _ hs := hs.congr rfl
  rigs _ _ _ hs := hs.congr rfl
  picture _ _ _ hs := hs.congr rfl
  stops _ _ _ hs := hs.congr rfl
  anyTempo _ _ hs := hs.congr rfl
  anyBeats _ _ hs := hs.congr rfl
  noHoldOff _ hs := hs.congr rfl
  anyStops _ _ hs := hs.congr rfl
  session _ _ hs := hs.congr rfl

theorem Untimed.of_popTest {I : State → Prop} (h : Untimed I) {s : State} (hs : I s) : I (popTest s) := by
  have hp := h.keptByCues.of_sample false (h.toStopFree.of_afterPops hs)
  rw [popTest_eq]
  exact ite_keeps hs (ite_keeps (h.keptByCues.of_takeArmedIfIdle hp) hp)

theorem Untimed.of_lowerCondition {I : State → Prop} (h : Untimed I) (i : StopSource) {s : State} (hs : I s) :
    I (lowerCondition i s) := ite_keeps (h.of_popTest (h.of_setRaised i false hs)) hs

/-! ## The show-clock sample -/

/-- The gain table holds the integers nearest to 32,767 × 10^(−d/20) (R52). -/
theorem gainOf_nearest : ∀ d : Fin 64, (2 * gainOf d - 1) ^ 20 * 10 ^ d.val < (2 * 32767) ^ 20 ∧
    (2 * 32767) ^ 20 < (2 * gainOf d + 1) ^ 20 * 10 ^ d.val := by decide +kernel

theorem saturate_eq_self_iff (x : Int) : saturate x = x ↔ -8388608 ≤ x ∧ x ≤ 8388607 := by
  unfold saturate sampleMin sampleMax
  omega

theorem voiceStep_eq (v : Option Playing) :
    voiceStep v = v.bind fun p => if p.pos + 1 < p.length then some { p with pos := p.pos + 1 } else none := by
  cases v <;> rfl

/-- Settles O8: the sample is mixed lane by lane, the clock advances, and the relay input is timed. -/
theorem sampleCounted : Obligations.SampleCounted := by
  refine ⟨rfl, fun d hd => gainOf_nearest ⟨d, by omega⟩, fun closed s => ⟨_, rfl, ?_, ?_, fun i => ⟨?_, ?_⟩, ?_, ?_, ?_⟩⟩
  · cases hsource : s.time.source <;> simp [countSample, Timebase.missPeriod, hsource, ClickGen.mix, Stops.observeRelay]
  · cases hsource : s.time.source <;> simp [countSample, Timebase.missPeriod, hsource, Config.holdoverPeriods]
  · exact tget_tmap _ _ i
  · have hlane : ({ s.clicks.mix with } : ClickGen).lane i = (s.clicks.lane i).afterSample s.clicks.memory :=
      tget_tmap _ _ i
    show ClickGen.lane s.clicks.mix i = _
    rw [hlane, Lane.afterSample, voiceStep_eq, voiceStep_eq]
    simp only [saturate_eq_self_iff, Lane.sum]
  · intro h
    simp [countSample, Stops.observeRelay, h]
  · intro h hrun
    simp [countSample, Stops.observeRelay, h, hrun]
  · intro n h hrun
    simp [countSample, Stops.observeRelay, h, hrun, Config.relayHold]

/-! ## The word clock -/

theorem goodInterval_iff (interval : Nat) : goodInterval interval = true ↔ 970000 ≤ interval ∧ interval ≤ 1030000 := by
  rw [goodInterval, Bool.and_eq_true, decide_eq_true_eq, decide_eq_true_eq]
  rfl

/-- The edge that qualifies the word clock (R3). -/
theorem qualifies_iff (interval : Nat) (t : Timebase) :
    t.qualifies interval = true ↔ t.source = .internal ∧ t.edgeSeen = true ∧ (970000 ≤ interval ∧ interval ≤ 1030000) ∧
      48000 ≤ t.goodEdges + 1 := by
  simp [Timebase.qualifies, goodInterval_iff, Config.qualifyEdges, and_assoc]

/-- An edge that does not qualify is counted while the source is INTERNAL. -/
theorem execWordClockEdge_internal {interval : Nat} {closed : Bool} {s : State} (hsource : s.time.source = .internal)
    (hq : s.time.qualifies interval = false) :
    exec (.wordClockEdge interval closed) s = .next { s with time := s.time.countEdge interval } := by
  show execWordClockEdge interval closed s = _
  rw [execWordClockEdge, hsource]
  simp [hq]

/-- Settles O10, by the source and the interval. -/
theorem wordClockEdges : Obligations.WordClockEdges := by
  refine ⟨fun interval closed s => ?_, fun s => ⟨fun h => ?_, fun h => ?_⟩⟩
  · cases hsource : s.time.source with
    | internal =>
      obtain ⟨t, ht⟩ := exec_next (.wordClockEdge interval closed) s
      refine ⟨t, ht, fun _ hseen => ?_, fun _ hseen hlow hhigh hcount => ?_, fun _ hseen hbad => ?_, fun h => (by cases h),
        fun h => (by cases h)⟩
      all_goals
        have hq : s.time.qualifies interval = false := by
          rw [Bool.eq_false_iff, Ne, qualifies_iff]
          rintro ⟨-, hseen', hgood, hedges⟩
          first | omega | (rw [hseen] at hseen'; cases hseen')
        rw [execWordClockEdge_internal hsource hq] at ht
        obtain rfl := Host.Outcome.next.inj ht
      · simp [Timebase.countEdge, hseen]
      · simp [Timebase.countEdge, hseen, (goodInterval_iff interval).mpr ⟨hlow, hhigh⟩]
      · have hgood : goodInterval interval = false := by
          rw [Bool.eq_false_iff, Ne, goodInterval_iff]
          omega
        simp [Timebase.countEdge, hseen, hgood]
    | word =>
      refine ⟨if interval < 500000 then s else
        { countSample closed s with time := { (countSample closed s).time with missed := 0 } }, ?_,
        fun h => (by cases h), fun h => (by cases h), fun h => (by cases h), fun _ h => if_pos h, fun _ h => ?_⟩
      · show execWordClockEdge interval closed s = _
        rw [execWordClockEdge, hsource]
        exact (apply_ite Host.Outcome.next _ _ _).symm
      · rw [if_neg (by omega)]
        refine ⟨rfl, ?_⟩
        show execShowClockSample closed s = _
        simp [execShowClockSample, countSample, Timebase.missPeriod, hsource, Config.holdoverPeriods]
  · show execWordClockSilence s = _
    rw [execWordClockSilence, h]
  · show execWordClockSilence s = _
    rw [execWordClockSilence, h]

/-! ## The switches of the source -/

/-- What the switch to WORD leaves (R3, R5). -/
theorem qualifyWord_spec (closed : Bool) (s : State) :
    let t := qualifyWord closed s
    t.time = { s.time with clock := s.time.clock + 1, source := .word, wordSeen := true, goodEdges := 0, missed := 0 } ∧
      t.stops.isRaised .clock = false ∧ t.tables = s.tables ∧ t.resume.countIn = s.resume.countIn ∧
      ∀ q, KindPending .clock q (s.port q).mask t := by
  unfold qualifyWord
  dsimp only
  refine ⟨?_, isRaised_lowerCondition rfl _, by simp, by simp,
    fun q => (kindPending_untimed .clock q _).of_lowerCondition .clock (kindPending_notify .clock q _)⟩
  simp [countSample, Timebase.toWord]

/-- What the switch to INTERNAL leaves (R4, R5). -/
theorem holdover_spec (s : State) :
    let t := raiseCondition .clock (notify .clock { s with time := s.time.toInternal })
    t.time = { s.time with
        source := .internal, holdovers := min (s.time.holdovers + 1) 65535, goodEdges := 0, edgeSeen := false } ∧
      t.stops.isRaised .clock = true ∧ t.tables = s.tables ∧ ∀ q, KindPending .clock q (s.port q).mask t := by
  refine ⟨?_, isRaised_raiseCondition rfl _, by simp,
    fun q => (kindPending_untimed .clock q _).keptByCues.of_raiseCondition .clock (kindPending_notify .clock q _)⟩
  simp [Timebase.toInternal, countUp]

/-- Settles O11: the edge that qualifies, and the fourth period without an edge. -/
theorem clockSourceSwitches : Obligations.ClockSourceSwitches := by
  refine ⟨fun interval closed s => ⟨fun hsource hseen hlow hhigh hcount => ?_, fun hnot => ?_⟩,
    fun s => ⟨fun hsource hmissed => ?_, fun hnot => ?_⟩⟩
  · have hq := (qualifies_iff interval s.time).mpr ⟨hsource, hseen, ⟨hlow, hhigh⟩, hcount⟩
    obtain ⟨htime, hraised, htables, hcountIn, hkind⟩ := qualifyWord_spec closed s
    refine ⟨qualifyWord closed s, ?_, ?_, htime, hraised, htables, hcountIn, fun q => (hkind q).2⟩
    · show execWordClockQualified interval closed s = _
      rw [execWordClockQualified, if_pos hq]
    · show execWordClockEdge interval closed s = _
      rw [execWordClockEdge, hsource]
      exact if_pos hq
  · have hq : ¬ s.time.qualifies interval = true := by
      rw [qualifies_iff]
      rintro ⟨hsource, hseen, hgood, hcount⟩
      rcases hnot with h | h | h | h | h
      · rw [hsource] at h; cases h
      · rw [hseen] at h; cases h
      all_goals omega
    show execWordClockQualified interval closed s = _
    rw [execWordClockQualified, if_neg hq]
  · obtain ⟨htime, hraised, htables, hkind⟩ := holdover_spec s
    refine ⟨_, ?_, htime, hraised, htables, fun q => (hkind q).2⟩
    show execHoldover s = _
    rw [execHoldover, hsource]
    exact if_pos hmissed
  · show execHoldover s = _
    rw [execHoldover]
    split
    · next hsource =>
      rw [if_neg]
      rcases hnot with h | h
      · rw [hsource] at h; cases h
      · simp only [Config.holdoverPeriods]; omega
    · rfl

end Sys2Proof.Machine
end

section
/-!
PROOFS. The item writes that pass the checks of R190 and R196, and the tempo commands and sticky flags (R9 to R15, R34, R88).
-/

namespace Sys2Proof.Machine
set_option Elab.async false

/-! ## Item writes that reach their owner -/

/-- An item write that passes the checks of R190 and R196, so that its owner decides it. -/
structure Reaches (item : Item) (w : FlagOp) (r : Req) (i : Byte) (rest : List Byte) (s : State) : Prop where
  free : Free r s
  form : opFormOk (opOfFlag w) rest = true
  inst : i.toNat < item.instances
  flag : w = .swap ∨ (item.isFlag = true ∧ rest ≠ [0])
  writable : item.writers ≠ .roles []
  may : item.mayWrite r.port i.toNat s = true

/-- A port that holds one of the roles that write an item may write it. -/
theorem mayWrite_of_role {item : Item} {l : List Role} {role : Role} {p : DeskPort} {i : Nat} {s : State}
    (hw : item.writers = .roles l) (hrole : (s.port p).role = some role) (hl : l.contains role = true) :
    item.mayWrite p i s = true := by
  unfold Item.mayWrite
  rw [hw]
  exact holds_of_role hrole hl

/-- A SWAP from a port of a role that writes the item reaches its owner. -/
theorem Reaches.swap {item : Item} {l : List Role} {role : Role} {r : Req} {i : Byte} {rest : List Byte} {s : State}
    (hw : item.writers = .roles l) (hi : i.toNat < item.instances) (h : Free r s) (hrole : FromRole role r s)
    (hl : l.contains role = true) : Reaches item .swap r i rest s where
  free := h
  form := rfl
  inst := hi
  flag := .inl rfl
  writable := by rw [hw]; rintro ⟨⟩; cases hl
  may := mayWrite_of_role hw hrole hl

/-- A write of a flag item of one byte, but for the pure read that a zero mask is. -/
theorem Reaches.mask {item : Item} {l : List Role} {role : Role} {r : Req} {i v : Byte} {w : FlagOp} {s : State}
    (hw : item.writers = .roles l) (hi : i.toNat < item.instances) (hflag : item.isFlag = true) (h : Free r s)
    (hrole : FromRole role r s) (hl : l.contains role = true) (hv : w = .swap ∨ v ≠ 0) : Reaches item w r i [v] s where
  free := h
  form := by cases w <;> rfl
  inst := hi
  flag := hv.imp id fun hv => ⟨hflag, fun he => hv (List.cons.inj he).1⟩
  writable := by rw [hw]; rintro ⟨⟩; cases hl
  may := mayWrite_of_role hw hrole hl

section Reaches

variable {item : Item} {w : FlagOp} {r : Req} {i : Byte} {rest : List Byte} {s : State} (h : Reaches item w r i rest s)
include h

theorem Reaches.value_validFrame : item.value i.toNat (validFrame r.port s) = item.value i.toNat s :=
  Machine.value_validFrame (fun he => h.writable (by rw [he]; rfl)) _ _ _

/-- A write that its owner refuses changes nothing but the desk, and returns no value. -/
theorem Reaches.refused {code : ReplyCode} (hcode : code ≠ .ok ∧ code ≠ .clamped)
    (ho : item.store w i.toNat rest (validFrame r.port s) = refuse code (validFrame r.port s)) :
    let t := itemRequest item (opOfFlag w) r i rest s
    t = { s with desk := t.desk } ∧ Served r code [] 0 s t := by
  intro t
  obtain ⟨hstate, hserved⟩ := write_served 0 h.free h.form h.inst h.flag h.writable h.may ho
    fun _ => (addKinds_zero _).symm
  rw [if_neg (by simp [hcode])] at hserved
  exact ⟨hstate.trans (validFrame_desk ..), hserved⟩

/-- A write that its owner accepts: the next state is the one it leaves, a kind is pending where something changed, and
the reply carries the old value. -/
theorem Reaches.accepted {clamp changed : Bool} {k : NoticeKind} {u : State}
    (ho : item.store w i.toNat rest (validFrame r.port s) = acceptIf clamp (notifyIf changed k u))
    (hu : u.desk = (validFrame r.port s).desk) :
    let t := itemRequest item (opOfFlag w) r i rest s
    t = { u with desk := t.desk } ∧
      Served r (if clamp then .clamped else .ok) (item.value i.toNat s) (kindIf changed k) s t := by
  intro t
  obtain ⟨hstate, hserved⟩ := write_served (kindIf changed k) h.free h.form h.inst h.flag h.writable h.may ho
    fun q => notifyIf_validFrame r.port q changed k s hu
  rw [h.value_validFrame] at hserved
  refine ⟨hstate.trans (by rw [notifyIf_eq]), ?_⟩
  cases clamp <;> exact hserved

/-- An accepted write that makes no kind pending. -/
theorem Reaches.accepted_quietly {u : State}
    (ho : item.store w i.toNat rest (validFrame r.port s) = accept u) (hu : u.desk = (validFrame r.port s).desk) :
    let t := itemRequest item (opOfFlag w) r i rest s
    t = { u with desk := t.desk } ∧ Served r .ok (item.value i.toNat s) 0 s t :=
  h.accepted (clamp := false) (changed := false) (k := .cue) ho hu

end Reaches

/-! ## Commands that reach their owner -/

section Command

variable {α : Type} {r : Req} {roles : List Role} {decode : List Byte → Option α} {payload : List Byte}
  {owner : α → State → Answer} {s : State} {a : α} {role : Role} (h : Free r s) (hrole : FromRole role r s)
  (hr : roles.contains role = true) (hd : decode payload = some a)
include h hrole hr hd

/-- A command that its owner accepts: the next state is the one it leaves, and a kind is pending where something changed. -/
theorem command_accepted {clamp changed : Bool} {k : NoticeKind} {u : State}
    (ho : owner a (validFrame r.port s) = acceptIf clamp (notifyIf changed k u))
    (hu : u.desk = (validFrame r.port s).desk) :
    let t := command r roles decode payload owner s
    t = { u with desk := t.desk } ∧ Served r (if clamp then .clamped else .ok) [] (kindIf changed k) s t := by
  intro t
  obtain ⟨hstate, hserved⟩ := command_served (kindIf changed k) h hrole hr hd ho
    fun q => notifyIf_validFrame r.port q changed k s hu
  exact ⟨hstate.trans (by rw [notifyIf_eq]), hserved⟩

/-- A command whose owner changes nothing. -/
theorem command_quiet {code : ReplyCode} {value : List Byte}
    (ho : owner a (validFrame r.port s) = ⟨⟨code, value⟩, validFrame r.port s⟩) :
    let t := command r roles decode payload owner s
    t = { s with desk := t.desk } ∧ Served r code value 0 s t := by
  intro t
  obtain ⟨hstate, hserved⟩ := command_served 0 h hrole hr hd ho fun _ => (addKinds_zero _).symm
  exact ⟨hstate.trans (validFrame_desk ..), hserved⟩

end Command

/-! ## Tempo -/

/-- A state that differs in its tempo and desk alone. -/
theorem frame_tempo {s t : State} {x : TempoState} (h : t = { s with tempo := x, desk := t.desk }) :
    t = { s with tempo := t.tempo, desk := t.desk } := by
  have hx : t.tempo = x := congrArg State.tempo h
  rw [hx]
  exact h

/-- The tempo state after a SET TEMPO in any mode (R12). -/
theorem setTempo_eq (v : Nat) (t : TempoState) :
    t.setTempo v =
      { mode := .live, current := clampTempo v, live := clampTempo v, taps := [],
        ramp := if t.mode = .live then t.ramp else none, clamped := t.clamped || outOfTempo v } := by
  rw [TempoState.setTempo, toLive_setLive]

/-- Settles O13: SET TEMPO and the SWAP of live_tempo leave the same tempo state. -/
theorem tempoSet : Obligations.TempoSet := by
  intro r a b s hfree hmd v clamp tempo changed
  have htempo : s.tempo.setTempo (word2 a b) = tempo := by
    rw [setTempo_eq, outOfTempo_eq]
    rfl
  have hclamp : outOfTempo (word2 a b) = decide clamp := outOfTempo_eq (word2 a b)
  have hs : (validFrame r.port s).tempo = s.tempo := by simp
  constructor
  · have howner : ownSetTempo (word2 a b) (validFrame r.port s) =
        acceptIf (decide clamp) (setTempoState tempo (validFrame r.port s)) := by
      rw [ownSetTempo, hs, htempo, hclamp]
    obtain ⟨hstate, hserved⟩ := tempo_command_served (decode := payload2) (payload := [a, b]) (owner := ownSetTempo)
      hfree hmd rfl howner
    refine ⟨_, rfl, hstate, ?_⟩
    simpa only [tempo, ne_or_decide_iff, decide_eq_true_eq] using hserved
  · have hreach : Reaches .liveTempo .swap r 0 [a, b] s := .swap (l := [.md]) rfl (by decide) hfree hmd rfl
    have howner : Item.liveTempo.store .swap (0 : Byte).toNat [a, b] (validFrame r.port s) =
        acceptIf (decide clamp) (notifyIf (s.tempo.differs tempo || s.tempo.clamped != tempo.clamped) .tempo
          { validFrame r.port s with tempo := tempo }) := by
      show acceptIf (outOfTempo (word2 a b)) (setTempoState ((validFrame r.port s).tempo.setTempo (word2 a b)) _) = _
      rw [hs, htempo, hclamp, setTempoState, hs]
    obtain ⟨hstate, hserved⟩ := hreach.accepted howner rfl
    refine ⟨_, rfl, hstate, ?_⟩
    rw [differs_or_clamped] at hserved
    simp only [tempo, ne_or_decide_iff, decide_eq_true_eq] at hserved
    exact hserved

/-! ## TAP -/

theorem tapList_restart {now : Nat} {taps : List Nat}
    (h : taps = [] ∨ ∃ newest, taps.getLast? = some newest ∧ 144000 < now - newest) : tapList now taps = some [now] := by
  unfold tapList
  rcases h with rfl | ⟨newest, hlast, hlate⟩
  · rfl
  · rw [hlast]
    dsimp only
    rw [if_neg (by simp only [Config.tapMin]; omega), if_pos (by simp only [Config.tapMax]; omega)]

theorem tapList_bounce {now newest : Nat} {taps : List Nat} (hlast : taps.getLast? = some newest)
    (hbounce : now - newest < 5760) : tapList now taps = none := by
  unfold tapList
  rw [hlast]
  exact if_pos hbounce

theorem tapList_append {now newest : Nat} {taps : List Nat} (hlast : taps.getLast? = some newest)
    (hlow : 5760 ≤ now - newest) (hhigh : now - newest ≤ 144000) :
    tapList now taps = some (if 5 < (taps ++ [now]).length then (taps ++ [now]).tail else taps ++ [now]) := by
  unfold tapList
  rw [hlast]
  dsimp only
  rw [if_neg (by simp only [Config.tapMin]; omega), if_neg (by simp only [Config.tapMax]; omega), List.drop_one]
  rfl

/-- A list that a tap joins ends in that tap, and holds two or more. -/
theorem tapped_list {now newest : Nat} {taps : List Nat} (hlast : taps.getLast? = some newest) :
    let l := if 5 < (taps ++ [now]).length then (taps ++ [now]).tail else taps ++ [now]
    2 ≤ l.length ∧ l.getLast? = some now := by
  intro l
  have hne : taps ≠ [] := by rintro rfl; cases hlast
  obtain ⟨x, xs, rfl⟩ := List.exists_cons_of_ne_nil hne
  simp only [l]
  split
  · next hlong =>
    simp only [List.cons_append, List.length_cons, List.length_append, List.length_nil, List.tail_cons] at hlong ⊢
    exact ⟨by omega, by simp⟩
  · simp only [List.length_append, List.length_cons, List.length_nil]
    exact ⟨by omega, List.getLast?_concat⟩

/-- The tempo state after a tap that leaves one entry: the mode is LIVE at the tempo being played (R12, R14). -/
theorem acceptTap_one (now : Nat) (t : TempoState) :
    t.acceptTap [now] =
      { t with mode := .live, live := if t.mode = .live then t.live else t.current, taps := [now],
               ramp := if t.mode = .live then t.ramp else none } := by
  cases h : t.mode <;> simp [TempoState.acceptTap, TempoState.toLive, h]

/-- The tempo state after a tap that leaves two or more entries: the tempo of their mean interval (R15). -/
theorem acceptTap_mean {taps : List Nat} (hlong : 2 ≤ taps.length) (t : TempoState) :
    t.acceptTap taps =
      { mode := .live, current := clampTempo (tapTempo (tapMean taps)), live := clampTempo (tapTempo (tapMean taps)),
        taps := taps, ramp := if t.mode = .live then t.ramp else none,
        clamped := t.clamped || outOfTempo (tapTempo (tapMean taps)) } := by
  unfold TempoState.acceptTap
  dsimp only
  rw [if_pos hlong]
  cases h : t.mode <;> simp [TempoState.toLive, TempoState.setLive, h]

/-- Settles O15, by what the tap makes of the tap list. -/
theorem tempoTapped : Obligations.TempoTapped := by
  intro r s hfree hmd played ramp
  have hs : (validFrame r.port s).tempo = s.tempo := by simp
  have hnow : (validFrame r.port s).now = s.now := by simp
  have htap : ∀ taps, tapList s.now s.tempo.taps = some taps → ownTap (validFrame r.port s) =
      acceptIf (tapClamps taps) (setTempoState (s.tempo.acceptTap taps) (validFrame r.port s)) := by
    intro taps htaps
    rw [ownTap, hnow, hs, htaps]
  have hserve := fun taps htaps => tempo_command_served (decode := payloadNone) (payload := [])
    (owner := fun _ => ownTap) hfree hmd rfl (htap taps htaps)
  have hbounced : tapList s.now s.tempo.taps = none →
      let t := command r [.md] payloadNone [] (fun _ => ownTap) s
      t = { s with desk := t.desk } ∧ Served r .ok [] 0 s t := by
    intro htaps
    have howner : ownTap (validFrame r.port s) = accept (validFrame r.port s) := by rw [ownTap, hnow, hs, htaps]
    exact command_quiet (decode := payloadNone) (payload := []) (owner := fun _ => ownTap) hfree hmd rfl rfl howner
  refine ⟨_, rfl, ?_, fun hrestart => ?_, fun newest hlast hbounce => ?_, fun newest hlast hlow hhigh => ?_⟩
  · cases htaps : tapList s.now s.tempo.taps with
    | none => exact frame_tempo (hbounced htaps).1
    | some taps => exact frame_tempo (hserve taps htaps).1
  · obtain ⟨hstate, hserved⟩ := hserve [s.now] (tapList_restart hrestart)
    rw [acceptTap_one] at hstate hserved
    refine ⟨congrArg State.tempo hstate, ?_⟩
    have hchanged : (s.tempo.mode ≠ .live ∨ s.tempo.current ≠ s.tempo.current ∨ s.tempo.live ≠ played ∨
        s.tempo.clamped ≠ s.tempo.clamped) ↔ (s.tempo.mode ≠ .live ∨ s.tempo.live ≠ played) := by simp
    rw [decide_eq_decide.mpr hchanged] at hserved
    exact hserved
  · obtain ⟨hstate, hserved⟩ := hbounced (tapList_bounce hlast hbounce)
    exact ⟨(congrArg State.tempo hstate :), hserved⟩
  · intro all taps avg raw v
    obtain ⟨hlong, hend⟩ := tapped_list (now := s.now) hlast
    have hraw : tapTempo (tapMean taps) = raw := by
      rw [tapMean, hend]
      rfl
    obtain ⟨hstate, hserved⟩ := hserve taps (tapList_append hlast hlow hhigh)
    rw [acceptTap_mean hlong, hraw, outOfTempo_eq] at hstate hserved
    refine ⟨congrArg State.tempo hstate, ?_⟩
    have hclamps : tapClamps taps = decide (v ≠ raw) := by
      rw [tapClamps, decide_eq_true hlong, hraw, outOfTempo_eq]
      rfl
    simp only [ne_or_decide_iff] at hserved
    rw [show tapClamps _ = _ from hclamps] at hserved
    simp only [decide_eq_true_eq] at hserved
    exact hserved

/-! ## Sticky flags -/

/-- A write that clears a sticky flag: a SWAP of zero, or a CLEAR of the flag (R10). -/
theorem stickyWrite_clears {op : FlagOp} {v : Byte} (h : (op = .swap ∧ v = 0) ∨ (op = .clear ∧ v = 1)) :
    stickyWrite op [v] = .clears := by
  rcases h with ⟨rfl, rfl⟩ | ⟨rfl, rfl⟩ <;> rfl

/-- A write that may not be made: a SWAP of another value, a SET, or a CLEAR of a bit that names no flag (R10, R206). -/
theorem stickyWrite_outOfRange {op : FlagOp} {v : Byte}
    (h : (op = .swap ∧ v ≠ 0) ∨ (op = .set ∧ v ≠ 0) ∨ (op = .clear ∧ v ≠ 0 ∧ v ≠ 1)) :
    stickyWrite op [v] = .outOfRange := by
  rcases h with ⟨rfl, hv⟩ | ⟨rfl, hv⟩ | ⟨rfl, hv, hne⟩
  · exact if_neg hv
  · exact if_neg hv
  · exact (if_neg hv).trans (if_neg hne)

/-- Settles O16: the value and the operation of the write decide, for each of the three flags in the same way. -/
theorem stickyFlagsCleared : Obligations.StickyFlagsCleared := by
  intro r op v s hfree hmd
  have hreach : ∀ (item : Item) (l : List Role), item.writers = .roles l → 0 < item.instances → item.isFlag = true →
      l.contains .md = true → (op = .swap ∨ v ≠ 0) → Reaches item op r 0 [v] s := fun item l hw hi hflag hl hv =>
    .mask hw hi hflag hfree hmd hl hv
  refine ⟨fun hclears => ?_, fun hrange c hc => ?_⟩
  · have hsticky := stickyWrite_clears hclears
    have hv : op = .swap ∨ v ≠ 0 := hclears.imp And.left fun h => by rw [h.2]; decide
    refine ⟨⟨_, rfl, ?_⟩, ⟨_, rfl, ?_⟩, ⟨_, rfl, ?_⟩⟩
    · have howner : Item.tempoClamped.store op (0 : Byte).toNat [v] (validFrame r.port s) =
          acceptIf false (notifyIf s.tempo.clamped .tempo
            { validFrame r.port s with tempo := { s.tempo with clamped := false } }) := by
        show writeSticky op [v] _ _ = _
        rw [writeSticky, hsticky]
        simp [setTempoState, TempoState.differs, accept]
        rfl
      exact (hreach .tempoClamped _ rfl (by decide) rfl rfl hv).accepted howner rfl
    · have howner : Item.vampOverflow.store op (0 : Byte).toNat [v] (validFrame r.port s) =
          accept { validFrame r.port s with beats := { s.beats with overflow := false } } := by
        show writeSticky op [v] _ _ = _
        rw [writeSticky, hsticky]
        simp
      exact (hreach .vampOverflow _ rfl (by decide) rfl rfl hv).accepted_quietly howner rfl
    · have howner : Item.startIgnored.store op (0 : Byte).toNat [v] (validFrame r.port s) =
          accept { validFrame r.port s with pointer := { s.pointer with startIgnored := false } } := by
        show writeSticky op [v] _ _ = _
        rw [writeSticky, hsticky]
        simp
      exact (hreach .startIgnored _ rfl (by decide) rfl rfl hv).accepted_quietly howner rfl
  · have hsticky := stickyWrite_outOfRange hrange
    have hv : op = .swap ∨ v ≠ 0 := by
      rcases hrange with h | h | h
      · exact .inl h.1
      · exact .inr h.2
      · exact .inr h.2.1
    have hwrite : ∀ cleared, writeSticky op [v] cleared (validFrame r.port s) = refuse .range (validFrame r.port s) := by
      intro cleared
      rw [writeSticky, hsticky]
    rcases hc with rfl | rfl | rfl
    · exact ⟨_, rfl, (hreach .tempoClamped _ rfl (by decide) rfl rfl hv).refused (by decide) (hwrite _)⟩
    · exact ⟨_, rfl, (hreach .vampOverflow _ rfl (by decide) rfl rfl hv).refused (by decide) (hwrite _)⟩
    · exact ⟨_, rfl, (hreach .startIgnored _ rfl (by decide) rfl rfl hv).refused (by decide) (hwrite _)⟩

end Sys2Proof.Machine
end

section
/-!
PROOFS. The writes of the lane items, the sound sets, the rig slots and the counters (R41, R42, R45, R54, R69, R97, R119, R137,
R161, R199).
-/

namespace Sys2Proof.Machine
set_option Elab.async false

/-! ## Instances, sessions and values -/

theorem toNat_byteOf {n : Nat} (h : n < 256) : (byteOf n).toNat = n := by
  rw [byteOf, BitVec.toNat_ofNat, Nat.mod_eq_of_lt h]

section Instances

variable {n : Nat} (hn : n ≤ 256) (k : Fin n)
include hn

theorem toNat_byteOf_val : (byteOf k.val).toNat = k.val := toNat_byteOf (k.isLt.trans_le hn)

/-- The byte of a lane, slot, port or camera names it (R206). -/
theorem withInstance_byteOf (s : State) (act : Fin n → Answer) : withInstance n (byteOf k.val).toNat s act = act k := by
  rw [withInstance, toNat_byteOf_val hn, idx?_val]

theorem atInstance_byteOf (f : Fin n → List Byte) : atInstance n (byteOf k.val).toNat f = f k := by
  rw [atInstance, toNat_byteOf_val hn, idx?_val]

end Instances

@[simp] theorem inShow_validFrame (p : DeskPort) (s : State) : (validFrame p s).inShow = s.inShow := rfl

@[simp] theorem lane_validFrame (p : DeskPort) (s : State) : (validFrame p s).clicks.lane = s.clicks.lane := rfl

theorem unlessShow_show {act : Answer} {s : State} (h : s.inShow = true) : unlessShow act s = refuse .frozen s := if_pos h

theorem unlessShow_setup {act : Answer} {s : State} (h : s.inShow = false) : unlessShow act s = act := by
  rw [unlessShow, if_neg (by simp [h])]

theorem inRange_some {α : Type} {value : Option α} {a : α} {s : State} {act : α → Answer} (h : value = some a) :
    inRange value s act = act a := by rw [h]; rfl

theorem inRange_none {α : Type} {value : Option α} {s : State} {act : α → Answer} (h : value = none) :
    inRange value s act = refuse .range s := by rw [h]; rfl

theorem payload2_pair (a b : Byte) : payload2 [a, b] = some (word2 a b) := rfl

theorem bne_eq_decide_ne {α : Type} [BEq α] [LawfulBEq α] [DecidableEq α] (a b : α) : (a != b) = decide (a ≠ b) := by
  rw [Bool.eq_iff_iff]
  simp

/-- A write that is FROZEN in SHOW (R196). -/
theorem Reaches.frozen {item : Item} {w : FlagOp} {r : Req} {i : Byte} {rest : List Byte} {s : State} {act : Answer}
    (h : Reaches item w r i rest s) (hshow : s.inShow = true)
    (ho : item.store w i.toNat rest (validFrame r.port s) = unlessShow act (validFrame r.port s)) :
    let t := itemRequest item (opOfFlag w) r i rest s
    t = { s with desk := t.desk } ∧ Served r .frozen [] 0 s t :=
  h.refused (by decide) (ho.trans (unlessShow_show hshow))

/-! ## Lane items (R41, R42, R45) -/

theorem putLane_eq (k : LaneNo) (l : Lane) (s : State) :
    putLane k l s = notifyIf (decide (s.clicks.lane k ≠ l)) .table { s with clicks := s.clicks.setLane k l } := by
  rw [putLane, bne_eq_decide_ne]

theorem writeLaneField_stored {f : LaneField} {k : LaneNo} {v : List Byte} {u : State} {l : Lane} {clamp : Bool}
    (hsetup : u.inShow = false) (hw : (u.clicks.lane k).write f v = some (l, clamp)) :
    writeLaneField f k v u = acceptIf clamp (notifyIf (decide (u.clicks.lane k ≠ l)) .table
      { u with clicks := u.clicks.setLane k l }) := by
  rw [writeLaneField, unlessShow_setup hsetup, inRange_some hw, putLane_eq]

theorem writeLaneField_range {f : LaneField} {k : LaneNo} {v : List Byte} {u : State} (hsetup : u.inShow = false)
    (hw : (u.clicks.lane k).write f v = none) : writeLaneField f k v u = refuse .range u := by
  rw [writeLaneField, unlessShow_setup hsetup, inRange_none hw]

theorem writeSoundRole_stored {i : Fin 28} {v : List Byte} {u : State} {c : Option (Fin 16)} (hsetup : u.inShow = false)
    (hw : clipChoice v = some c) :
    writeSoundRole i v u = acceptIf false (notifyIf (decide (tget u.clicks.roles i ≠ c)) .table
      { u with clicks := { u.clicks with roles := tput u.clicks.roles i c } }) := by
  rw [writeSoundRole, unlessShow_setup hsetup, inRange_some hw, bne_eq_decide_ne]
  rfl

theorem writeSoundRole_range {i : Fin 28} {v : List Byte} {u : State} (hsetup : u.inShow = false)
    (hw : clipChoice v = none) : writeSoundRole i v u = refuse .range u := by
  rw [writeSoundRole, unlessShow_setup hsetup, inRange_none hw]

/-- A yes/no above 1 is none (R202). -/
theorem rdBool_none {n : Byte} (hn : 1 < n.toNat) (bs : List Byte) : rdBool (n :: bs) = none := by
  have h0 : n ≠ 0 := by rintro rfl; simp at hn
  have h1 : n ≠ 1 := by rintro rfl; simp at hn
  simp only [rdBool, if_neg h0, if_neg h1]

theorem accent_ofCode_none {n : Byte} (hn : 2 < n.toNat) : Accent.ofCode n = none := by
  have h0 : n ≠ 0 := by rintro rfl; simp at hn
  have h1 : n ≠ 1 := by rintro rfl; simp at hn
  have h2 : n ≠ 2 := by rintro rfl; simp at hn
  simp only [Accent.ofCode, if_neg h0, if_neg h1, if_neg h2]

/-- The values of a one-byte lane field that are not in its set. -/
theorem laneWrite_range {f : LaneField} {n : Byte} {l : Lane}
    (h : ((f = .enabled ∨ f = .countVoice) ∧ 1 < n.toNat) ∨ (f = .subdivision ∧ n.toNat ∉ [1, 2, 3, 4, 6]) ∨
      (f = .accent ∧ 2 < n.toNat) ∨ (f = .soundSet ∧ 3 < n.toNat)) : l.write f [n] = none := by
  rcases h with ⟨hf, hn⟩ | ⟨rfl, hn⟩ | ⟨rfl, hn⟩ | ⟨rfl, hn⟩
  · have hbool : whole rdBool [n] = none := by rw [whole, rdBool_none hn]
    rcases hf with rfl | rfl <;> simp only [Lane.write, hbool, Option.map_none]
  · exact if_neg (by simpa using hn)
  · have haccent : whole (rdEnum Accent.ofCode) [n] = none := by
      simp only [whole, rdEnum, accent_ofCode_none hn, Option.map_none]
    simp only [Lane.write, haccent, Option.map_none]
  · exact if_neg hn.not_ge

/-- The clip of a sound-set role written as its bytes (R45). -/
theorem clipChoice_some (c : Fin 16) : clipChoice [1, byteOf c.val] = some (some c) := by
  show (idx? 16 (byteOf c.val).toNat).map some = _
  rw [toNat_byteOf_val (by decide), idx?_val]
  rfl

theorem clipChoice_none {n : Byte} (h : 16 ≤ n.toNat) : clipChoice [1, n] = none := by
  show (idx? 16 n.toNat).map some = _
  rw [idx?_none h]
  rfl

/-- Settles O23: a lane item's value is stored where it is in its set, and a lane field and a role of a sound set are FROZEN
in SHOW. -/
theorem laneItemsWritten : Obligations.LaneItemsWritten := by
  refine ⟨fun r f k v s hfree hprog => ?_, fun r k n s hfree hrole => ?_, fun r i s hfree hprog => ?_⟩
  · intro l
    have hinst : (byteOf k.val).toNat < (Item.laneField f).instances := by
      rw [toNat_byteOf_val (by decide)]
      exact k.isLt
    have hreach : Reaches (.laneField f) .swap r (byteOf k.val) v s :=
      .swap (l := [.prog]) rfl hinst hfree hprog rfl
    have hstore : (Item.laneField f).store .swap (byteOf k.val).toNat v (validFrame r.port s) =
        writeLaneField f k v (validFrame r.port s) := withInstance_byteOf (by decide) k _ _
    have hvalue : (Item.laneField f).value (byteOf k.val).toNat s = laneFieldBytes f l := by
      simp [Item.value, Item.lowValue, Item.middleValue, Item.highValue, atInstance_byteOf, l]
    refine ⟨_, rfl, ?_⟩
    intro stored refused
    have hstored : s.inShow = false → ∀ {l' : Lane} {clamp : Bool}, l.write f v = some (l', clamp) →
        stored l' (if clamp then .clamped else .ok) := by
      intro hsetup l' clamp hw
      obtain ⟨hstate, hserved⟩ := hreach.accepted (hstore.trans (writeLaneField_stored hsetup hw)) rfl
      rw [hvalue] at hserved
      exact ⟨hstate, hserved⟩
    refine ⟨fun hshow => hreach.frozen hshow hstore, fun hsetup => ⟨?_, ?_, ?_, ?_, ?_, ?_, ?_⟩⟩
    · rintro b rfl rfl
      exact hstored hsetup (clamp := false) (by cases b <;> rfl)
    · rintro b rfl rfl
      exact hstored hsetup (clamp := false) (by cases b <;> rfl)
    · rintro n rfl rfl hn
      exact hstored hsetup (clamp := false) (if_pos (List.contains_iff_mem.mpr hn))
    · rintro a rfl rfl
      exact hstored hsetup (clamp := false) (by cases a <;> rfl)
    · rintro n rfl rfl hn
      exact hstored hsetup (clamp := false) (if_pos hn)
    · rintro a b rfl rfl
      have hlead := hstored hsetup (l' := { l with lead := min (word2 a b) 4800 }) (clamp := decide (4800 < word2 a b)) rfl
      simp only [decide_eq_true_eq] at hlead
      exact hlead
    · rintro n rfl hn
      exact hreach.refused (by decide) (hstore.trans (writeLaneField_range hsetup (laneWrite_range hn)))
  · intro l l'
    have hinst : (byteOf k.val).toNat < Item.laneLevel.instances := by
      rw [toNat_byteOf_val (by decide)]
      exact k.isLt
    have hreach : Reaches .laneLevel .swap r (byteOf k.val) [n] s := by
      rcases hrole with h | h
      · exact .swap (l := [.prog, .foh]) rfl hinst hfree h rfl
      · exact .swap (l := [.prog, .foh]) rfl hinst hfree h rfl
    have hstore : Item.laneLevel.store .swap (byteOf k.val).toNat [n] (validFrame r.port s) =
        acceptIf (decide (64 < n.toNat)) (notifyIf (decide (l ≠ l')) .table
          { validFrame r.port s with clicks := s.clicks.setLane k l' }) := by
      refine (withInstance_byteOf (by decide) k _ _).trans ?_
      exact congrArg (acceptIf _) (putLane_eq k l' _)
    have hvalue : Item.laneLevel.value (byteOf k.val).toNat s = [byteOf l.level] := by
      simp [Item.value, Item.lowValue, Item.middleValue, Item.highValue, atInstance_byteOf, l, beBytes]
    obtain ⟨hstate, hserved⟩ := hreach.accepted hstore rfl
    rw [hvalue] at hserved
    refine ⟨_, rfl, hstate, ?_⟩
    simp only [decide_eq_true_eq] at hserved
    exact hserved
  · intro old v
    have hinst : (byteOf i.val).toNat < Item.soundRole.instances := by
      rw [toNat_byteOf_val (by decide)]
      exact i.isLt
    have hreach : Reaches .soundRole .swap r (byteOf i.val) v s :=
      .swap (l := [.prog]) rfl hinst hfree hprog rfl
    have hstore : Item.soundRole.store .swap (byteOf i.val).toNat v (validFrame r.port s) =
        writeSoundRole i v (validFrame r.port s) := withInstance_byteOf (by decide) i _ _
    have hvalue : Item.soundRole.value (byteOf i.val).toNat s = old := by
      simp [Item.value, Item.lowValue, Item.middleValue, Item.highValue, atInstance_byteOf, old]
    refine ⟨_, rfl, ?_⟩
    intro stored
    have hstored : s.inShow = false → ∀ {c : Option (Fin 16)}, clipChoice v = some c → stored c := by
      intro hsetup c hc
      obtain ⟨hstate, hserved⟩ := hreach.accepted (hstore.trans (writeSoundRole_stored hsetup hc)) rfl
      rw [hvalue] at hserved
      exact ⟨hstate, hserved⟩
    refine ⟨fun hshow => hreach.frozen hshow hstore, fun hsetup hv => ?_, fun c hsetup hv => ?_, fun n hsetup hv hn => ?_⟩
    · exact hstored hsetup (by rw [hv]; rfl)
    · exact hstored hsetup (by rw [hv, clipChoice_some])
    · exact hreach.refused (by decide) (hstore.trans (writeSoundRole_range hsetup (by rw [hv, clipChoice_none hn])))

/-! ## Counters (class reset of TABLE 12-6) -/

theorem resetCount_zero {a b : Byte} (h : word2 a b = 0) (s t : State) : resetCount [a, b] s t = accept t := by
  rw [resetCount, payload2_pair, h]
  rfl

theorem resetCount_range {a b : Byte} (h : word2 a b ≠ 0) (s t : State) : resetCount [a, b] s t = refuse .range s := by
  rw [resetCount, payload2_pair]
  split
  · next he => exact absurd (Option.some.inj he) h
  · rfl

/-- What a write that reaches its owner does with the owner's answer (R195, R196). -/
theorem Reaches.operate {item : Item} {w : FlagOp} {r : Req} {i : Byte} {rest : List Byte} {s : State}
    (h : Reaches item w r i rest s) :
    item.operate (opOfFlag w) r.port i.toNat rest (validFrame r.port s) =
      (item.store w i.toNat rest (validFrame r.port s)).withOld (item.value i.toNat s) := by
  have hwrite : opWrite (opOfFlag w) rest = some w := by
    rw [opWrite_opOfFlag, if_neg]
    rintro ⟨hmask, hzero⟩
    rcases h.flag with hswap | ⟨-, hne⟩
    · exact hmask hswap
    · exact hne hzero
  have hmask : ¬ (item.instances ≤ i.toNat ∨ (opIsMask (opOfFlag w) && !item.isFlag) = true) := by
    rintro (hi | hflag)
    · exact absurd h.inst hi.not_gt
    · rcases h.flag with rfl | ⟨hf, -⟩
      · cases hflag
      · simp [hf] at hflag
  unfold Item.operate
  rw [if_neg (by simp [h.form]), if_neg hmask, hwrite]
  dsimp only
  rw [if_neg h.writable, if_neg (by simp [mayWrite_validFrame, h.may]), h.value_validFrame]

/-- A port's record after a request on a free port (R189). -/
theorem port_request {r : Req} {s u : State} {act : State → Answer} {reply : Reply} (h : Free r s)
    (ha : act (validFrame r.port s) = ⟨reply, u⟩) (q : DeskPort) :
    (request r act s).port q = if r.port = q then
      { u.port q with
        inProgress := some { tag := r.tag, reply := reply, begun := (u.port q).tx.isNone }
        tx := (u.port q).tx <|> some ⟨.reply, replyFrame r.tag reply⟩ }
      else u.port q := by
  rw [request_free act h, ha]
  split
  · next hq => rw [← hq, port_setPort_same, choose_progress]
  · next hq => rw [port_setPort, if_neg hq, port_setPort, if_neg hq]

/-- Presence changes neither a port's role, nor its mask, nor its pending set, nor its bad-frame count (R187). -/
theorem port_validFrame_fields (p q : DeskPort) (s : State) :
    ((validFrame p s).port q).role = (s.port q).role ∧ ((validFrame p s).port q).mask = (s.port q).mask ∧
    ((validFrame p s).port q).pendingSet = (s.port q).pendingSet ∧
    ((validFrame p s).port q).badFrames = (s.port q).badFrames := by
  rw [port_validFrame]
  split
  · next hpq => rw [hpq]; exact ⟨rfl, rfl, rfl, rfl⟩
  · exact ⟨rfl, rfl, rfl, rfl⟩

/-- Settles O24: zero resets the counter that the request names, and no other value is in range. -/
theorem countersReset : Obligations.CountersReset := by
  intro r a b s hfree prog
  refine ⟨fun hne i x y c hc => ?_, fun hzero => ⟨fun k hrole => ?_, fun k x hprog => ?_, fun k hprog => ?_,
    fun hrole => ?_, fun p hprog => ?_⟩⟩
  · have hinstance : ∀ {n : Nat} {act : Fin n → Answer} (u : State), i.toNat < n → (∀ k, act k = refuse .range u) →
        withInstance n i.toNat u act = refuse .range u := by
      intro n act u hi hact
      rw [withInstance, idx?, dif_pos hi]
      exact hact _
    rcases hc with ⟨rfl, hi, hrole⟩ | ⟨rfl, hi, hrole⟩ | ⟨rfl, hi, hrole⟩ | ⟨rfl, hi, hrole⟩ | ⟨rfl, hi, hrole⟩
    · have hreach : Reaches .clipCounter .swap r i [a, b] s := by
        rcases hrole with h | h
        · exact .swap (l := [.prog, .foh]) rfl hi hfree h rfl
        · exact .swap (l := [.prog, .foh]) rfl hi hfree h rfl
      exact ⟨_, rfl, hreach.refused (by decide) (hinstance _ hi fun k => resetCount_range hne _ _)⟩
    · have hreach : Reaches (.rigCounter x) .swap r i [a, b] s := .swap (l := [.prog]) rfl hi hfree hrole rfl
      exact ⟨_, rfl, hreach.refused (by decide) (hinstance _ hi fun k => resetCount_range hne _ _)⟩
    · have hreach : Reaches (.cameraCounter y) .swap r i [a, b] s := .swap (l := [.prog]) rfl hi hfree hrole rfl
      exact ⟨_, rfl, hreach.refused (by decide) (resetCount_range hne _ _)⟩
    · have hreach : Reaches .displacedCount .swap r i [a, b] s := by
        rcases hrole with h | h
        · exact .swap (l := [.sm, .prog]) rfl hi hfree h rfl
        · exact .swap (l := [.sm, .prog]) rfl hi hfree h rfl
      exact ⟨_, rfl, hreach.refused (by decide) (resetCount_range hne _ _)⟩
    · have hreach : Reaches .badFrames .swap r i [a, b] s := .swap (l := [.prog]) rfl hi hfree hrole rfl
      exact ⟨_, rfl, hreach.refused (by decide) (hinstance _ hi fun k => resetCount_range hne _ _)⟩
  · have hinst : (byteOf k.val).toNat < Item.clipCounter.instances := by
      rw [toNat_byteOf_val (by decide)]
      exact k.isLt
    have hreach : Reaches .clipCounter .swap r (byteOf k.val) [a, b] s := by
      rcases hrole with h | h
      · exact .swap (l := [.prog, .foh]) rfl hinst hfree h rfl
      · exact .swap (l := [.prog, .foh]) rfl hinst hfree h rfl
    obtain ⟨hstate, hserved⟩ := hreach.accepted_quietly
      ((withInstance_byteOf (by decide) k _ _).trans (resetCount_zero hzero _ _)) rfl
    refine ⟨_, rfl, hstate, ?_⟩
    have hvalue : Item.clipCounter.value (byteOf k.val).toNat s = beBytes 2 (s.clicks.lane k).clipCount := by
      simp [Item.value, Item.lowValue, Item.middleValue, Item.highValue, atInstance_byteOf]
    rw [← hvalue]
    exact hserved
  · have hinst : (byteOf k.val).toNat < (Item.rigCounter x).instances := by
      rw [toNat_byteOf_val (by decide)]
      exact k.isLt
    have hreach : Reaches (.rigCounter x) .swap r (byteOf k.val) [a, b] s := .swap (l := [.prog]) rfl hinst hfree hprog rfl
    obtain ⟨hstate, hserved⟩ := hreach.accepted_quietly
      ((withInstance_byteOf (by decide) k _ _).trans (resetCount_zero hzero _ _)) (by cases x <;> rfl)
    have hother : ∀ j, j ≠ k → (clearRigCounter x k (validFrame r.port s)).rig j = s.rig j ∧
        (clearRigCounter x k (validFrame r.port s)).rigPort j = s.rigPort j := by
      intro j hj
      cases x <;> simp [clearRigCounter, State.rig, State.rigPort, tget_tput_ne _ _ _ _ (Ne.symm hj)]
    have hrig : ∀ j, (itemRequest (.rigCounter x) .swap r (byteOf k.val) [a, b] s).rig j =
        (clearRigCounter x k (validFrame r.port s)).rig j :=
      fun j => (congrArg (fun t : State => t.rig j) hstate :)
    have hport : ∀ j, (itemRequest (.rigCounter x) .swap r (byteOf k.val) [a, b] s).rigPort j =
        (clearRigCounter x k (validFrame r.port s)).rigPort j :=
      fun j => (congrArg (fun t : State => t.rigPort j) hstate :)
    have hrigs : (itemRequest (.rigCounter x) .swap r (byteOf k.val) [a, b] s).rigs =
        (clearRigCounter x k (validFrame r.port s)).rigs := (congrArg State.rigs hstate :)
    refine ⟨_, rfl, ?_, fun j hj => ?_, ?_, ?_, ?_, ?_⟩
    · show itemRequest (.rigCounter x) .swap r (byteOf k.val) [a, b] s = _
      rw [hrigs]
      refine hstate.trans ?_
      cases x <;> rfl
    · obtain ⟨hj₁, hj₂⟩ := hother j hj
      exact ⟨(hrig j).trans hj₁, (hport j).trans hj₂⟩
    all_goals
      rintro rfl
      have hvalue := atInstance_byteOf (n := 8) (by decide) k
      refine ⟨(hrig k).trans ?_, (hport k).trans ?_, ?_⟩
      · simp [clearRigCounter, State.rig, State.rigPort]
      · simp [clearRigCounter, State.rig, State.rigPort]
      · simp only [Item.value, Item.lowValue, Item.middleValue, Item.highValue, hvalue, List.nil_append,
          List.append_nil] at hserved
        exact hserved
  · have hinst : (cameraCode k).toNat < 2 := by cases k <;> decide
    have hcamera : cameraOfInstance (cameraCode k).toNat = k := by cases k <;> rfl
    have hreach : ∀ y, Reaches (.cameraCounter y) .swap r (cameraCode k) [a, b] s := fun y =>
      .swap (l := [.prog]) rfl hinst hfree hprog rfl
    have hserve := fun y => (hreach y).accepted_quietly (resetCount_zero hzero _ _) rfl
    refine ⟨⟨_, rfl, ?_⟩, ⟨_, rfl, ?_⟩⟩
    · obtain ⟨hstate, hserved⟩ := hserve .drop
      rw [hcamera] at hstate
      simp only [Item.value, Item.lowValue, Item.middleValue, Item.highValue, hcamera, List.nil_append] at hserved
      exact ⟨hstate, hserved⟩
    · obtain ⟨hstate, hserved⟩ := hserve .abort
      rw [hcamera] at hstate
      simp only [Item.value, Item.lowValue, Item.middleValue, Item.highValue, hcamera, List.nil_append] at hserved
      exact ⟨hstate, hserved⟩
  · have hreach : Reaches .displacedCount .swap r 0 [a, b] s := by
      rcases hrole with h | h
      · exact .swap (l := [.sm, .prog]) rfl (by decide) hfree h rfl
      · exact .swap (l := [.sm, .prog]) rfl (by decide) hfree h rfl
    exact ⟨_, rfl, hreach.accepted_quietly (resetCount_zero hzero _ _) rfl⟩
  · have hinst : (byteOf p.val).toNat < Item.badFrames.instances := by
      rw [toNat_byteOf_val (by decide)]
      exact p.isLt
    have hreach : Reaches .badFrames .swap r (byteOf p.val) [a, b] s := .swap (l := [.prog]) rfl hinst hfree hprog rfl
    have hstore : Item.badFrames.store .swap (byteOf p.val).toNat [a, b] (validFrame r.port s) =
        accept ((validFrame r.port s).setPort p { (validFrame r.port s).port p with badFrames := 0 }) :=
      (withInstance_byteOf (by decide) p _ _).trans (resetCount_zero hzero _ _)
    have hvalue : Item.badFrames.value (byteOf p.val).toNat s = beBytes 2 (s.port p).badFrames := by
      simp [Item.value, Item.lowValue, Item.middleValue, Item.highValue, atInstance_byteOf]
    have hanswer : Item.badFrames.operate .swap r.port (byteOf p.val).toNat [a, b] (validFrame r.port s) =
        ⟨⟨.ok, beBytes 2 (s.port p).badFrames⟩,
          (validFrame r.port s).setPort p { (validFrame r.port s).port p with badFrames := 0 }⟩ := by
      refine hreach.operate.trans ?_
      rw [hstore, hvalue]
      rfl
    obtain ⟨hstate, hreplied⟩ := request_replied hfree hanswer
    have hport : ∀ q, (itemRequest .badFrames .swap r (byteOf p.val) [a, b] s).port q = if r.port = q then _ else _ :=
      fun q => port_request hfree hanswer q
    refine ⟨_, rfl, hstate.trans rfl, hreplied, ?_, fun q hq => ?_, fun q => ?_⟩
    · rw [hport]
      split <;> simp
    · rw [hport]
      have hbad := (port_validFrame_fields r.port q s).2.2.2
      split <;> (rw [← hbad, port_setPort_ne _ _ _ _ hq])
    · obtain ⟨hrole, hmask, hpending, -⟩ := port_validFrame_fields r.port q s
      have hcleared : ∀ f : DeskPortRec → Option Role × BitVec 8 × BitVec 8, (∀ d, f { d with badFrames := 0 } = f d) →
          f (((validFrame r.port s).setPort p { (validFrame r.port s).port p with badFrames := 0 }).port q) =
            f ((validFrame r.port s).port q) := by
        intro f hf
        rw [port_setPort]
        split
        · next hpq => rw [hf, hpq]
        · rfl
      have hfields := hcleared (fun d => (d.role, d.mask, d.pendingSet)) fun _ => rfl
      rw [hrole, hmask, hpending] at hfields
      simp only [Prod.mk.injEq] at hfields
      rw [hport]
      split <;> exact hfields

end Sys2Proof.Machine
end

section
/-!
PROOFS. The writes of the rig-slot settings and names, of the monitors, and of the stop items (R69, R97, R131, R144, R153, R167,
R168, R184).
-/

namespace Sys2Proof.Machine
set_option Elab.async false

/-! ## Rig slots (R69, R97) -/

theorem writeSlotSetting_stored {f : SlotSetting} {k : Slot} {v : List Byte} {u : State} {x : SlotSettings}
    (hsetup : u.inShow = false) (hw : (u.tables.setting k).write f v = some x) :
    writeSlotSetting f k v u = acceptIf false (notifyIf (decide (u.tables.setting k ≠ x)) .table
      { u with tables := { u.tables with settings := tput u.tables.settings k x } }) := by
  rw [writeSlotSetting, unlessShow_setup hsetup, inRange_some hw, bne_eq_decide_ne]
  rfl

theorem writeSlotSetting_range {f : SlotSetting} {k : Slot} {v : List Byte} {u : State} (hsetup : u.inShow = false)
    (hw : (u.tables.setting k).write f v = none) : writeSlotSetting f k v u = refuse .range u := by
  rw [writeSlotSetting, unlessShow_setup hsetup, inRange_none hw]

theorem patch_valid_iff (p : Patch) : p.valid = true ↔ p.bank ≤ 127 ∧ p.program ≤ 127 ∧ p.scene ≤ 15 := by
  simp [Patch.valid, and_assoc]

/-- A patch of three bytes. -/
def patchOf (a b c : Byte) : Patch := { bank := a.toNat, program := b.toNat, scene := c.toNat }

theorem patchOf_valid {a b c : Byte} (ha : a.toNat ≤ 127) (hb : b.toNat ≤ 127) (hc : c.toNat ≤ 15) :
    (patchOf a b c).valid = true := (patch_valid_iff _).mpr ⟨ha, hb, hc⟩

theorem patchOf_not_valid {a b c : Byte} (h : 127 < a.toNat ∨ 127 < b.toNat ∨ 15 < c.toNat) :
    (patchOf a b c).valid = false := by
  rw [Bool.eq_false_iff, Ne, patch_valid_iff]
  simp only [patchOf]
  omega

section Settings

variable (t : SlotSettings) (a b c x y z : Byte)

theorem write_safe : t.write .safe [a, b, c] =
    if (patchOf a b c).valid then some { t with safe := patchOf a b c } else none := rfl

theorem write_opening_none : t.write .opening [a, b, c, 0, 0, 0, 0] =
    if (patchOf a b c).valid && true then some { t with opening := { main := patchOf a b c, cover := none } } else none :=
  rfl

theorem write_opening_some : t.write .opening [a, b, c, 1, x, y, z] =
    if (patchOf a b c).valid && (patchOf x y z).valid then
      some { t with opening := { main := patchOf a b c, cover := some (patchOf x y z) } } else none := rfl

end Settings

/-- The reader of a name takes a text of at most 16 characters of the printing set (R97, R202). -/
theorem slotName_some {name : Text} (hlen : name.length ≤ 16) (htext : isDeskText name = true) :
    ((whole (rdText 16) (byteOf name.length :: name)).bind fun t => if isDeskText t then some t else none) = some name := by
  have hn : (byteOf name.length).toNat = name.length := toNat_byteOf (by omega)
  have hread : rdText 16 (byteOf name.length :: name) = some (name, []) := by
    simp [rdText, hn, hlen]
  simp [whole, hread, htext]

theorem slotName_none {name : Text} (hlen : name.length < 256) (h : 16 < name.length ∨ isDeskText name = false) :
    ((whole (rdText 16) (byteOf name.length :: name)).bind fun t => if isDeskText t then some t else none) = none := by
  have hn : (byteOf name.length).toNat = name.length := toNat_byteOf hlen
  by_cases hlong : 16 < name.length
  · have hread : rdText 16 (byteOf name.length :: name) = none := by simp [rdText, hn, hlong]
    simp [whole, hread]
  · have hread : rdText 16 (byteOf name.length :: name) = some (name, []) := by
      simp [rdText, hn, Nat.not_lt.mp hlong]
    have htext : isDeskText name = false := h.resolve_left hlong
    simp [whole, hread, htext]

theorem mem_allSlots (k : Slot) : k ∈ allSlots := by
  revert k
  decide

theorem nameTaken_iff (k : Slot) (name : Text) (s : State) :
    nameTaken k name s = true ↔ name ≠ [] ∧ ∃ j, j ≠ k ∧ (s.rig j).name = name := by
  simp [nameTaken, mem_allSlots]

theorem writeSlotName_eq {k : Slot} {v : List Byte} {u : State} {name : Text} (hsetup : u.inShow = false)
    (hv : ((whole (rdText 16) v).bind fun t => if isDeskText t then some t else none) = some name) :
    writeSlotName k v u = if nameTaken k name u then refuse .duplicate u else
      acceptIf false (notifyIf (decide ((u.rig k).name ≠ name)) .rig
        { u with rigs := { u.rigs with slots := tput u.rigs.slots k { u.rig k with name := name } } }) := by
  rw [writeSlotName, unlessShow_setup hsetup, inRange_some hv, bne_eq_decide_ne]
  rfl

theorem writeSlotName_range {k : Slot} {v : List Byte} {u : State} (hsetup : u.inShow = false)
    (hv : ((whole (rdText 16) v).bind fun t => if isDeskText t then some t else none) = none) :
    writeSlotName k v u = refuse .range u := by
  rw [writeSlotName, unlessShow_setup hsetup, inRange_none hv]

/-- Settles O29, by what the value reads as. -/
theorem slotItemsWritten : Obligations.SlotItemsWritten := by
  refine ⟨fun r k s hfree hprog => ?_, fun r k name s hfree hprog hlen => ?_⟩
  · intro old f v
    have hinst : (byteOf k.val).toNat < (Item.slotSetting f).instances := by
      rw [toNat_byteOf_val (by decide)]
      exact k.isLt
    have hreach : Reaches (.slotSetting f) .swap r (byteOf k.val) v s :=
      .swap (l := [.prog]) rfl hinst hfree hprog rfl
    have hstore : (Item.slotSetting f).store .swap (byteOf k.val).toNat v (validFrame r.port s) =
        writeSlotSetting f k v (validFrame r.port s) := withInstance_byteOf (by decide) k _ _
    have hvalue : (Item.slotSetting f).value (byteOf k.val).toNat s = settingBytes f old := by
      simp [Item.value, Item.lowValue, Item.middleValue, Item.highValue, atInstance_byteOf, old]
    refine ⟨_, rfl, ?_⟩
    intro refused stored
    have hstored : s.inShow = false → ∀ {x : SlotSettings}, old.write f v = some x → stored x := by
      intro hsetup x hx
      obtain ⟨hstate, hserved⟩ := hreach.accepted (hstore.trans (writeSlotSetting_stored hsetup hx)) rfl
      rw [hvalue] at hserved
      exact ⟨hstate, hserved⟩
    have hrange : s.inShow = false → old.write f v = none → refused .range := fun hsetup hx =>
      hreach.refused (by decide) (hstore.trans (writeSlotSetting_range hsetup hx))
    refine ⟨fun hshow => hreach.frozen hshow hstore, ?_, ?_, ?_, ?_, ?_⟩
    · rintro b hsetup rfl rfl
      exact hstored hsetup (by cases b <;> rfl)
    · rintro b hsetup rfl rfl
      exact hstored hsetup (by cases b <;> rfl)
    · rintro n hsetup hf rfl hn
      have hbool : whole rdBool [n] = none := by rw [whole, rdBool_none hn]
      refine hrange hsetup ?_
      rcases hf with rfl | rfl <;> simp only [SlotSettings.write, hbool, Option.map_none]
    · rintro a b c hsetup rfl rfl
      refine ⟨fun ha hb hc => hstored hsetup ?_, fun hbad => hrange hsetup ?_⟩
      · rw [write_safe, if_pos (patchOf_valid ha hb hc)]
        rfl
      · rw [write_safe, if_neg (by simp [patchOf_not_valid hbad])]
    · rintro a b c x y z hsetup rfl
      refine ⟨?_, ?_, ?_, ?_⟩
      · rintro rfl ha hb hc
        refine hstored hsetup ?_
        rw [write_opening_none, if_pos (by simp [patchOf_valid ha hb hc])]
        rfl
      · rintro rfl ha hb hc hx hy hz
        refine hstored hsetup ?_
        rw [write_opening_some, if_pos (by simp [patchOf_valid ha hb hc, patchOf_valid hx hy hz])]
        rfl
      · rintro (rfl | rfl) hbad
        · refine hrange hsetup ?_
          rw [write_opening_none, if_neg (by simp [patchOf_not_valid hbad])]
        · refine hrange hsetup ?_
          rw [write_opening_some, if_neg (by simp [patchOf_not_valid hbad])]
      · rintro rfl hbad
        refine hrange hsetup ?_
        rw [write_opening_some, if_neg (by simp [patchOf_not_valid hbad])]
  · have hinst : (byteOf k.val).toNat < Item.slotName.instances := by
      rw [toNat_byteOf_val (by decide)]
      exact k.isLt
    have hreach : Reaches .slotName .swap r (byteOf k.val) (byteOf name.length :: name) s :=
      .swap (l := [.prog]) rfl hinst hfree hprog rfl
    have hstore : Item.slotName.store .swap (byteOf k.val).toNat (byteOf name.length :: name) (validFrame r.port s) =
        writeSlotName k (byteOf name.length :: name) (validFrame r.port s) := withInstance_byteOf (by decide) k _ _
    have hvalue : Item.slotName.value (byteOf k.val).toNat s = textBytes (s.rig k).name := by
      simp [Item.value, Item.lowValue, Item.middleValue, Item.highValue, atInstance_byteOf]
    refine ⟨_, rfl, ?_⟩
    intro refused
    refine ⟨fun hshow => hreach.frozen hshow hstore, fun hsetup hbad => ?_, fun hsetup hshort htext => ⟨fun hne htaken => ?_,
      fun hfresh => ?_⟩⟩
    · exact hreach.refused (by decide) (hstore.trans (writeSlotName_range hsetup (slotName_none hlen hbad)))
    · have htaken : nameTaken k name (validFrame r.port s) = true := (nameTaken_iff ..).mpr ⟨hne, htaken⟩
      exact hreach.refused (by decide) (hstore.trans ((writeSlotName_eq (u := validFrame r.port s) hsetup (slotName_some hshort htext)).trans
        (if_pos htaken)))
    · have hfree : ¬ nameTaken k name (validFrame r.port s) = true := by
        rw [nameTaken_iff]
        rintro ⟨hne, j, hj, hname⟩
        rcases hfresh with he | he
        · exact hne he
        · exact he j hj hname
      obtain ⟨hstate, hserved⟩ := hreach.accepted (hstore.trans ((writeSlotName_eq (u := validFrame r.port s) hsetup (slotName_some hshort htext)).trans
        (if_neg hfree))) rfl
      rw [hvalue] at hserved
      exact ⟨hstate, hserved⟩

end Sys2Proof.Machine
end

section
/-!
PROOFS. The writes of the monitors and of the stop items (R131, R144, R153, R167, R168, R184), and a sampling that finds nothing
raised (R158, R159).
-/

namespace Sys2Proof.Machine
set_option Elab.async false

/-! ## A sampling that finds nothing raised -/

/-- With nothing raised no source is eligible, so that a sampling takes none (R159). -/
theorem chosen_of_nothingRaised {c : Bool} {s : State} (h : NothingRaised s) : chosen c s = none := by
  have hfilter : allSources.filter (eligible c s) = [] := by
    rw [List.filter_eq_nil_iff]
    intro i _
    simp [eligible, h i]
  rw [chosen, hfilter]
  rfl

theorem sampleOnce_of_nothingRaised (c : Bool) {s : State} (h : NothingRaised s) : sampleOnce c s = s := by
  unfold sampleOnce
  rw [chosen_of_nothingRaised h]
  exact ite_self s

theorem sample_of_nothingRaised (c : Bool) {s : State} (h : NothingRaised s) : sample c s = s := by
  unfold sample
  dsimp only
  rw [sampleOnce_of_nothingRaised c h, if_neg (by simp)]

theorem NothingRaised.congr {s t : State} (h : NothingRaised s) (ht : t.stops.raised = s.stops.raised) :
    NothingRaised t := fun i => by
  rw [Stops.isRaised, ht]
  exact h i

/-- The hold-off count set, with the STOP kind written as a change of its being 0 (R166). -/
theorem setHoldOff_eq (n : Nat) (s : State) :
    setHoldOff n s = notifyIf (decide ((s.stops.holdOff = 0) ≠ (n = 0))) .stop
      { s with stops := { s.stops with holdOff := n } } := by
  rw [setHoldOff]
  congr 1
  rw [Bool.eq_iff_iff]
  simp

/-! ## Monitors (R131, R144) -/

/-- The overlay after a write of a monitor field (R144). -/
def overlayWritten (f : MonitorField) (i : Fin 6) (old new : FlashMode) (o : Overlay) : Overlay :=
  if f = .flashMode then o.modeWritten i old new else o

theorem writeMonitor_stored {f : MonitorField} {op : FlagOp} {i : Fin 6} {v : List Byte} {u : State} {m : Monitor}
    {clamp : Bool} (hw : (u.picture.monitor i).write f op v = some (m, clamp)) :
    writeMonitor f op i v u = acceptIf clamp (notifyIf (decide (u.picture.monitor i ≠ m)) .table
      { u with
        picture := u.picture.setMonitor i m
        overlay := overlayWritten f i (u.picture.monitor i).flashMode m.flashMode u.overlay }) := by
  rw [writeMonitor, inRange_some hw, bne_eq_decide_ne]
  cases f <;> rfl

theorem writeMonitor_range {f : MonitorField} {op : FlagOp} {i : Fin 6} {v : List Byte} {u : State}
    (hw : (u.picture.monitor i).write f op v = none) : writeMonitor f op i v u = refuse .range u := by
  rw [writeMonitor, inRange_none hw]

/-- The overlay moves only with a flash mode. -/
theorem writeMonitor_overlay {f : MonitorField} (hf : f ≠ .flashMode) (op : FlagOp) (i : Fin 6) (v : List Byte) (u : State) :
    (writeMonitor f op i v u).state.overlay = u.overlay := by
  cases hw : (u.picture.monitor i).write f op v with
  | none => rw [writeMonitor_range hw]; rfl
  | some mc =>
    rw [writeMonitor_stored hw, acceptIf_state]
    simp [overlayWritten, hf]

theorem operate_overlay {f : MonitorField} (hf : f ≠ .flashMode) (op : ItemOp) (p : DeskPort) (i : Nat) (rest : List Byte)
    (u : State) : ((Item.monitorField f).operate op p i rest u).state.overlay = u.overlay := by
  unfold Item.operate
  split
  · rfl
  · split
    · rfl
    · split
      · rfl
      · split
        · rfl
        · split
          · rfl
          · rw [withOld_state]
            show (withInstance 6 i u fun k => writeMonitor f _ k rest u).state.overlay = u.overlay
            unfold withInstance
            split
            · exact writeMonitor_overlay hf _ _ _ u
            · rfl

theorem monitorSource_ofCode_none {n : Byte} (hn : 3 < n.toNat) : MonitorSource.ofCode n = none := by
  have hne : ∀ m : Byte, m.toNat ≤ 3 → n ≠ m := fun m hm he => by rw [he] at hn; omega
  simp only [MonitorSource.ofCode, if_neg (hne 0 (by decide)), if_neg (hne 1 (by decide)), if_neg (hne 2 (by decide)),
    if_neg (hne 3 (by decide))]

theorem flashMode_ofCode_none {n : Byte} (hn : 2 < n.toNat) : FlashMode.ofCode n = none := by
  have hne : ∀ m : Byte, m.toNat ≤ 2 → n ≠ m := fun m hm he => by rw [he] at hn; omega
  simp only [FlashMode.ofCode, if_neg (hne 0 (by decide)), if_neg (hne 1 (by decide)), if_neg (hne 2 (by decide))]

theorem laneChoice_some (k : LaneNo) : laneChoice [1, byteOf k.val] = some (some k) := clipChoice_some k

theorem laneChoice_none {n : Byte} (h : 16 ≤ n.toNat) : laneChoice [1, n] = none := clipChoice_none h

/-- The one-byte values of a monitor's fields that are not in their sets. -/
theorem monitorWrite_range {f : MonitorField} {n : Byte} {m : Monitor}
    (h : (f = .source ∧ 3 < n.toNat) ∨ (f = .flashMode ∧ 2 < n.toNat) ∨
      (f = .flashLength ∧ (n.toNat = 0 ∨ 4 < n.toNat))) : m.write f .swap [n] = none := by
  rcases h with ⟨rfl, hn⟩ | ⟨rfl, hn⟩ | ⟨rfl, hn⟩
  · have hread : whole (rdEnum MonitorSource.ofCode) [n] = none := by
      simp only [whole, rdEnum, monitorSource_ofCode_none hn, Option.map_none]
    simp only [Monitor.write, hread, Option.map_none]
  · have hread : whole (rdEnum FlashMode.ofCode) [n] = none := by
      simp only [whole, rdEnum, flashMode_ofCode_none hn, Option.map_none]
    simp only [Monitor.write, hread, Option.map_none]
  · exact if_neg (by omega)

/-- A write of the overlay field set, with the bits that name no field written out (R131, R195). -/
theorem fieldsWrite_eq (m : Monitor) (op : FlagOp) (b : Byte) :
    m.write .overlayFields op [b] = if b &&& 0xC0 = 0 then
        some ({ m with fields := match op with | .swap => b | .set => m.fields ||| b | .clear => m.fields &&& ~~~b }, false)
      else none := by
  have hbits : ~~~overlayFieldBits = 0xC0 := by decide
  show (flagWrite overlayFieldBits m.fields op [b]).map _ = _
  cases op <;> (simp only [flagWrite, hbits]; split <;> rfl)

theorem tget_modeWritten (i : Fin 6) (old new : FlashMode) (o : Overlay) (j : Fin 6) :
    tget (o.modeWritten i old new).flashes j =
      if (new = .off ∨ old ≠ new) ∧ j = i then { tget o.flashes i with target := none, ticks := 0 }
      else tget o.flashes j := by
  unfold Overlay.modeWritten
  by_cases hnew : new = .off ∨ old ≠ new
  · rw [if_pos hnew, tget_tput]
    simp only [hnew, true_and, eq_comm]
  · rw [if_neg hnew, if_neg fun h => hnew h.1]

/-- Settles O43, by what the value reads as; the overlay changes with a flash mode alone. -/
theorem monitorWritten : Obligations.MonitorWritten := by
  intro r i s hfree hprog m f op v
  have hinst : (byteOf i.val).toNat < (Item.monitorField f).instances := by
    rw [toNat_byteOf_val (by decide)]
    exact i.isLt
  have hstore : (Item.monitorField f).store op (byteOf i.val).toNat v (validFrame r.port s) =
      writeMonitor f op i v (validFrame r.port s) := withInstance_byteOf (by decide) i _ _
  have hvalue : (Item.monitorField f).value (byteOf i.val).toNat s = monitorFieldBytes f m := by
    simp [Item.value, Item.lowValue, Item.middleValue, Item.highValue, atInstance_byteOf, m]
  refine ⟨itemRequest (.monitorField f) (opOfFlag op) r (byteOf i.val) v s, rfl, ?_⟩
  intro stored kept refused
  have hstored : Reaches (.monitorField f) op r (byteOf i.val) v s → ∀ {m' : Monitor} {clamp : Bool},
      m.write f op v = some (m', clamp) →
      stored m' (if clamp then .clamped else .ok) ∧
        (itemRequest (.monitorField f) (opOfFlag op) r (byteOf i.val) v s).overlay =
          overlayWritten f i m.flashMode m'.flashMode s.overlay := by
    intro hreach m' clamp hw
    obtain ⟨hstate, hserved⟩ := hreach.accepted (hstore.trans (writeMonitor_stored (u := validFrame r.port s) hw)) rfl
    rw [hvalue] at hserved
    have hoverlay : (itemRequest (.monitorField f) (opOfFlag op) r (byteOf i.val) v s).overlay =
      overlayWritten f i m.flashMode m'.flashMode s.overlay := (congrArg State.overlay hstate :)
    refine ⟨⟨?_, hserved⟩, hoverlay⟩
    rw [hoverlay]
    exact hstate
  have hrefused : Reaches (.monitorField f) op r (byteOf i.val) v s → m.write f op v = none → refused :=
    fun hreach hw => hreach.refused (by decide) (hstore.trans (writeMonitor_range hw))
  have hswap : op = .swap → Reaches (.monitorField f) op r (byteOf i.val) v s := by
    rintro rfl
    exact .swap (l := [.prog]) rfl hinst hfree hprog rfl
  refine ⟨fun hf => ?_, fun hop => ⟨?_, ?_, ?_, ?_, ?_, ?_, ?_, ?_⟩, ?_⟩
  · exact (congrArg State.overlay (request_state _ hfree) :).trans (operate_overlay hf ..)
  · rintro x rfl rfl
    exact (hstored (hswap hop) (clamp := false) (by cases x <;> rfl)).1
  · rintro a b rfl rfl
    have hlatency := (hstored (hswap hop) (m' := { m with latency := min (word2 a b) 9600 })
      (clamp := decide (9600 < word2 a b)) rfl).1
    simp only [decide_eq_true_eq] at hlatency
    exact hlatency
  · rintro rfl rfl
    exact (hstored (hswap hop) (clamp := false) rfl).1
  · rintro k rfl rfl
    refine (hstored (hswap hop) (clamp := false) ?_).1
    show (laneChoice [1, byteOf k.val]).map _ = _
    rw [laneChoice_some]
    rfl
  · rintro n rfl rfl hn
    refine hrefused (hswap hop) ?_
    show (laneChoice [1, n]).map _ = _
    rw [laneChoice_none hn]
    rfl
  · rintro n rfl rfl hlow hhigh
    exact (hstored (hswap hop) (clamp := false) (if_pos ⟨hlow, hhigh⟩)).1
  · rintro n rfl hbad
    subst hop
    exact hrefused (hswap rfl) (monitorWrite_range hbad)
  · rintro x rfl rfl
    obtain ⟨hst, hoverlay⟩ := hstored (hswap hop) (m' := { m with flashMode := x }) (clamp := false) (by cases x <;> rfl)
    have hflash : ∀ j, tget (itemRequest (.monitorField .flashMode) (opOfFlag op) r (byteOf i.val) [x.code] s).overlay.flashes j =
        if (x = .off ∨ m.flashMode ≠ x) ∧ j = i then { tget s.overlay.flashes i with target := none, ticks := 0 }
        else tget s.overlay.flashes j := fun j => by
      rw [hoverlay]
      exact tget_modeWritten i m.flashMode x s.overlay j
    refine ⟨hst, fun j hj => (hflash j).trans (if_neg fun h => hj h.2), fun hsame hoff => ?_, fun hx => ?_⟩
    · refine hoverlay.trans ?_
      exact (if_pos rfl).trans (if_neg (not_or.mpr ⟨hoff, not_not.mpr hsame.symm⟩))
    · refine (hflash i).trans (if_pos ⟨?_, rfl⟩)
      exact hx.imp id Ne.symm
  · rintro b rfl rfl
    have hreach : op = .swap ∨ b ≠ 0 → Reaches (.monitorField .overlayFields) op r (byteOf i.val) [b] s :=
      fun hb => .mask (l := [.prog]) rfl hinst rfl hfree hprog rfl hb
    refine ⟨fun hbits => ?_, fun hbits => ?_⟩
    · refine hrefused (hreach (.inr ?_)) ((fieldsWrite_eq m op b).trans (if_neg hbits))
      rintro rfl
      exact hbits (by decide)
    · have hwrite := (fieldsWrite_eq m op b).trans (if_pos hbits)
      refine ⟨?_, ?_, ?_⟩
      · rintro rfl
        exact (hstored (hreach (.inl rfl)) hwrite).1
      · rintro rfl hb
        exact (hstored (hreach (.inr hb)) hwrite).1
      · rintro rfl hb
        exact (hstored (hreach (.inr hb)) hwrite).1

/-! ## Stop items (R153, R167, R168, R184) -/

theorem clickProfile_ofCode_none {n : Byte} (hn : 2 < n.toNat) : ClickProfile.ofCode n = none := by
  have hne : ∀ m : Byte, m.toNat ≤ 2 → n ≠ m := fun m hm he => by rw [he] at hn; omega
  simp only [ClickProfile.ofCode, if_neg (hne 0 (by decide)), if_neg (hne 1 (by decide)), if_neg (hne 2 (by decide))]

theorem rigsProfile_ofCode_none {n : Byte} (hn : 1 < n.toNat) : RigsProfile.ofCode n = none := by
  have hne : ∀ m : Byte, m.toNat ≤ 1 → n ≠ m := fun m hm he => by rw [he] at hn; omega
  simp only [RigsProfile.ofCode, if_neg (hne 0 (by decide)), if_neg (hne 1 (by decide))]

theorem videoProfile_ofCode_none {n : Byte} (hn : 2 < n.toNat) : VideoProfile.ofCode n = none := by
  have hne : ∀ m : Byte, m.toNat ≤ 2 → n ≠ m := fun m hm he => by rw [he] at hn; omega
  simp only [VideoProfile.ofCode, if_neg (hne 0 (by decide)), if_neg (hne 1 (by decide)), if_neg (hne 2 (by decide))]

/-- Three bytes that carry no profile: one of them names no value of its component (TABLE 9-2). -/
theorem rdProfile_none {a b c : Byte} (h : 2 < a.toNat ∨ 1 < b.toNat ∨ 2 < c.toNat) : whole rdProfile [a, b, c] = none := by
  have hread : rdProfile [a, b, c] = (ClickProfile.ofCode a).bind fun click => (RigsProfile.ofCode b).bind fun rigs =>
      (VideoProfile.ofCode c).bind fun video => some ({ click, rigs, video }, []) := by
    cases hclick : ClickProfile.ofCode a with
    | none => simp [rdProfile, rdEnum, hclick]
    | some click =>
      cases hrigs : RigsProfile.ofCode b with
      | none => simp [rdProfile, rdEnum, hclick, hrigs]
      | some rigs => cases hvideo : VideoProfile.ofCode c <;> simp [rdProfile, rdEnum, hclick, hrigs, hvideo]
  have hnone : rdProfile [a, b, c] = none := by
    rw [hread]
    rcases h with h | h | h
    · rw [clickProfile_ofCode_none h]; rfl
    · rw [rigsProfile_ofCode_none h]
      cases ClickProfile.ofCode a <;> rfl
    · rw [videoProfile_ofCode_none h]
      cases ClickProfile.ofCode a <;> cases RigsProfile.ofCode b <;> rfl
  rw [whole, hnone]

theorem rdProfile_bytes (p : Profile) : whole rdProfile (profileBytes p) = some p := by
  obtain ⟨x, y, z⟩ := p
  cases x <;> cases y <;> cases z <;> rfl

theorem writeStopLevel_setup {i : Fin 9} {n : Byte} {u : State} (hi : 5 ≤ i.val) (hsetup : u.inShow = false) :
    writeStopLevel i [n] u = acceptIf (decide (7 < n.toNat)) (notifyIf (decide (tget u.stops.levels i ≠ min n.toNat 7))
      .table { u with stops := { u.stops with levels := tput u.stops.levels i (min n.toNat 7) } }) := by
  rw [writeStopLevel, if_neg (by omega), unlessShow_setup hsetup, ← bne_eq_decide_ne]
  rfl

theorem writeStopLevel_show {i : Fin 9} {v : List Byte} {u : State} (hi : 5 ≤ i.val) (hshow : u.inShow = true) :
    writeStopLevel i v u = refuse .frozen u := by
  rw [writeStopLevel, if_neg (by omega), unlessShow_show hshow]

theorem writeStopProfile_setup {i : Fin 9} {v : List Byte} {u : State} {p : Profile} (hi : 3 ≤ i.val)
    (hsetup : u.inShow = false) (hv : whole rdProfile v = some p) :
    writeStopProfile i v u = acceptIf false (notifyIf (decide (tget u.stops.profiles i ≠ p)) .table
      { u with stops := { u.stops with profiles := tput u.stops.profiles i p } }) := by
  rw [writeStopProfile, if_neg (by omega), unlessShow_setup hsetup, inRange_some hv, bne_eq_decide_ne]
  rfl

theorem writeStopProfile_range {i : Fin 9} {v : List Byte} {u : State} (hi : 3 ≤ i.val) (hsetup : u.inShow = false)
    (hv : whole rdProfile v = none) : writeStopProfile i v u = refuse .range u := by
  rw [writeStopProfile, if_neg (by omega), unlessShow_setup hsetup, inRange_none hv]

theorem writeStopProfile_show {i : Fin 9} {v : List Byte} {u : State} (hi : 3 ≤ i.val) (hshow : u.inShow = true) :
    writeStopProfile i v u = refuse .frozen u := by
  rw [writeStopProfile, if_neg (by omega), unlessShow_show hshow]

/-- HOLD OFF in SHOW: the count goes up by 1 to 16 beats, to no more than 32 (R167). -/
theorem ownHoldOff_show {n : Nat} {u : State} (hshow : u.inShow = true) :
    ownHoldOff n u = acceptIf (decide (n = 0 ∨ 16 < n ∨ 32 < u.stops.holdOff + max 1 (min n 16)))
      (setHoldOff (min (u.stops.holdOff + max 1 (min n 16)) 32) u) := by
  unfold ownHoldOff
  rw [if_neg (by simp [hshow])]
  have hclamp : (holdOffBeats n != n || decide (Config.holdOffMax < u.stops.holdOff + holdOffBeats n)) =
      decide (n = 0 ∨ 16 < n ∨ 32 < u.stops.holdOff + max 1 (min n 16)) := by
    have hbeats : holdOffBeats n = max 1 (min n 16) := rfl
    have hmax : Config.holdOffMax = 32 := rfl
    rw [Bool.eq_iff_iff, hbeats, hmax]
    simp only [Bool.or_eq_true, bne_iff_ne, ne_eq, decide_eq_true_eq]
    omega
  rw [← hclamp]
  rfl

/-- A SWAP of the hold-off item by MD that leaves the running count running makes no kind pending (R166, R168). -/
theorem writeHoldOff_running {n : Byte} {u : State} (hn : n ≠ 0) (hrun : u.stops.holdOff ≠ 0) :
    writeHoldOff [n] u = acceptIf (decide (32 < n.toNat)) { u with stops := { u.stops with holdOff := min n.toNat 32 } } := by
  have hn0 : n.toNat ≠ 0 := fun h => hn (BitVec.eq_of_toNat_eq (by simpa using h))
  show (if n.toNat = 0 then _ else if u.stops.holdOff = 0 then _ else acceptIf _ (setHoldOff (min n.toNat 32) u)) = _
  rw [if_neg hn0, if_neg hrun, setHoldOff_eq]
  have hsame : decide ((u.stops.holdOff = 0) ≠ (min n.toNat 32 = 0)) = false := by
    have hmin : min n.toNat 32 ≠ 0 := by omega
    simp [hrun, hmin]
  rw [hsame]
  rfl

theorem writeHoldOff_inactive {n : Byte} {u : State} (hn : n ≠ 0) (hrun : u.stops.holdOff = 0) :
    writeHoldOff [n] u = refuse .inactive u := by
  have hn0 : n.toNat ≠ 0 := fun h => hn (BitVec.eq_of_toNat_eq (by simpa using h))
  exact (if_neg hn0).trans (if_pos hrun)

/-- A SWAP of 0 is followed by a sampling, which finds nothing raised (R158, R168). -/
theorem writeHoldOff_zero {u : State} (h : NothingRaised u) :
    writeHoldOff [0] u = acceptIf false (notifyIf (decide (u.stops.holdOff ≠ 0)) .stop
      { u with stops := { u.stops with holdOff := 0 } }) := by
  show accept (sample false (setHoldOff 0 u)) = _
  rw [sample_of_nothingRaised false (h.congr (by simp)), setHoldOff_eq]
  have hzero : ((u.stops.holdOff = 0) ≠ (0 = 0)) ↔ u.stops.holdOff ≠ 0 := by simp
  rw [decide_eq_decide.mpr hzero]
  rfl

theorem writeResumeCountIn_some {n : Byte} {u : State} (hn : n = 1 ∨ n = 2) :
    writeResumeCountIn [n] u = acceptIf false (notifyIf (decide (u.resume.countIn ≠ n.toNat)) .table
      { u with resume := { u.resume with countIn := n.toNat } }) := by
  rw [← bne_eq_decide_ne]
  rcases hn with rfl | rfl <;> rfl

theorem writeResumeCountIn_none {n : Byte} {u : State} (h1 : n ≠ 1) (h2 : n ≠ 2) :
    writeResumeCountIn [n] u = refuse .range u := by
  have hread : ((payload1 [n]).bind fun n => if n = 1 ∨ n = 2 then some n else none) = none := by
    refine if_neg ?_
    rintro (h | h)
    · exact h1 (BitVec.eq_of_toNat_eq h)
    · exact h2 (BitVec.eq_of_toNat_eq h)
  rw [writeResumeCountIn, inRange_none hread]

/-- Settles O46, item by item. -/
theorem holdOffAndStopItems : Obligations.HoldOffAndStopItems := by
  refine ⟨fun r n s hfree hmd => ?_, fun r s hfree hrole => ?_⟩
  · intro h
    have hvalue : Item.holdOffCount.value (0 : Byte).toNat s = [byteOf h] := by
      simp [Item.value, Item.lowValue, Item.middleValue, Item.highValue, beBytes, h]
    refine ⟨⟨_, rfl, fun hsetup => ?_, fun hshow => ?_⟩, ⟨_, rfl, ?_, fun hn hzero => ?_, fun hn hrun => ?_⟩⟩
    · have howner : ownHoldOff n.toNat (validFrame r.port s) = refuse .setup (validFrame r.port s) :=
        if_pos (by simp [hsetup])
      exact command_refused_served (decode := payload1) hfree hmd rfl howner
    · intro beats sum
      have howner := ownHoldOff_show (n := n.toNat) (u := validFrame r.port s) hshow
      rw [setHoldOff_eq] at howner
      obtain ⟨hstate, hserved⟩ := command_accepted (decode := payload1) (payload := [n]) (roles := [.md]) hfree hmd rfl rfl
        howner rfl
      refine ⟨hstate, ?_⟩
      have hleaves : ((validFrame r.port s).stops.holdOff = 0) ≠
          (min ((validFrame r.port s).stops.holdOff + max 1 (min n.toNat 16)) 32 = 0) ↔ h = 0 := by
        have hmin : min (h + max 1 (min n.toNat 16)) 32 ≠ 0 := by omega
        simp [hmin, h]
      rw [decide_eq_decide.mpr hleaves] at hserved
      simp only [decide_eq_true_eq] at hserved
      exact hserved
    · rintro rfl hnothing
      have hreach : Reaches .holdOffCount .swap r 0 [0] s := .swap (l := [.md]) rfl (by decide) hfree hmd rfl
      obtain ⟨hstate, hserved⟩ := hreach.accepted (writeHoldOff_zero (u := validFrame r.port s) hnothing) rfl
      rw [hvalue] at hserved
      exact ⟨hstate, hserved⟩
    · have hreach : Reaches .holdOffCount .swap r 0 [n] s := .swap (l := [.md]) rfl (by decide) hfree hmd rfl
      exact hreach.refused (by decide) (writeHoldOff_inactive (u := validFrame r.port s) hn hzero)
    · have hreach : Reaches .holdOffCount .swap r 0 [n] s := .swap (l := [.md]) rfl (by decide) hfree hmd rfl
      obtain ⟨hstate, hserved⟩ := hreach.accepted (changed := false) (k := .stop)
        (writeHoldOff_running (u := validFrame r.port s) hn hrun) rfl
      rw [hvalue] at hserved
      simp only [decide_eq_true_eq] at hserved
      exact ⟨hstate, hserved⟩
  · have hreach : ∀ (item : Item) (i : Byte) (v : List Byte), item.writers = .roles [.sm, .prog] →
        i.toNat < item.instances → Reaches item .swap r i v s := by
      intro item i v hw hi
      rcases hrole with h | h
      · exact .swap hw hi hfree h rfl
      · exact .swap hw hi hfree h rfl
    have hinst : ∀ i : Fin 9, (byteOf i.val).toNat < 9 := fun i => by
      rw [toNat_byteOf_val (by decide)]
      exact i.isLt
    refine ⟨fun i n => ⟨_, rfl, fun hi => ?_, fun hi hshow => ?_, fun hi hsetup => ?_⟩,
      fun i a b c => ⟨_, rfl, fun hi => ?_, fun hi hshow => ?_, fun hi hsetup hbad => ?_, fun p hi hsetup hp => ?_⟩,
      fun n => ⟨_, rfl, fun hn => ?_, fun h1 h2 => ?_⟩⟩
    · exact (hreach .stopLevel _ _ rfl (hinst i)).refused (by decide)
        ((withInstance_byteOf (by decide) i _ _).trans (if_pos hi))
    · exact (hreach .stopLevel _ _ rfl (hinst i)).refused (by decide)
        ((withInstance_byteOf (by decide) i _ _).trans (writeStopLevel_show (u := validFrame r.port s) hi hshow))
    · obtain ⟨hstate, hserved⟩ := (hreach .stopLevel _ _ rfl (hinst i)).accepted
        ((withInstance_byteOf (by decide) i _ _).trans (writeStopLevel_setup (n := n) (u := validFrame r.port s) hi hsetup)) rfl
      have hvalue : Item.stopLevel.value (byteOf i.val).toNat s = [byteOf (tget s.stops.levels i)] := by
        simp [Item.value, Item.lowValue, Item.middleValue, Item.highValue, atInstance_byteOf, beBytes]
      rw [hvalue] at hserved
      simp only [decide_eq_true_eq] at hserved
      exact ⟨hstate, hserved⟩
    · exact (hreach .stopProfile _ _ rfl (hinst i)).refused (by decide)
        ((withInstance_byteOf (by decide) i _ _).trans (if_pos hi))
    · exact (hreach .stopProfile _ _ rfl (hinst i)).refused (by decide)
        ((withInstance_byteOf (by decide) i _ _).trans (writeStopProfile_show (u := validFrame r.port s) hi hshow))
    · exact (hreach .stopProfile _ _ rfl (hinst i)).refused (by decide)
        ((withInstance_byteOf (by decide) i _ _).trans
          (writeStopProfile_range (u := validFrame r.port s) hi hsetup (rdProfile_none hbad)))
    · have hread : whole rdProfile [a, b, c] = some p := by rw [hp, rdProfile_bytes]
      obtain ⟨hstate, hserved⟩ := (hreach .stopProfile _ _ rfl (hinst i)).accepted
        ((withInstance_byteOf (by decide) i _ _).trans
          (writeStopProfile_setup (u := validFrame r.port s) hi hsetup hread)) rfl
      have hvalue : Item.stopProfile.value (byteOf i.val).toNat s = profileBytes (tget s.stops.profiles i) := by
        simp [Item.value, Item.lowValue, Item.middleValue, Item.highValue, atInstance_byteOf]
      rw [hvalue] at hserved
      exact ⟨hstate, hserved⟩
    · have hvalue : Item.resumeCountIn.value (0 : Byte).toNat s = [byteOf s.resume.countIn] := by
        simp [Item.value, Item.lowValue, Item.middleValue, Item.highValue, beBytes]
      obtain ⟨hstate, hserved⟩ := (hreach .resumeCountIn 0 [n] rfl (by decide)).accepted
        (writeResumeCountIn_some (u := validFrame r.port s) hn) rfl
      rw [hvalue] at hserved
      exact ⟨hstate, hserved⟩
    · exact (hreach .resumeCountIn 0 [n] rfl (by decide)).refused (by decide)
        (writeResumeCountIn_none (u := validFrame r.port s) h1 h2)

end Sys2Proof.Machine
end

section
/-!
PROOFS. RELEASE (R37), the clips (R43, R44), the edits of the cue list (R59 to R67) and the chase of its last cue (R71, R72).
-/

namespace Sys2Proof.Machine
set_option Elab.async false

section Command

variable {α : Type} {r : Req} {roles : List Role} {decode : List Byte → Option α} {payload : List Byte}
  {owner : α → State → Answer} {s : State} {a : α} {role : Role} (h : Free r s) (hrole : FromRole role r s)
  (hr : roles.contains role = true) (hd : decode payload = some a)
include h hrole hr hd

/-- A command that its owner accepts with a kind pending. -/
theorem command_notified {k : NoticeKind} {u : State}
    (ho : owner a (validFrame r.port s) = accept (notify k u)) (hu : u.desk = (validFrame r.port s).desk) :
    let t := command r roles decode payload owner s
    t = { u with desk := t.desk } ∧ Served r .ok [] k.bit s t :=
  command_accepted (clamp := false) (changed := true) h hrole hr hd ho hu

/-- A command that its owner accepts with no kind pending. -/
theorem command_accepted_quietly {u : State}
    (ho : owner a (validFrame r.port s) = accept u) (hu : u.desk = (validFrame r.port s).desk) :
    let t := command r roles decode payload owner s
    t = { u with desk := t.desk } ∧ Served r .ok [] 0 s t :=
  command_accepted (clamp := false) (changed := false) (k := .cue) h hrole hr hd ho hu

end Command

/-! ## RELEASE (R37) -/

/-- Settles O20, by the innermost vamp. -/
theorem releaseEndsAnOpenVamp : Obligations.ReleaseEndsAnOpenVamp := by
  intro r s hfree
  have hvamps : (validFrame r.port s).beats.vamps = s.beats.vamps := rfl
  have hquiet : ∀ {code}, FromRole .md r s → ownRelease (validFrame r.port s) = ⟨⟨code, []⟩, validFrame r.port s⟩ →
      let t := command r [.md] payloadNone [] (fun _ => ownRelease) s
      t = { s with desk := t.desk } ∧ Served r code [] 0 s t := fun hmd ho =>
    command_quiet (decode := payloadNone) (payload := []) (owner := fun _ => ownRelease) hfree hmd rfl rfl ho
  refine ⟨_, rfl, fun hmd => ?_, fun hmd hempty => ?_, fun v outer hmd hstack => ⟨fun hkind => ?_,
    fun hkind hreleased => ?_, fun hkind hreleased => ?_⟩⟩
  · exact command_noRight_served (decode := payloadNone) hfree rfl hmd
  · exact hquiet hmd (by rw [ownRelease, hvamps, hempty]; rfl)
  · exact hquiet hmd (by simp only [ownRelease, hvamps, hstack, hkind]; rfl)
  · exact hquiet hmd (by simp only [ownRelease, hvamps, hstack, hkind, hreleased]; rfl)
  · have howner : ownRelease (validFrame r.port s) = accept (notify .cue { validFrame r.port s with
        beats := { s.beats with vamps := { v with released := true } :: outer } }) := by
      simp only [ownRelease, hvamps, hstack, hkind, hreleased]
      rfl
    exact command_notified (decode := payloadNone) (payload := []) (owner := fun _ => ownRelease) hfree hmd rfl rfl howner rfl

/-! ## Clips (R43, R44) -/

/-- The samples of a payload are read back whole (TABLE 12-2). -/
theorem rdSample_bytes (x : Sample) (bs : List Byte) : rdSample (sampleBytes x ++ bs) = some (x, bs) := by
  have hx : ((x >>> 16).setWidth 8 : Byte) ++ ((x >>> 8).setWidth 8 : Byte) ++ (x.setWidth 8 : Byte) = x := by
    refine BitVec.eq_of_getLsbD_eq fun i hi => ?_
    simp only [BitVec.getLsbD_append, BitVec.getLsbD_setWidth, BitVec.getLsbD_ushiftRight]
    by_cases hlow : i < 8
    · simp [hlow]
    · by_cases hmiddle : i - 8 < 8
      · simp [hlow, hmiddle, show 8 + (i - 8) = i by omega]
      · simp [hlow, hmiddle, show i - 8 - 8 < 8 by omega, show 16 + (i - 8 - 8) = i by omega]
  show some (((x >>> 16).setWidth 8 : Byte) ++ ((x >>> 8).setWidth 8 : Byte) ++ (x.setWidth 8 : Byte), bs) = _
  rw [hx]

theorem rdMany_samples (xs : List Sample) (bs : List Byte) :
    rdMany rdSample xs.length (xs.flatMap sampleBytes ++ bs) = some (xs, bs) := by
  induction xs with
  | nil => rfl
  | cons x xs ih =>
    rw [List.flatMap_cons, List.append_assoc, List.length_cons, rdMany, rdSample_bytes]
    simp [ih]

theorem sampleBytes_length (xs : List Sample) : (xs.flatMap sampleBytes).length = 3 * xs.length := by
  induction xs with
  | nil => rfl
  | cons x xs ih =>
    rw [List.flatMap_cons, List.length_append, ih, List.length_cons]
    simp only [sampleBytes, List.length_cons, List.length_nil]
    omega

theorem rd2_beBytes {n : Nat} (hn : n < 65536) (bs : List Byte) : rd2 (beBytes 2 n ++ bs) = some (n, bs) := by
  show some ((byteOf (n / 256 ^ 1)).toNat * 256 + (byteOf (n / 256 ^ 0)).toNat, bs) = _
  simp only [byteOf, BitVec.toNat_ofNat]
  congr 2
  omega

theorem payloadClipWrite_bytes {addr : Nat} {xs : List Sample} (haddr : addr < 65536) (hlow : 1 ≤ xs.length)
    (hhigh : xs.length ≤ 80) : payloadClipWrite (beBytes 2 addr ++ xs.flatMap sampleBytes) = some (addr, xs) := by
  have hcount : (xs.flatMap sampleBytes).length / 3 = xs.length := by
    rw [sampleBytes_length]
    omega
  have hread : whole (rdMany rdSample xs.length) (xs.flatMap sampleBytes) = some xs := by
    have := rdMany_samples xs []
    rw [List.append_nil] at this
    rw [whole, this]
  unfold payloadClipWrite
  rw [rd2_beBytes haddr]
  dsimp only
  rw [hcount, if_pos ⟨hlow, hhigh⟩, hread]
  rfl

/-- Two spans of one sample or more that share no address lie apart. -/
theorem share_of_not_apart {a b : Clip} (ha : 1 ≤ a.length) (hb : 1 ≤ b.length) (h : a.apart b = false) : a.Share b := by
  simp only [Clip.apart, Bool.or_eq_false_iff, decide_eq_false_iff_not] at h
  refine ⟨max a.start b.start, ?_⟩
  omega

theorem overlaps_iff (g : ClickGen) (n : Fin 16) (c : Clip) (hc : 1 ≤ c.length)
    (hd : ∀ j d, tget g.directory j = some d → 1 ≤ d.length) :
    g.overlaps n c = true ↔ ∃ j d, j ≠ n ∧ tget g.directory j = some d ∧ c.Share d := by
  constructor
  · intro ho
    obtain ⟨j, -, hj⟩ := List.any_eq_true.mp ho
    cases hentry : tget g.directory j with
    | none => rw [hentry] at hj; cases hj
    | some d =>
      simp only [hentry, Bool.and_eq_true, bne_iff_ne, Bool.not_eq_true'] at hj
      exact ⟨j, d, hj.1, hentry, share_of_not_apart hc (hd j d hentry) hj.2⟩
  · rintro ⟨j, d, hj, hentry, hshare⟩
    by_contra ho
    exact not_share_of_overlaps (by simpa using ho) hj hentry hshare

theorem ownClipDefine_setup {d : Nat × Nat × Nat} {k : Fin 16} {u : State} (hsetup : u.inShow = false)
    (hk : idx? 16 d.1 = some k) :
    ownClipDefine d u =
      if d.2.2 = 0 then accept (putClip k none u)
      else if 8192 < d.2.2 ∨ 65536 < d.2.1 + d.2.2 then refuse .range u
      else if u.clicks.overlaps k { start := d.2.1, length := d.2.2 } then refuse .overlap u
      else accept (putClip k (some { start := d.2.1, length := d.2.2 }) u) := by
  rw [ownClipDefine, unlessShow_setup hsetup, hk]
  rfl

/-- Settles O25: the run is written as one, and a clip is defined where it shares no address. -/
theorem clipsStored : Obligations.ClipsStored := by
  refine ⟨fun r addr xs s hfree hprog haddr hlow hhigh hinv => ?_, fun r n a₁ a₀ l₁ l₀ s hfree hprog hinv => ?_⟩
  · have hdecode := payloadClipWrite_bytes haddr hlow hhigh
    refine ⟨_, rfl, fun hshow => ?_, fun hsetup hpast => ?_, fun hsetup hfits => ?_⟩
    · exact command_refused_served hfree hprog hdecode (unlessShow_show (s := validFrame r.port s) hshow)
    · exact command_refused_served hfree hprog hdecode
        ((unlessShow_setup (s := validFrame r.port s) hsetup).trans (if_pos hpast))
    · have howner : ownClipWrite (addr, xs) (validFrame r.port s) = accept { validFrame r.port s with
          clicks := { s.clicks with memory := ClipMem.writeRun s.clicks.memory addr xs } } :=
        (unlessShow_setup (s := validFrame r.port s) hsetup).trans (if_neg (Nat.not_lt.mpr hfits))
      obtain ⟨hstate, hserved⟩ := command_accepted_quietly (roles := [.prog]) (owner := ownClipWrite) hfree hprog rfl hdecode
        howner rfl
      have hmemory : (command r [.prog] payloadClipWrite (beBytes 2 addr ++ xs.flatMap sampleBytes) ownClipWrite
          s).clicks.memory = ClipMem.writeRun s.clicks.memory addr xs :=
        (congrArg (fun t : State => t.clicks.memory) hstate :)
      refine ⟨?_, hserved, ?_, fun a => ?_⟩
      · rw [hmemory]
        exact hstate
      · rw [hmemory]
        exact ClipMem.writeRun_wf xs hinv.memory hfits
      · rw [hmemory]
        exact ClipMem.read_writeRun xs hinv.memory hfits a
  · intro c
    have hdecode : payloadClipDefine [n, a₁, a₀, l₁, l₀] = some (n.toNat, c.start, c.length) := rfl
    refine ⟨_, rfl, ?_⟩
    intro refused stored
    refine ⟨fun hshow => ?_, fun hsetup hn => ?_, fun hsetup k hk => ?_⟩
    · exact command_refused_served hfree hprog hdecode (unlessShow_show (s := validFrame r.port s) hshow)
    · refine command_refused_served hfree hprog hdecode
        ((unlessShow_setup (s := validFrame r.port s) hsetup).trans ?_)
      rw [idx?_none hn]
    · have hindex : idx? 16 n.toNat = some k := by rw [hk, toNat_byteOf_val (by decide), idx?_val]
      have howner := ownClipDefine_setup (d := (n.toNat, c.start, c.length)) (u := validFrame r.port s) hsetup hindex
      dsimp only at howner
      have hstored : ∀ e : Option Clip, ownClipDefine (n.toNat, c.start, c.length) (validFrame r.port s) =
          accept (putClip k e (validFrame r.port s)) → stored k e := by
        intro e ho
        rw [putClip, bne_eq_decide_ne] at ho
        exact command_accepted (clamp := false) (roles := [.prog]) (owner := ownClipDefine) hfree hprog rfl hdecode ho rfl
      have hlengths : ∀ j d, tget s.clicks.directory j = some d → 1 ≤ d.length := fun j d hd => (hinv.spans j d hd).1
      refine ⟨fun hzero => hstored none ?_, fun hlow hbad => ?_, fun hlow hhigh hspan => ⟨fun hshare => ?_,
        fun hapart => hstored (some c) ?_⟩⟩
      · rw [howner, if_pos hzero]
      · refine command_refused_served hfree hprog hdecode (howner.trans ?_)
        rw [if_neg (by omega), if_pos hbad]
      · refine command_refused_served hfree hprog hdecode (howner.trans ?_)
        rw [if_neg (by omega), if_neg (by omega), if_pos]
        exact (overlaps_iff s.clicks k c hlow hlengths).mpr hshare
      · rw [howner, if_neg (by omega), if_neg (by omega), if_neg]
        rw [show (validFrame r.port s).clicks = s.clicks from rfl, overlaps_iff s.clicks k c hlow hlengths]
        rintro ⟨j, d, hj, hd, hshare⟩
        exact hapart j d hj hd hshare

/-! ## The edits of the cue list (R59 to R67) -/

/-- The entries of a stored cue are sorted by slot (R59). -/
theorem stored_changes_eq (c : Cue) :
    c.stored.changes = c.changes.insertionSort fun x y => x.slot ≤ y.slot := by
  have hinsert : ∀ (e : ChangeEntry) (l : List ChangeEntry),
      insertChange e l = l.orderedInsert (fun x y => x.slot ≤ y.slot) e := by
    intro e l
    induction l with
    | nil => rfl
    | cons f l ih => rw [insertChange, List.orderedInsert_cons, ih]
  show c.changes.foldr insertChange [] = c.changes.foldr _ []
  rw [funext fun e => funext (hinsert e)]

theorem stored_changes_perm (c : Cue) : c.stored.changes.Perm c.changes := by
  rw [stored_changes_eq]
  exact List.perm_insertionSort _ _

theorem stored_changes_rise (c : Cue) : c.stored.changes.Pairwise fun x y => x.slot ≤ y.slot := by
  have htotal : Std.Total fun x y : ChangeEntry => x.slot ≤ y.slot := ⟨fun x y => Nat.le_total x.slot y.slot⟩
  have htrans : IsTrans ChangeEntry fun x y => x.slot ≤ y.slot := ⟨fun _ _ _ => Nat.le_trans⟩
  rw [stored_changes_eq]
  exact List.pairwise_insertionSort _ _

section Find

variable {t : Tables} {n : Nat}

theorem find_eq_none (h : ∀ d ∈ t.cues, d.number ≠ n) : t.find n = none := by
  rw [Tables.find, List.find?_eq_none]
  intro d hd
  simpa using h d hd

variable {before after : List Cue} {old : Cue} (hcues : t.cues = before ++ old :: after) (hold : old.number = n)
  (hothers : ∀ d ∈ before ++ after, d.number ≠ n)
include hcues hold hothers

/-- The one cue of a number is found. -/
theorem find_eq_some : t.find n = some old := by
  rw [Tables.find, hcues, List.find?_eq_some_iff_append]
  refine ⟨by simpa using hold, before, after, rfl, fun d hd => ?_⟩
  simpa using hothers d (List.mem_append_left _ hd)

theorem map_replace_eq (c : Cue) :
    (t.cues.map fun d => if d.number = n then c else d) = before ++ c :: after := by
  have hkeep : ∀ l : List Cue, (∀ d ∈ l, d.number ≠ n) → (l.map fun d => if d.number = n then c else d) = l := fun l hl => by
    conv_rhs => rw [← List.map_id l]
    exact List.map_congr_left fun d hd => if_neg (hl d hd)
  rw [hcues, List.map_append, List.map_cons, if_pos hold, hkeep before fun d hd => hothers d (List.mem_append_left _ hd),
    hkeep after fun d hd => hothers d (List.mem_append_right _ hd)]

theorem filter_delete_eq : (t.cues.filter fun d => d.number != n) = before ++ after := by
  rw [hcues, List.filter_append, List.filter_cons_of_neg (by simpa using hold), ← List.filter_append,
    List.filter_eq_self]
  intro d hd
  simpa using hothers d hd

end Find

/-- The edits of the owner in SETUP, past the record's own check. -/
theorem ownCueInsert_valid {c : Cue} {u : State} (hsetup : u.inShow = false) (hv : c.valid = true) :
    ownCueInsert c u =
      if (u.tables.find c.number).isSome then refuse .duplicate u
      else if 1000 ≤ u.tables.cues.length then refuse .full u
      else if 4000 - poolUsed u.tables.cues < c.changes.length then refuse .poolFull u
      else accept (setCues (insertCue c.stored u.tables.cues) u) := by
  rw [ownCueInsert, if_neg (by simp [hsetup]), if_neg (by simp [hv])]
  rfl

theorem ownCueReplace_valid {c : Cue} {u : State} (hsetup : u.inShow = false) (hv : c.valid = true) :
    ownCueReplace c u = (u.tables.find c.number).elim (refuse .noCue u) fun old =>
      if u.tables.freeCount + old.changes.length < c.changes.length then refuse .poolFull u
      else accept (setCues (u.tables.cues.map fun d => if d.number = c.number then c.stored else d) u) := by
  rw [ownCueReplace, if_neg (by simp [hsetup]), if_neg (by simp [hv])]
  cases u.tables.find c.number <;> rfl

/-- Settles O26, in the order of the tests of TABLE 4-3. -/
theorem cueListEdited : Obligations.CueListEdited := by
  refine ⟨fun r p c s hfree hprog hp => ?_, fun r s hfree hprog => ⟨fun p c hp => ?_, fun a b c d => ?_, ?_⟩⟩
  · refine ⟨_, rfl, ?_⟩
    intro refused
    refine ⟨fun hshow => ?_, fun hsetup hv => ?_, fun hsetup hv hdup => ?_, fun hsetup hv hnew => ⟨fun hfull => ?_,
      fun hroom hpool => ?_, fun hroom hpool => ?_⟩⟩
    · exact command_refused_served (owner := ownCueInsert) hfree hprog hp (if_pos hshow)
    · refine command_refused_served (owner := ownCueInsert) hfree hprog hp ?_
      exact (if_neg (by simp [hsetup])).trans (if_pos (by simp [hv]))
    · have hfind : ((validFrame r.port s).tables.find c.number).isSome = true := by
        obtain ⟨d, hd, hn⟩ := hdup
        exact List.find?_isSome.mpr ⟨d, hd, by simpa using hn⟩
      exact command_refused_served hfree hprog hp
        ((ownCueInsert_valid (u := validFrame r.port s) hsetup hv).trans (if_pos hfind))
    all_goals
      have hfind : ¬ ((validFrame r.port s).tables.find c.number).isSome = true := by
        rw [show (validFrame r.port s).tables = s.tables from rfl, find_eq_none hnew]
        simp
      have howner := (ownCueInsert_valid (u := validFrame r.port s) hsetup hv).trans (if_neg hfind)
    · exact command_refused_served hfree hprog hp (howner.trans (if_pos hfull))
    · exact command_refused_served hfree hprog hp (howner.trans ((if_neg (Nat.not_le.mpr hroom)).trans (if_pos hpool)))
    · have haccept := howner.trans ((if_neg (Nat.not_le.mpr hroom)).trans (if_neg (Nat.not_lt.mpr hpool)))
      obtain ⟨hstate, hserved⟩ := command_notified (roles := [.prog]) hfree hprog rfl hp haccept rfl
      have hcues : (command r [.prog] payloadCue p ownCueInsert s).tables.cues = insertCue c.stored s.tables.cues :=
        (congrArg (fun t : State => t.tables.cues) hstate :)
      refine ⟨?_, hserved, ⟨c.stored, rfl, stored_changes_perm c, stored_changes_rise c, ?_⟩, fun hrise => ?_⟩
      · rw [hcues]
        exact hstate
      · rw [hcues]
        exact insertCue_perm c.stored s.tables.cues
      · rw [hcues]
        exact insertCue_rises hnew hrise
  · refine ⟨_, rfl, ?_⟩
    intro refused
    refine ⟨fun hshow => ?_, fun hsetup hv => ?_, fun hsetup hv hnone => ?_,
      fun before after old hsetup hv hcues hold hothers => ⟨fun hpool => ?_, fun hpool => ?_⟩⟩
    · exact command_refused_served (owner := ownCueReplace) hfree hprog hp (if_pos hshow)
    · refine command_refused_served (owner := ownCueReplace) hfree hprog hp ?_
      exact (if_neg (by simp [hsetup])).trans (if_pos (by simp [hv]))
    · refine command_refused_served hfree hprog hp ((ownCueReplace_valid (u := validFrame r.port s) hsetup hv).trans ?_)
      rw [show (validFrame r.port s).tables = s.tables from rfl, find_eq_none hnone]
      rfl
    all_goals
      have howner : ownCueReplace c (validFrame r.port s) = _ :=
        (ownCueReplace_valid (u := validFrame r.port s) hsetup hv).trans
          (congrArg (fun o => Option.elim o _ _) (find_eq_some hcues hold hothers))
    · exact command_refused_served hfree hprog hp (howner.trans (if_pos hpool))
    · have haccept := howner.trans (if_neg (Nat.not_lt.mpr hpool))
      obtain ⟨hstate, hserved⟩ := command_notified (roles := [.prog]) hfree hprog rfl hp haccept rfl
      rw [show (validFrame r.port s).tables = s.tables from rfl, map_replace_eq hcues hold hothers] at hstate
      exact ⟨hstate, hserved⟩
  · refine ⟨_, rfl, fun hshow => ?_, fun hsetup hnone => ?_, fun before after old hsetup hcues hold hothers => ?_⟩
    · exact command_refused_served (owner := ownCueDelete) hfree hprog (payload4_bytes a b c d) (if_pos hshow)
    · refine command_refused_served (owner := ownCueDelete) hfree hprog (payload4_bytes a b c d) ?_
      refine (if_neg (by simp [hsetup])).trans (if_pos ?_)
      rw [show (validFrame r.port s).tables = s.tables from rfl, find_eq_none hnone]
      rfl
    · have haccept : ownCueDelete (word4 a b c d) (validFrame r.port s) =
          accept (setCues (before ++ after) (validFrame r.port s)) := by
        refine (if_neg (by simp [hsetup])).trans ((if_neg ?_).trans ?_)
        · rw [show (validFrame r.port s).tables = s.tables from rfl, find_eq_some hcues hold hothers]
          simp
        · rw [show (validFrame r.port s).tables = s.tables from rfl, filter_delete_eq hcues hold hothers]
      exact command_notified (roles := [.prog]) hfree hprog rfl (payload4_bytes a b c d) haccept rfl
  · refine ⟨_, rfl, fun hshow => ?_, fun hsetup => ?_⟩
    · exact command_refused_served (decode := payloadNone) (owner := fun _ => ownTableClear) hfree hprog rfl (if_pos hshow)
    · have haccept : ownTableClear (validFrame r.port s) = accept (setCues [] (validFrame r.port s)) :=
        if_neg (by simp [hsetup])
      obtain ⟨hstate, hserved⟩ := command_notified (decode := payloadNone) (payload := []) (roles := [.prog])
        (owner := fun _ => ownTableClear) hfree hprog rfl rfl haccept rfl
      exact ⟨hstate, (congrArg (fun t : State => t.tables.freeCount) hstate :), hserved⟩

/-! ## The chase of the last cue (R71, R72) -/

/-- The cues of a chase at a list that ends in the chased cue. -/
theorem upTo_last {t : Tables} {l : List Cue} {c : Cue} (hcues : t.cues = l ++ [c]) :
    t.upTo (.cue c.number) = ({ t with cues := l } : Tables).upTo (.cue c.number) ++ [c] := by
  simp [Tables.upTo, hcues, List.filter_append]

/-- What the last cue of a chase gives wins over what the cues before it give. -/
theorem getLast?_filterMap_concat {α β : Type} (f : α → Option β) (l : List α) (a : α) :
    ((l ++ [a]).filterMap f).getLast? = (f a).or (l.filterMap f).getLast? := by
  rw [List.filterMap_append]
  cases h : f a with
  | none => simp [h]
  | some b => simp [h]

/-- Settles O28, for the four chases in the same way. -/
theorem chaseOfTheLastCue : Obligations.ChaseOfTheLastCue := by
  intro t k l c hcues _ before here
  have hupTo := upTo_last hcues
  refine ⟨?_, ?_, ?_, ?_, rfl, rfl, rfl, rfl⟩
  · rw [Tables.patchChase, hupTo, getLast?_filterMap_concat]
    show _ = match c.entry k with
      | some e => (e.pair, some c.number)
      | none => before.patchChase here k
    cases c.entry k <;> rfl
  · rw [Tables.tempoChase, hupTo, getLast?_filterMap_concat]
    cases c.tempo <;> rfl
  · rw [Tables.meterChase, hupTo, getLast?_filterMap_concat]
    cases c.meter <;> rfl
  · rw [Tables.barChase, hupTo, getLast?_filterMap_concat]
    cases c.scoreBar <;> rfl

end Sys2Proof.Machine
end

section
/-!
PROOFS. The desk ports (R188 to R198): the transmitter, the notices, the roles and the loss of a port.
-/

namespace Sys2Proof.Machine
set_option Elab.async false

/-- Two states with the same parts are the same. -/
theorem state_ext {s t : State} (time : s.time = t.time) (tempo : s.tempo = t.tempo) (beats : s.beats = t.beats)
    (clicks : s.clicks = t.clicks) (tables : s.tables = t.tables) (pointer : s.pointer = t.pointer)
    (rigs : s.rigs = t.rigs) (picture : s.picture = t.picture) (overlay : s.overlay = t.overlay)
    (stops : s.stops = t.stops) (resume : s.resume = t.resume) (desk : s.desk = t.desk)
    (pending : s.pending = t.pending) : s = t := by
  cases s
  cases t
  simp_all

/-! ## The transmitter (R189, R198) -/

theorem setPort_setPort (s : State) (p : DeskPort) (d e : DeskPortRec) : (s.setPort p d).setPort p e = s.setPort p e := by
  simp [State.setPort]

theorem setPort_same (s : State) (p : DeskPort) : s.setPort p (s.port p) = s := by
  simp [State.setPort, State.port]

theorem chooseFrame_setPort (s : State) (p : DeskPort) (d : DeskPortRec) :
    chooseFrame p (s.setPort p d) = s.setPort p d.choose := by
  rw [chooseFrame, port_setPort_same, setPort_setPort]

theorem exec_replySent (p : DeskPort) (s : State) :
    exec (.replySent p) s = .next (s.setPort p (s.port p).replyDone.choose) :=
  congrArg Host.Outcome.next (chooseFrame_setPort ..)

theorem exec_noticeSent (p : DeskPort) (s : State) :
    exec (.noticeSent p) s = .next (s.setPort p (s.port p).noticeDone.choose) :=
  congrArg Host.Outcome.next (chooseFrame_setPort ..)

/-- A busy transmitter chooses nothing. -/
theorem choose_of_tx {d : DeskPortRec} (h : d.tx ≠ none) : d.choose = d := by
  obtain ⟨x, hx⟩ := Option.ne_none_iff_exists'.mp h
  simp only [DeskPortRec.choose, hx]

/-- A free transmitter with nothing that waits for it chooses nothing. -/
theorem choose_idle {d : DeskPortRec} (hq : ∀ q, d.inProgress = some q → q.begun = true) (hw : d.waitingBusy = none) :
    d.choose = d := by
  by_cases htx : d.tx = none
  · cases hp : d.inProgress with
    | none => simp only [DeskPortRec.choose, htx, hp, hw]
    | some q =>
      obtain ⟨tag, reply, begun⟩ := q
      obtain rfl : begun = true := hq _ hp
      simp only [DeskPortRec.choose, htx, hp, hw]
  · exact choose_of_tx htx

/-- The reply of a request in progress begins first (R189). -/
theorem choose_reply {d : DeskPortRec} {q : Progress} (htx : d.tx = none) (hp : d.inProgress = some q)
    (hq : q.begun = false) :
    d.choose = { d with inProgress := some { q with begun := true }, tx := some ⟨.reply, replyFrame q.tag q.reply⟩ } := by
  obtain ⟨tag, reply, begun⟩ := q
  obtain rfl : begun = false := hq
  simp only [DeskPortRec.choose, htx, hp]

/-- The waiting BUSY reply begins where no reply waits, and then waits no longer (R189, log 49). -/
theorem choose_busy {d : DeskPortRec} {w : Byte} (htx : d.tx = none) (hp : d.inProgress = none) (hw : d.waitingBusy = some w) :
    d.choose = { d with waitingBusy := none, tx := some ⟨.busy, replyFrame w ⟨.busy, []⟩⟩ } := by
  simp only [DeskPortRec.choose, htx, hp, hw]

theorem mayNotice_iff (d : DeskPortRec) :
    d.mayNotice = true ↔ d.active = true ∧ d.pendingSet ≠ 0 ∧ d.outstanding = false ∧ d.choose.tx = none := by
  simp [DeskPortRec.mayNotice, and_assoc]

/-- The transmitter stays free just where it is free and no reply waits for it. -/
theorem choose_tx_none {d : DeskPortRec} (h : d.choose.tx = none) :
    d.tx = none ∧ d.waitingBusy = none ∧ ∀ q, d.inProgress = some q → q.begun = true := by
  by_cases htx : d.tx = none
  · refine ⟨htx, ?_⟩
    cases hp : d.inProgress with
    | none =>
      cases hw : d.waitingBusy with
      | none => exact ⟨rfl, fun q hq => by cases hq⟩
      | some w => rw [choose_busy htx hp hw] at h; cases h
    | some q =>
      obtain ⟨tag, reply, begun⟩ := q
      cases begun
      · rw [choose_reply htx hp rfl] at h
        cases h
      · cases hw : d.waitingBusy with
        | none => exact ⟨rfl, fun q hq => by rw [← Option.some.inj hq]⟩
        | some w => simp only [DeskPortRec.choose, htx, hp, hw, reduceCtorEq] at h
  · rw [choose_of_tx htx] at h
    exact absurd h htx

/-! ## Requests open to any port -/

/-- A command open to any port whose payload decodes is its owner's request. -/
theorem openCommand_eq {α : Type} {r : Req} {decode : List Byte → Option α} {payload : List Byte}
    {owner : α → State → Answer} {a : α} (hd : decode payload = some a) (s : State) :
    openCommand r decode payload owner s = request r (owner a) s := by
  rw [openCommand]
  congr 1
  funext u
  rw [hd]

/-- A notice mask after a write of a byte (R195, R197). -/
def writtenMask (old x : Byte) : FlagOp → Byte
  | .swap => x
  | .set => old ||| x
  | .clear => old &&& ~~~x

/-- Every bit of a byte names a kind, so that every byte is a mask (R197). -/
theorem writeNoticeMask_eq (op : FlagOp) (p : DeskPort) (x : Byte) (u : State) :
    writeNoticeMask op p [x] u = accept (u.setPort p ((u.port p).setMask (writtenMask (u.port p).mask x op))) := by
  have hbits : x &&& ~~~allKinds = 0 := by
    have hnone : ~~~allKinds = 0 := by decide
    rw [hnone]
    exact BitVec.and_zero
  have hwrite : flagWrite allKinds (u.port p).mask op [x] = some (writtenMask (u.port p).mask x op) := by
    cases op <;> exact if_pos hbits
  rw [writeNoticeMask, inRange_some hwrite]

/-- Settles O51: the transmitter by what it sends, the notices by their port. -/
theorem noticesAndFramesSent : Obligations.NoticesAndFramesSent := by
  refine ⟨fun p s => ?_, fun r x s hfree => ⟨?_, fun op hx => ⟨?_, fun q hq => ?_⟩⟩⟩
  · intro d
    refine ⟨fun f q htx hp hq => ⟨fun hw => ?_, fun w hw => ?_⟩, fun f q c hc => ?_, fun ⟨f, htx⟩ => ?_,
      fun ⟨k, f, hk, htx⟩ => ?_, fun hactive hpending hout htx hp hw => ?_, fun hnot => ?_⟩
    · have hdone : d.replyDone = { d with tx := none, inProgress := none } := by
        simp only [DeskPortRec.replyDone, htx, hp, Option.bind_some, hq, if_true]
      rw [exec_replySent, show (s.port p).replyDone = _ from hdone, choose_idle (d := { d with tx := none, inProgress := none })
        (fun q hq => by cases hq) hw]
    · have hdone : d.replyDone = { d with tx := none, inProgress := none } := by
        simp only [DeskPortRec.replyDone, htx, hp, Option.bind_some, hq, if_true]
      rw [exec_replySent, show (s.port p).replyDone = _ from hdone, choose_busy (d := { d with tx := none, inProgress := none })
        rfl rfl hw]
      rfl
    · have hexec : exec c s = .next (s.setPort p ({ d with tx := none } : DeskPortRec).choose) := by
        rcases hc with ⟨rfl, htx⟩ | ⟨rfl, htx⟩
        · have hdone : d.replyDone = { d with tx := none } := by simp only [DeskPortRec.replyDone, htx]
          rw [exec_replySent, show (s.port p).replyDone = _ from hdone]
        · have hdone : d.noticeDone = { d with tx := none } := by simp only [DeskPortRec.noticeDone, htx]
          rw [exec_noticeSent, show (s.port p).noticeDone = _ from hdone]
      refine ⟨fun hp hw => ?_, fun hp hq => ?_⟩
      · rw [hexec, choose_idle (d := { d with tx := none })
          (fun q hq => by rw [show d.inProgress = none from hp] at hq; cases hq) hw]
      · rw [hexec, choose_reply (d := { d with tx := none }) rfl hp hq]
        rfl
    · have hdone : d.replyDone = d := by simp only [DeskPortRec.replyDone, htx]
      rw [exec_replySent, show (s.port p).replyDone = _ from hdone, choose_of_tx (by simp [htx]), setPort_same]
    · have hdone : d.noticeDone = d := by
        cases k
        · simp only [DeskPortRec.noticeDone, htx]
        · simp only [DeskPortRec.noticeDone, htx]
        · exact absurd rfl hk
      rw [exec_noticeSent, show (s.port p).noticeDone = _ from hdone, choose_of_tx (by simp [htx]), setPort_same]
    · have hmay : (s.port p).mayNotice = true := (mayNotice_iff _).mpr ⟨hactive, hpending, hout, by
        rw [choose_idle (fun q hq => by rw [show (s.port p).inProgress = none from hp] at hq; cases hq) hw]
        exact htx⟩
      show execNotice p s = _
      rw [execNotice, if_pos hmay]
      rfl
    · have hmay : ¬ (s.port p).mayNotice = true := by
        rw [mayNotice_iff]
        rintro ⟨hactive, hpending, hout, hchoose⟩
        obtain ⟨htx, hw, hq⟩ := choose_tx_none hchoose
        rcases hnot with h | h | h | h | h | ⟨q, hp, hbegun⟩
        · rw [show (s.port p).active = false from h] at hactive
          cases hactive
        · exact hpending h
        · rw [show (s.port p).outstanding = true from h] at hout
          cases hout
        · exact h htx
        · exact h hw
        · rw [hq q hp] at hbegun
          cases hbegun
      show execNotice p s = _
      rw [execNotice, if_neg hmay]
  · have hd : payloadKinds [x] = some x := rfl
    have hport := port_request (r := r) (s := s) (reply := ⟨.ok, []⟩)
      (act := fun u => accept (u.setPort r.port ((u.port r.port).ackNotice x))) hfree rfl
    obtain ⟨hstate, hreplied⟩ := request_replied (r := r) (s := s)
      (act := fun u => accept (u.setPort r.port ((u.port r.port).ackNotice x))) hfree rfl
    refine ⟨_, congrArg Host.Outcome.next (openCommand_eq hd s), hstate.trans rfl, hreplied, ?_, ?_, ?_, ?_, fun q hq => ?_⟩
    · rw [hport, if_pos rfl, port_setPort_same, port_validFrame, if_pos rfl]; rfl
    · rw [hport, if_pos rfl, port_setPort_same]; rfl
    · rw [hport, if_pos rfl, port_setPort_same, port_validFrame, if_pos rfl]; rfl
    · rw [hport, if_pos rfl, port_setPort_same, port_validFrame, if_pos rfl]; rfl
    · rw [hport, if_neg (Ne.symm hq), port_setPort_ne _ _ _ _ hq, port_validFrame, if_neg (Ne.symm hq)]
  · have hreach : Reaches .noticeMask op r (byteOf r.port.val) [x] s :=
      { free := hfree
        form := by cases op <;> rfl
        inst := by
          rw [toNat_byteOf_val (by decide)]
          exact r.port.isLt
        flag := hx.imp id fun hx => ⟨rfl, fun he => hx (List.cons.inj he).1⟩
        writable := by decide
        may := by
          show (r.port.val == (byteOf r.port.val).toNat) = true
          rw [toNat_byteOf_val (by decide)]
          exact beq_self_eq_true _ }
    have hvalue : Item.noticeMask.value (byteOf r.port.val).toNat s = [(s.port r.port).mask] := by
      simp [Item.value, Item.lowValue, Item.middleValue, Item.highValue, atInstance_byteOf]
    have hanswer : Item.noticeMask.operate (opOfFlag op) r.port (byteOf r.port.val).toNat [x] (validFrame r.port s) =
        ⟨⟨.ok, [(s.port r.port).mask]⟩, (validFrame r.port s).setPort r.port
          (((validFrame r.port s).port r.port).setMask (writtenMask (s.port r.port).mask x op))⟩ := by
      refine hreach.operate.trans ?_
      rw [hvalue, show Item.noticeMask.store op (byteOf r.port.val).toNat [x] (validFrame r.port s) =
        writeNoticeMask op r.port [x] (validFrame r.port s) from withInstance_byteOf (by decide) r.port _ _,
        writeNoticeMask_eq, port_validFrame, if_pos rfl]
      rfl
    have hport := port_request (act := Item.noticeMask.operate (opOfFlag op) r.port (byteOf r.port.val).toNat [x]) hfree hanswer
    obtain ⟨hstate, hreplied⟩ := request_replied hfree hanswer
    have hown : ((itemRequest .noticeMask (opOfFlag op) r (byteOf r.port.val) [x] s).port r.port) = _ := hport r.port
    rw [if_pos rfl, port_setPort_same, port_validFrame, if_pos rfl] at hown
    refine ⟨_, rfl, hstate.trans rfl, hreplied, ?_, ?_, ?_, ?_, fun q hq => ?_⟩
    · rw [hown]
      cases op <;> rfl
    · rw [hown]
      rfl
    · rw [hown]
      rfl
    · rw [hown]
      rfl
    · refine (hport q).trans ?_
      rw [if_neg (Ne.symm hq), port_setPort_ne _ _ _ _ hq, port_validFrame, if_neg (Ne.symm hq)]
  · have hinst : (byteOf q.val).toNat < Item.noticeMask.instances := by
      rw [toNat_byteOf_val (by decide)]
      exact q.isLt
    have hwrite : opWrite (opOfFlag op) [x] = some op := by
      rw [opWrite_opOfFlag, if_neg]
      rintro ⟨hmask, hzero⟩
      rcases hx with h | h
      · exact hmask h
      · exact h (List.cons.inj hzero).1
    refine ⟨_, rfl, itemRequest_served hfree (operate_noRight (by cases op <;> rfl) hinst (fun _ => rfl) hwrite (by decide) ?_)⟩
    show (r.port.val == (byteOf q.val).toNat) = false
    rw [toNat_byteOf_val (by decide)]
    exact beq_eq_false_iff_ne.mpr fun he => hq (Fin.ext he).symm

/-! ## Roles (R191 to R193) -/

/-- The port records stand but for kinds made pending. -/
def PortsStand (s t : State) : Prop := ∀ q, { t.port q with pendingSet := 0 } = { s.port q with pendingSet := 0 }

theorem PortsStand.refl (s : State) : PortsStand s s := fun _ => rfl

theorem PortsStand.congr {s t u : State} (h : PortsStand s t) (hd : u.desk = t.desk) : PortsStand s u := fun q => by
  rw [port_congr hd]
  exact h q

/-- What the port records keep, every part but the pending set reads as before. -/
theorem PortsStand.field {α : Type} {s t : State} (h : PortsStand s t) (f : DeskPortRec → α)
    (hf : ∀ d : DeskPortRec, f { d with pendingSet := 0 } = f d := by intro; rfl) (q : DeskPort) :
    f (t.port q) = f (s.port q) := by
  rw [← hf (t.port q), h q, hf]

/-- The port records stand under everything but the writes of the desk. -/
theorem portsStand_untimed (s : State) : Untimed (PortsStand s) where
  notify k t ht q := by rw [port_notify]; exact ht q
  time _ _ ht := ht.congr rfl
  pointer _ _ ht := ht.congr rfl
  overlay _ _ ht := ht.congr rfl
  resume _ _ ht := ht.congr rfl
  clicks _ _ _ _ ht := ht.congr rfl
  rigs _ _ _ ht := ht.congr rfl
  picture _ _ _ ht := ht.congr rfl
  stops _ _ _ ht := ht.congr rfl
  anyTempo _ _ ht := ht.congr rfl
  anyBeats _ _ ht := ht.congr rfl
  noHoldOff _ ht := ht.congr rfl
  anyStops _ _ ht := ht.congr rfl
  session _ _ ht := ht.congr rfl

theorem Steady.of_clearMdReady {I : State → Prop} (h : Steady I) {s : State} (hs : I s) : I (clearMdReady s) := by
  have hr : I (notifyIf s.resume.mdReady .stop { s with resume := { s.resume with mdReady := false } }) :=
    h.of_notifyIf _ _ (h.resume _ s hs)
  unfold clearMdReady
  dsimp only
  split
  · next hstate => exact h.of_setStopState (by rw [hstate]; rfl) hr
  · exact hr

/-- Clearing md_ready takes RESUME_ARMED back to RESTORING, and nothing else but the rigs and the desk moves (R179). -/
theorem clearMdReady_eq (s : State) :
    clearMdReady s = { s with
      resume := { s.resume with mdReady := false }
      stops := { s.stops with state := if s.stops.state = .resumeArmed then .restoring else s.stops.state }
      rigs := (clearMdReady s).rigs
      desk := (clearMdReady s).desk } := by
  by_cases hstate : s.stops.state = .resumeArmed
  · apply state_ext <;> simp [clearMdReady, hstate]
  · apply state_ext <;> simp [clearMdReady, hstate]

theorem port_setRole (p q : DeskPort) (role : Option Role) (s : State) :
    (setRole p role s).port q = ((s.setPort p { s.port p with role := role }).port q).addKinds NoticeKind.table.bit :=
  port_notify ..

theorem portsStand_setRole (p : DeskPort) (role : Option Role) (s : State) :
    PortsStand (s.setPort p { s.port p with role := role }) (setRole p role s) := fun q => by
  rw [port_setRole]
  rfl

/-- Who holds a role after one port's role is set. -/
theorem role_setRole {p : DeskPort} {role : Option Role} {s t : State}
    (h : PortsStand (s.setPort p { s.port p with role := role }) t) :
    (t.port p).role = role ∧ ∀ q, q ≠ p → (t.port q).role = (s.port q).role ∧ (t.port q).mask = (s.port q).mask := by
  refine ⟨?_, fun q hq => ⟨?_, ?_⟩⟩
  · rw [h.field (·.role), port_setPort_same]
  · rw [h.field (·.role), port_setPort_ne _ _ _ _ hq]
  · rw [h.field (·.mask), port_setPort_ne _ _ _ _ hq]

/-- A change of the role table makes the TABLE kind pending (R191). -/
theorem kindPending_setRole (p q : DeskPort) (role : Option Role) (s : State) :
    KindPending .table q (s.port q).mask (setRole p role s) := by
  have hk := kindPending_notify .table q (s.setPort p { s.port p with role := role })
  have hmask : ((s.setPort p { s.port p with role := role }).port q).mask = (s.port q).mask := by
    rw [port_setPort]
    split
    · next hpq => rw [hpq]
    · rfl
  rwa [hmask] at hk

theorem lowerCondition_of_not_raised {i : StopSource} {s : State} (h : s.stops.isRaised i = false) : lowerCondition i s = s := by
  simp [lowerCondition, h]

/-- The condition that the holder of a role lowers (R193). -/
def lowerLoss (role : Role) (s : State) : State :=
  match lossSource role with
  | some i => lowerCondition i s
  | none => s

theorem Untimed.of_lowerLoss {I : State → Prop} (h : Untimed I) (role : Role) {s : State} (hs : I s) : I (lowerLoss role s) := by
  cases role
  · exact h.of_lowerCondition _ hs
  · exact h.of_lowerCondition _ hs
  · exact hs
  · exact hs

/-- A role is granted where no port holds it and the port holds none (R191). -/
theorem ownClaim_eq (p : DeskPort) (role : Role) (s : State) :
    ownClaim p role s =
      if (∃ q, (s.port q).role = some role) ∨ (s.port p).role ≠ none then refuse .held s
      else accept (lowerLoss role (setRole p (some role) s)) := by
  have hholder : (holderOf role s).isSome = true ↔ ∃ q, (s.port q).role = some role := by
    have hall : ∀ q : DeskPort, q ∈ allDeskPorts := by decide
    simp [holderOf, List.find?_isSome, hall]
  have hcond : ((holderOf role s).isSome || (s.port p).role.isSome) = true ↔
      (∃ q, (s.port q).role = some role) ∨ (s.port p).role ≠ none := by
    rw [Bool.or_eq_true, hholder, Option.isSome_iff_ne_none]
  unfold ownClaim
  by_cases h : ((holderOf role s).isSome || (s.port p).role.isSome) = true
  · rw [if_pos h, if_pos (hcond.mp h)]
  · rw [if_neg h, if_neg fun h' => h (hcond.mpr h')]
    cases role <;> rfl

/-- A port's record after a request whose owner left the port's frames: everything but the reply in progress and the
frame on the line is the owner's. -/
theorem request_field {α : Type} {r : Req} {s u : State} {act : State → Answer} {reply : Reply} (hfree : Free r s)
    (ha : act (validFrame r.port s) = ⟨reply, u⟩) (f : DeskPortRec → α)
    (hf : ∀ (d : DeskPortRec) q x, f { d with inProgress := q, tx := x } = f d := by intros; rfl) (q : DeskPort) :
    f ((request r act s).port q) = f (u.port q) := by
  rw [port_request hfree ha]
  split
  · exact hf ..
  · rfl

/-- A request whose owner leaves the port records but for their roles and pending sets. -/
theorem roles_of_request {r : Req} {role : Option Role} {s u : State} {act : State → Answer} {reply : Reply} (hfree : Free r s)
    (ha : act (validFrame r.port s) = ⟨reply, u⟩)
    (hu : PortsStand ((validFrame r.port s).setPort r.port { (validFrame r.port s).port r.port with role := role }) u) :
    ((request r act s).port r.port).role = role ∧
      ∀ q, q ≠ r.port → ((request r act s).port q).role = (s.port q).role := by
  obtain ⟨hown, hothers⟩ := role_setRole hu
  refine ⟨(request_field hfree ha (·.role) (q := r.port)).trans hown, fun q hq => ?_⟩
  exact (request_field hfree ha (·.role) (q := q)).trans ((hothers q hq).1.trans (port_validFrame_fields r.port q s).1)

/-- A request whose owner makes the TABLE kind pending. -/
theorem table_pending_of_request {r : Req} {s u : State} {act : State → Answer} {reply : Reply} (hfree : Free r s)
    (ha : act (validFrame r.port s) = ⟨reply, u⟩)
    (hu : ∀ q, KindPending .table q ((validFrame r.port s).port q).mask u) (q : DeskPort)
    (hmask : (s.port q).mask &&& 0x40 = 0x40) : ((request r act s).port q).pendingSet &&& 0x40 = 0x40 := by
  rw [request_field hfree ha (·.pendingSet)]
  refine (hu q).2 ?_
  rw [(port_validFrame_fields r.port q s).2.1]
  exact hmask

/-- The claim of a role: refused HELD, or granted (R191, R193). -/
theorem claimRole_spec {r : Req} {s : State} (hfree : Free r s) (role : Role) :
    ∃ t, exec (.claimRole r [role.code]) s = .next t ∧
      (((∃ p, (s.port p).role = some role) ∨ (s.port r.port).role ≠ none) →
        t = { s with desk := t.desk } ∧ Served r .held [] 0 s t) ∧
      ((∀ p, (s.port p).role ≠ some role) → (s.port r.port).role = none →
        Replied r .ok [] t ∧ (t.port r.port).role = some role ∧
        (∀ q, q ≠ r.port → (t.port q).role = (s.port q).role) ∧
        (role = .sm → t.stops.isRaised .smLost = false) ∧ (role = .md → t.stops.isRaised .mdLost = false) ∧
        (∀ q, (s.port q).mask &&& 0x40 = 0x40 → (t.port q).pendingSet &&& 0x40 = 0x40) ∧
        ((role = .prog ∨ role = .foh ∨ (role = .sm ∧ s.stops.isRaised .smLost = false) ∨
          (role = .md ∧ s.stops.isRaised .mdLost = false)) → t = { s with desk := t.desk })) := by
  have hdecode : payloadRole [role.code] = some role := by cases role <;> rfl
  have hrole : ∀ q, ((validFrame r.port s).port q).role = (s.port q).role := fun q => (port_validFrame_fields r.port q s).1
  refine ⟨_, congrArg Host.Outcome.next (openCommand_eq hdecode s), fun hheld => ?_, fun hfor hown => ?_⟩
  · refine refused_served hfree ?_
    rw [ownClaim_eq, if_pos (by simpa only [hrole] using hheld)]
    rfl
  · have hanswer : ownClaim r.port role (validFrame r.port s) =
        accept (lowerLoss role (setRole r.port (some role) (validFrame r.port s))) := by
      rw [ownClaim_eq, if_neg]
      rintro (⟨q, hq⟩ | h)
      · exact hfor q ((hrole q).symm.trans hq)
      · exact h ((hrole r.port).trans hown)
    obtain ⟨hstate, hreplied⟩ := request_replied hfree hanswer
    obtain ⟨hmine, hothers⟩ := roles_of_request hfree hanswer
      ((portsStand_untimed _).of_lowerLoss role (portsStand_setRole r.port (some role) _))
    have hraised : ∀ i, lossSource role = some i → i.isCommand = false →
        (request r (ownClaim r.port role) s).stops.isRaised i = false := by
      intro i hi hcommand
      refine (congrArg (fun t : State => t.stops.isRaised i) hstate).trans ?_
      show (lowerLoss role _).stops.isRaised i = false
      rw [lowerLoss, hi]
      exact isRaised_lowerCondition hcommand _
    refine ⟨hreplied, hmine, hothers, fun h => hraised _ (by rw [h]; rfl) rfl, fun h => hraised _ (by rw [h]; rfl) rfl,
      table_pending_of_request hfree hanswer fun q =>
        (kindPending_untimed .table q _).of_lowerLoss role (kindPending_setRole r.port q _ _), fun hquiet => ?_⟩
    have hlower : lowerLoss role (setRole r.port (some role) (validFrame r.port s)) =
        setRole r.port (some role) (validFrame r.port s) := by
      rcases hquiet with rfl | rfl | ⟨rfl, hlow⟩ | ⟨rfl, hlow⟩
      · rfl
      · rfl
      · exact lowerCondition_of_not_raised hlow
      · exact lowerCondition_of_not_raised hlow
    rw [hlower] at hstate
    exact hstate.trans rfl

/-- The release of a role: nothing where the port holds none, else the role given up (R179, R191). -/
theorem releaseRole_spec {r : Req} {s : State} (hfree : Free r s) :
    ∃ t, exec (.releaseRole r []) s = .next t ∧
      ((s.port r.port).role = none → t = { s with desk := t.desk } ∧ Served r .ok [] 0 s t) ∧
      (∀ role, (s.port r.port).role = some role →
        Replied r .ok [] t ∧ (t.port r.port).role = none ∧ (∀ q, q ≠ r.port → (t.port q).role = (s.port q).role) ∧
        (∀ q, (s.port q).mask &&& 0x40 = 0x40 → (t.port q).pendingSet &&& 0x40 = 0x40) ∧
        (role ≠ .md → t = { s with desk := t.desk }) ∧
        (role = .md → t = { s with
          resume := { s.resume with mdReady := false }
          stops := { s.stops with state := if s.stops.state = .resumeArmed then .restoring else s.stops.state }
          rigs := t.rigs
          desk := t.desk })) := by
  have hown : ((validFrame r.port s).port r.port).role = (s.port r.port).role := (port_validFrame_fields r.port _ s).1
  refine ⟨_, congrArg Host.Outcome.next (openCommand_eq (decode := payloadNone) (payload := [])
    (owner := fun _ => ownReleaseRole r.port) rfl s), fun hnone => ?_, fun role hrole => ?_⟩
  · refine refused_served hfree ?_
    rw [ownReleaseRole, hown, hnone]
    rfl
  · have hanswer : ownReleaseRole r.port (validFrame r.port s) =
        accept (if role = .md then clearMdReady (setRole r.port none (validFrame r.port s))
          else setRole r.port none (validFrame r.port s)) := by
      rw [ownReleaseRole, hown, hrole]
    obtain ⟨hstate, hreplied⟩ := request_replied hfree hanswer
    have hkept : ∀ I : State → Prop, Steady I → I (setRole r.port none (validFrame r.port s)) →
        I (if role = .md then clearMdReady (setRole r.port none (validFrame r.port s))
          else setRole r.port none (validFrame r.port s)) := fun I h hs => ite_keeps (h.of_clearMdReady hs) hs
    obtain ⟨hmine, hothers⟩ := roles_of_request hfree hanswer
      (hkept _ (portsStand_untimed _).toSteady (portsStand_setRole r.port none _))
    refine ⟨hreplied, hmine, hothers, table_pending_of_request hfree hanswer fun q =>
      hkept _ (kindPending_untimed .table q _).toSteady (kindPending_setRole r.port q _ _), fun hmd => ?_, fun hmd => ?_⟩
    · rw [if_neg hmd] at hstate
      exact hstate.trans rfl
    · rw [if_pos hmd, clearMdReady_eq] at hstate
      generalize request r _ s = t at hstate
      rw [hstate]
      rfl

/-- Settles O52: the claim and the release of a role. -/
theorem rolesClaimedAndReleased : Obligations.RolesClaimedAndReleased := fun _ _ hfree =>
  ⟨fun role => claimRole_spec hfree role, releaseRole_spec hfree⟩

/-! ## Loss of a port (R188, R192 to R194) -/

/-- What the loss of a port does to the roles and to the conditions (R192, R193). -/
def RoleLost (p : DeskPort) (s t : State) : Prop :=
  ((s.port p).role = none → t = { s with desk := t.desk }) ∧
  ((s.port p).role = some .sm → s.inShow = true → t.stops.isRaised .smLost = true) ∧
  ((s.port p).role = some .md → s.inShow = true → t.stops.isRaised .mdLost = true) ∧
  ((s.port p).role = some .md → t.resume.mdReady = false) ∧
  (s.inShow = false → t.stops.raised = s.stops.raised) ∧
  (∀ q, q ≠ p → (t.port q).role = (s.port q).role ∧ (t.port q).mask = (s.port q).mask)

/-- The condition that the loss of a role raises in SHOW (R193). -/
def raiseLoss (role : Role) (s : State) : State :=
  if s.inShow then
    match lossSource role with
    | some i => raiseCondition i s
    | none => s
  else s

theorem Untimed.of_raiseLoss {I : State → Prop} (h : Untimed I) (role : Role) {s : State} (hs : I s) : I (raiseLoss role s) := by
  refine ite_keeps ?_ hs
  cases role
  · exact h.keptByCues.of_raiseCondition _ hs
  · exact h.keptByCues.of_raiseCondition _ hs
  · exact hs
  · exact hs

theorem loseRole_none {p : DeskPort} {s : State} (h : (s.port p).role = none) : loseRole p s = s := by
  rw [loseRole, h]

theorem loseRole_some {p : DeskPort} {s : State} {role : Role} (h : (s.port p).role = some role) :
    loseRole p s = if role = .md then clearMdReady (raiseLoss role (setRole p none s)) else raiseLoss role (setRole p none s) := by
  rw [loseRole, h]
  cases role <;> rfl

/-- The loss of a role leaves the port records but for that role and the pending sets. -/
theorem loseRole_ports (p : DeskPort) (s : State) :
    PortsStand (s.setPort p { s.port p with role := none }) (loseRole p s) := by
  cases h : (s.port p).role with
  | none =>
    have hsame : ({ s.port p with role := none } : DeskPortRec) = s.port p := by rw [← h]
    rw [loseRole_none h, hsame, setPort_same]
    exact .refl s
  | some role =>
    have hr := (portsStand_untimed _).of_raiseLoss role (portsStand_setRole p none s)
    rw [loseRole_some h]
    exact ite_keeps ((portsStand_untimed _).toSteady.of_clearMdReady hr) hr

/-- Outside SHOW the loss of a role raises nothing (R193). -/
theorem loseRole_raised {p : DeskPort} {s : State} (h : s.inShow = false) : (loseRole p s).stops.raised = s.stops.raised := by
  cases hr : (s.port p).role with
  | none => rw [loseRole_none hr]
  | some role =>
    have hquiet : raiseLoss role (setRole p none s) = setRole p none s :=
      if_neg (by simpa [State.inShow, setRole] using h)
    rw [loseRole_some hr, hquiet]
    split
    · rw [clearMdReady_eq]
      simp [setRole]
    · simp [setRole]

/-- In SHOW the loss of SM raises SM_LOST, and the loss of MD raises MD_LOST (R193). -/
theorem loseRole_isRaised {p : DeskPort} {s : State} {role : Role} {i : StopSource} (hr : (s.port p).role = some role)
    (hi : lossSource role = some i) (hcommand : i.isCommand = false) (h : s.inShow = true) :
    (loseRole p s).stops.isRaised i = true := by
  have hshow : (setRole p none s).inShow = true := by simpa [State.inShow, setRole] using h
  have hraised : (raiseLoss role (setRole p none s)).stops.isRaised i = true := by
    rw [raiseLoss, if_pos hshow, hi]
    exact isRaised_raiseCondition hcommand _
  rw [loseRole_some hr]
  split
  · rw [clearMdReady_eq]
    exact hraised
  · exact hraised

/-- A state that a loss leaves, but for the port's own record, its presence before and the kinds made pending. -/
theorem roleLost {p : DeskPort} {s v t : State} (hv : v = { s with desk := v.desk })
    (hroles : ∀ q, (v.port q).role = (s.port q).role ∧ (v.port q).mask = (s.port q).mask)
    (ht : t = { loseRole p v with desk := t.desk })
    (hports : ∀ q, q ≠ p → (t.port q).role = ((loseRole p v).port q).role ∧ (t.port q).mask = ((loseRole p v).port q).mask) :
    RoleLost p s t := by
  have hstops : v.stops = s.stops := (congrArg State.stops hv :)
  have hshow : v.inShow = s.inShow := (congrArg State.inShow hv :)
  have htstops : t.stops = (loseRole p v).stops := (congrArg State.stops ht :)
  have hrole := (hroles p).1
  refine ⟨fun h => ?_, fun h hs => ?_, fun h hs => ?_, fun h => ?_, fun h => ?_, fun q hq => ?_⟩
  · rw [loseRole_none (hrole.trans h)] at ht
    generalize t.desk = d at ht ⊢
    rw [ht, hv]
  · rw [htstops]
    exact loseRole_isRaised (hrole.trans h) rfl rfl (hshow.trans hs)
  · rw [htstops]
    exact loseRole_isRaised (hrole.trans h) rfl rfl (hshow.trans hs)
  · have hresume : t.resume = (loseRole p v).resume := (congrArg State.resume ht :)
    rw [hresume, loseRole_some (hrole.trans h), if_pos rfl, clearMdReady_eq]
  · rw [htstops, loseRole_raised (hshow.trans h), hstops]
  · obtain ⟨hr, hm⟩ := hports q hq
    obtain ⟨hr', hm'⟩ := (role_setRole (loseRole_ports p v)).2 q hq
    exact ⟨hr.trans (hr'.trans (hroles q).1), hm.trans (hm'.trans (hroles q).2)⟩

/-- The record of a port that is lost (R192). -/
theorem port_losePort (p : DeskPort) (s : State) :
    (losePort p s).port p = { s.port p with
      active := false, role := none, inProgress := none, waitingBusy := none, pendingSet := 0, outstanding := false } := by
  rw [losePort, port_setPort_same]
  have hports := (loseRole_ports p s).field (·.lost) (q := p)
  rw [hports, port_setPort_same]
  rfl

theorem losePort_of_ne {p q : DeskPort} (hq : q ≠ p) (s : State) : (losePort p s).port q = (loseRole p s).port q := by
  rw [losePort, port_setPort_ne _ _ _ _ hq]

theorem execDeskPresenceExpiry_of {p : DeskPort} {s : State} :
    exec (.deskPresenceExpiry p) s =
      if (s.port p).active = true ∧ (s.port p).presentAt + 72000 ≤ s.now then .next (losePort p s) else .next s := by
  show execDeskPresenceExpiry p s = _
  unfold execDeskPresenceExpiry
  simp only [Bool.and_eq_true, decide_eq_true_eq]
  rfl

/-- Settles O53: a port lost at its presence expiry, at a line break and by RESET PORT. -/
theorem deskPortLost : Obligations.DeskPortLost := by
  intro r s
  dsimp only
  refine ⟨fun hactive hdue => ?_, fun hnot => ?_, ?_, fun hfree => ?_⟩
  · refine ⟨losePort r.port s, ?_, port_losePort r.port s, roleLost (v := s) rfl (fun _ => ⟨rfl, rfl⟩) rfl fun q hq => ?_⟩
    · rw [execDeskPresenceExpiry_of, if_pos ⟨hactive, hdue⟩]
    · rw [losePort_of_ne hq]
      exact ⟨rfl, rfl⟩
  · rw [execDeskPresenceExpiry_of, if_neg]
    rintro ⟨hactive, hdue⟩
    rcases hnot with h | h
    · rw [h] at hactive
      cases hactive
    · omega
  · refine ⟨_, rfl, ?_, roleLost (v := s) rfl (fun _ => ⟨rfl, rfl⟩) rfl fun q hq => ?_⟩
    · rw [port_setPort_same, port_losePort]
      rfl
    · rw [port_setPort_ne _ _ _ _ hq, losePort_of_ne hq]
      exact ⟨rfl, rfl⟩
  · have hport := port_request (r := r) (s := s) (act := ownResetPort r.port) hfree rfl
    obtain ⟨hstate, hreplied⟩ := request_replied (r := r) (s := s) (act := ownResetPort r.port) hfree rfl
    refine ⟨_, congrArg Host.Outcome.next (openCommand_eq (decode := payloadNone) (payload := [])
      (owner := fun _ => ownResetPort r.port) rfl s), hreplied, roleLost (v := validFrame r.port s) rfl (fun q => ?_)
      (hstate.trans rfl) fun q hq => ?_, ?_⟩
    · obtain ⟨hr, hm, -⟩ := port_validFrame_fields r.port q s
      exact ⟨hr, hm⟩
    · rw [hport, if_neg (Ne.symm hq), port_setPort_ne _ _ _ _ hq, losePort_of_ne hq]
      exact ⟨rfl, rfl⟩
    · have hown := hport r.port
      have hnow : (losePort r.port (validFrame r.port s)).now = s.now := by simp
      rw [if_pos rfl, port_setPort_same, port_losePort, port_validFrame, if_pos rfl, hnow] at hown
      rw [show request r _ s = request r (ownResetPort r.port) s from rfl, hown]
      rfl

end Sys2Proof.Machine
end

section
/-!
PROOFS. The wire (chapter 12): the desk frames, the rig messages and the command codes, and the cue record.
-/

namespace Sys2Proof.Machine
set_option Elab.async false

/-! ## Desk frames (R187, R201) -/

/-- The receiver discards what comes before a start byte (R187). -/
theorem parseFrame_junk {junk : List LineChar} (h : LineChar.ok 0x7E ∉ junk) (cs : List LineChar) :
    parseFrame (junk ++ .ok 0x7E :: cs) = parseFields cs := by
  induction junk with
  | nil => rfl
  | cons c junk ih =>
    obtain ⟨hc, hjunk⟩ := not_or.mp (List.mem_cons.not.mp h)
    cases c with
    | damaged => exact ih hjunk
    | ok b =>
      have hb : b ≠ 0x7E := fun he => hc (by rw [he])
      exact (if_neg hb).trans (ih hjunk)

/-- A payload byte that is escaped comes back from its escape, and any other stands as it is (R201). -/
theorem takePayload_escape (payload : List Byte) (more : List LineChar) :
    takePayload ((escape payload).map .ok ++ more) payload.length = .taken payload more := by
  induction payload with
  | nil => simp [escape, takePayload]
  | cons b bs ih =>
    by_cases hstart : b = 0x7E
    · subst hstart
      show (takePayload ((escape bs).map .ok ++ more) bs.length).cons 0x7E = _
      rw [ih]
      rfl
    · by_cases hescape : b = 0x7D
      · subst hescape
        show (takePayload ((escape bs).map .ok ++ more) bs.length).cons 0x7D = _
        rw [ih]
        rfl
      · rw [escape, if_neg (not_or.mpr ⟨hstart, hescape⟩)]
        show takePayload (.ok b :: ((escape bs).map .ok ++ more)) (bs.length + 1) = _
        unfold takePayload
        rw [if_neg hstart, if_neg hescape, ih]
        rfl

theorem ofByte_byte (k : FrameKind) : FrameKind.ofByte k.byte = some k := by cases k <;> rfl

theorem parseFrame_line (f : Frame) {junk more : List LineChar} (hlen : f.payload.length ≤ 250)
    (hjunk : LineChar.ok 0x7E ∉ junk) : parseFrame (junk ++ f.line.map .ok ++ more) = .valid f more := by
  have hcount : (BitVec.ofNat 8 f.payload.length).toNat = f.payload.length := by
    rw [BitVec.toNat_ofNat]
    omega
  have hpayload := takePayload_escape f.payload ((crcBytes (crc f.checked)).map .ok ++ more)
  have hbody : parseBody f.kind f.tag f.code (BitVec.ofNat 8 f.payload.length)
      ((escape f.payload ++ crcBytes (crc f.checked)).map .ok ++ more) = .valid f more := by
    rw [parseBody, hcount, List.map_append, List.append_assoc, hpayload]
    exact if_pos rfl
  rw [List.append_assoc]
  refine (parseFrame_junk hjunk _).trans ?_
  show parseFields (.ok f.kind.byte :: .ok f.tag :: .ok f.code :: .ok (BitVec.ofNat 8 f.payload.length) ::
    ((escape f.payload ++ crcBytes (crc f.checked)).map .ok ++ more)) = _
  unfold parseFields
  dsimp only
  rw [ofByte_byte]
  dsimp only
  rw [hcount]
  exact (if_neg (Nat.not_lt.mpr hlen)).trans hbody

/-! ## Rig messages (R205) -/

theorem parseRig_junk {junk : List LineChar} (h : LineChar.ok 0x55 ∉ junk) (cs : List LineChar) :
    parseRig (junk ++ .ok 0x55 :: cs) = parseRigFields cs := by
  induction junk with
  | nil => rfl
  | cons c junk ih =>
    obtain ⟨hc, hjunk⟩ := not_or.mp (List.mem_cons.not.mp h)
    cases c with
    | damaged => exact ih hjunk
    | ok b =>
      have hb : b ≠ 0x55 := fun he => hc (by rw [he])
      exact (if_neg hb).trans (ih hjunk)

/-- The bytes of undamaged characters are those characters'. -/
theorem filterMap_ok (g : LineChar → Option Byte) (hg : ∀ b, g (.ok b) = some b) (l : List Byte) :
    (l.map LineChar.ok).filterMap g = l := by
  rw [List.filterMap_map, show g ∘ LineChar.ok = some from funext hg, List.filterMap_some]

/-- The fields of a message are taken with their CRC, where they decode (R205). -/
theorem checkRig_fields {head fields : List Byte} {check : List Byte → Option RigMessage} {m : RigMessage}
    {again more : List LineChar} (hcheck : check fields = some m) {n : Nat} (hn : fields.length = n) :
    checkRig head n check again ((fields ++ crcBytes (crc (head ++ fields))).map .ok ++ more) = .valid m more := by
  subst hn
  have hlen : ((fields ++ crcBytes (crc (head ++ fields))).map LineChar.ok).length = fields.length + 2 := by
    simp [crcBytes]
  have htake : ((fields ++ crcBytes (crc (head ++ fields))).map LineChar.ok ++ more).take (fields.length + 2) =
      (fields ++ crcBytes (crc (head ++ fields))).map LineChar.ok := by
    rw [← hlen]
    exact List.take_left
  have hdrop : ((fields ++ crcBytes (crc (head ++ fields))).map LineChar.ok ++ more).drop (fields.length + 2) = more := by
    rw [← hlen]
    exact List.drop_left
  have hclean : ((fields ++ crcBytes (crc (head ++ fields))).map LineChar.ok).any (fun c => c == .damaged) = false := by
    simp
  have hshort : ¬ (fields ++ crcBytes (crc (head ++ fields))).length < fields.length + 2 := by simp [crcBytes]
  unfold checkRig
  rw [htake, hclean, hdrop]
  dsimp only
  rw [if_neg (by simp), filterMap_ok _ fun _ => rfl, if_neg hshort, List.drop_left, List.take_left, if_pos rfl, hcheck]

/-- The fields of a message of a known kind come back from its line (R205). -/
theorem parseRig_line (m : RigMessage) {junk more : List LineChar} (hidentity : ∀ t, m = .announce t → isIdentity t = true)
    (hjunk : LineChar.ok 0x55 ∉ junk) : parseRig (junk ++ (rigLine m.body).map .ok ++ more) = .valid m more := by
  rw [List.append_assoc]
  refine (parseRig_junk hjunk _).trans ?_
  cases m with
  | announce t =>
    have ht := hidentity t rfl
    have hbounds : 1 ≤ t.length ∧ t.length ≤ 16 := by
      simp only [isIdentity, Bool.and_eq_true, decide_eq_true_eq] at ht
      exact ht.1
    have hcount : (BitVec.ofNat 8 t.length).toNat = t.length := by
      rw [BitVec.toNat_ofNat]
      omega
    have hlen : ¬ (BitVec.ofNat 8 t.length = 0 ∨ 16 < (BitVec.ofNat 8 t.length).toNat) := by
      rw [hcount]
      rintro (h | h)
      · have := congrArg BitVec.toNat h
        rw [hcount] at this
        exact absurd this (Nat.ne_of_gt hbounds.1)
      · omega
    refine (if_neg hlen).trans ?_
    rw [hcount]
    exact checkRig_fields (head := [0x01, BitVec.ofNat 8 t.length]) (if_pos ht) rfl
  | status x h =>
    have hfields : statusOfBytes [if x = .down then 1 else 0, h] = some (.status x h) := by cases x <;> rfl
    exact checkRig_fields (head := [0x02]) (check := statusOfBytes) (n := 2) hfields rfl
  | done b =>
    have hfields : doneOfBytes [if b then 1 else 0] = some (.done b) := by cases b <;> rfl
    exact checkRig_fields (head := [0x03]) (check := doneOfBytes) (n := 1) hfields rfl
  | refused b x =>
    have hfields : refusedOfBytes [if b then 1 else 0, if x = .busy then 1 else 0] = some (.refused b x) := by
      cases b <;> cases x <;> rfl
    exact checkRig_fields (head := [0x04]) (check := refusedOfBytes) (n := 2) hfields rfl

/-! ## Command codes (R203) -/

/-- A code that names no command is the row UNKNOWN_CODE. -/
theorem commandOf_unknown {r : Req} {code : Byte} {x : List Byte} (h : commandCodes.contains code = false) :
    commandOf r code x = .unknownCode r code x := by
  have hnot : code.toNat ∉ commandCodes.map BitVec.toNat := by
    rw [List.mem_map]
    rintro ⟨b, hb, he⟩
    rw [← BitVec.eq_of_toNat_eq he, List.contains_iff_mem.mpr hb] at h
    cases h
  unfold commandOf
  split
  case h_37 => rfl
  all_goals
    next hcode =>
      rw [hcode] at hnot
      exact absurd (by decide) hnot

/-- The row READ with a payload that names an item is that item's request, whatever the form (R195, log 35). -/
theorem operatePayload_item {op : ItemOp} {rest : List Byte} {n₁ n₀ i : Byte} {item : Item} (p : DeskPort)
    (hitem : Item.ofNumber (n₁.toNat * 256 + n₀.toNat) = some item) :
    operatePayload op p (n₁ :: n₀ :: i :: rest) = item.operate op p i.toNat rest := by
  funext u
  rw [operatePayload, hitem]
  split
  · next hform => rw [operate_range (.inl (by simpa using hform))]
  · rfl

/-- The row that writes an item does what the item request does (TABLE 12-6). -/
theorem exec_itemRow {item : Item} {op : FlagOp} {r : Req} {i : Byte} {v : List Byte} {c : Instr}
    (h : itemRow item op r i v = some c) (s : State) : exec c s = .next (itemRequest item (opOfFlag op) r i v s) := by
  unfold itemRow at h
  split at h <;> first | (cases h; done) | (obtain rfl := Option.some.inj h; rfl)

theorem opOfFlag_of_opWrite {op : ItemOp} {rest : List Byte} {w : FlagOp} (h : opWrite op rest = some w) : opOfFlag w = op := by
  cases op with
  | read => cases h
  | swap => rw [← Option.some.inj h]; rfl
  | set =>
    by_cases hrest : rest = [0]
    · rw [opWrite, if_pos hrest] at h
      cases h
    · rw [opWrite, if_neg hrest] at h
      rw [← Option.some.inj h]
      rfl
  | clear =>
    by_cases hrest : rest = [0]
    · rw [opWrite, if_pos hrest] at h
      cases h
    · rw [opWrite, if_neg hrest] at h
      rw [← Option.some.inj h]
      rfl

/-- An item request does what the row READ does with its operation and payload (log 35). -/
theorem exec_itemCommand (r : Req) (op : ItemOp) (n₁ n₀ i : Byte) (rest : List Byte) (s : State) :
    exec (itemCommand r op (n₁ :: n₀ :: i :: rest)) s = exec (.read r op (n₁ :: n₀ :: i :: rest)) s := by
  unfold itemCommand
  dsimp only
  split
  · next item w hitem hwrite =>
    cases hrow : itemRow item w r i rest with
    | none => rfl
    | some c =>
      rw [Option.getD_some, exec_itemRow hrow, opOfFlag_of_opWrite hwrite]
      show Host.Outcome.next _ = Host.Outcome.next (request r (fun s => operatePayload op r.port _ s) s)
      rw [operatePayload_item r.port hitem]
      rfl
  · rfl

/-- Settles O54: every frame and every rig message is taken back from its line, and every code names its command. -/
theorem lineDecodesItsOwnFrames : Obligations.LineDecodesItsOwnFrames :=
  ⟨fun f _ _ hlen hjunk => parseFrame_line f hlen hjunk, fun m _ _ hidentity hjunk => parseRig_line m hidentity hjunk,
    fun _ _ => ⟨rfl, rfl, rfl, rfl, rfl, rfl, rfl, rfl, rfl, rfl, rfl, rfl, rfl, rfl, rfl, rfl, rfl, rfl, rfl, rfl, rfl, rfl,
      rfl, rfl, rfl, rfl, rfl, rfl, rfl, rfl, rfl, rfl⟩,
    fun _ _ _ h => commandOf_unknown h,
    fun r n₁ n₀ i rest s => ⟨exec_itemCommand r _ n₁ n₀ i rest s, exec_itemCommand r _ n₁ n₀ i rest s,
      exec_itemCommand r _ n₁ n₀ i rest s, exec_itemCommand r _ n₁ n₀ i rest s⟩⟩

/-! ## The cue record (TABLE 12-3) -/

/-- A reader takes back what these bytes carry, and leaves the bytes after them. -/
def Carries {α : Type} (r : Reader α) (bytes : List Byte) (a : α) : Prop := ∀ more, r (bytes ++ more) = some (a, more)

theorem rd1_byteOf {n : Nat} (hn : n < 256) : Carries rd1 [byteOf n] n := fun more => by
  show some ((byteOf n).toNat, more) = _
  rw [toNat_byteOf hn]

theorem rd4_beBytes {n : Nat} (hn : n < 4294967296) : Carries rd4 (beBytes 4 n) n := fun more => by
  show some ((((byteOf (n / 256 ^ 3)).toNat * 256 + (byteOf (n / 256 ^ 2)).toNat) * 256 + (byteOf (n / 256 ^ 1)).toNat) * 256 +
    (byteOf (n / 256 ^ 0)).toNat, more) = _
  simp only [byteOf, BitVec.toNat_ofNat]
  congr 2
  omega

theorem rdEnum_code {α : Type} {ofCode : Byte → Option α} {b : Byte} {a : α} (h : ofCode b = some a) :
    Carries (rdEnum ofCode) [b] a := fun more => by
  show (ofCode b).map _ = _
  rw [h]
  rfl

theorem rdText_bytes {n : Nat} {t : Text} (hlen : t.length ≤ n) (hn : n < 256) : Carries (rdText n) (textBytes t) t := fun more => by
  have hcount : (byteOf t.length).toNat = t.length := toNat_byteOf (by omega)
  show (if (byteOf t.length).toNat ≤ n ∧ (byteOf t.length).toNat ≤ (t ++ more).length then
    some ((t ++ more).take (byteOf t.length).toNat, (t ++ more).drop (byteOf t.length).toNat) else none) = _
  rw [hcount, if_pos ⟨hlen, by simp⟩, List.take_left, List.drop_left]

/-- An optional field comes back, absent or present, where its reader takes the zeros of an absent one. -/
theorem rdOpt_bytes {α : Type} {r : Reader α} {w : Nat} {f : α → List Byte} (hzero : ∃ z, Carries r (List.replicate w 0) z)
    {o : Option α} (ho : ∀ a, o = some a → Carries r (f a) a) : Carries (rdOpt r) (optBytes w f o) o := fun more => by
  obtain ⟨z, hz⟩ := hzero
  cases o with
  | none =>
    show (r (List.replicate w 0 ++ more)).bind _ = _
    rw [hz]
    rfl
  | some a =>
    show (r (f a ++ more)).bind _ = _
    rw [ho a rfl]
    rfl

theorem rdMany_bytes {α : Type} {r : Reader α} {f : α → List Byte} {l : List α} (hl : ∀ a ∈ l, Carries r (f a) a) :
    Carries (rdMany r l.length) (l.flatMap f) l := by
  induction l with
  | nil => exact fun _ => rfl
  | cons a l ih =>
    intro more
    obtain ⟨ha, hrest⟩ := List.forall_mem_cons.mp hl
    rw [List.flatMap_cons, List.append_assoc, List.length_cons, rdMany, ha]
    show (rdMany r l.length (l.flatMap f ++ more)).bind _ = _
    rw [ih hrest]
    rfl

theorem rdPatch_bytes {p : Patch} (h : p.valid = true) : Carries rdPatch (patchBytes p) p := fun more => by
  simp only [Patch.valid, Bool.and_eq_true, decide_eq_true_eq] at h
  obtain ⟨⟨hbank, hprogram⟩, hscene⟩ := h
  show some (({ bank := (byteOf p.bank).toNat, program := (byteOf p.program).toNat, scene := (byteOf p.scene).toNat } : Patch),
    more) = _
  rw [toNat_byteOf (by omega), toNat_byteOf (by omega), toNat_byteOf (by omega)]

theorem cueTempo_lt {t : Nat} (h : cueTempo t = true) : t < 65536 := by
  simp only [cueTempo, Bool.and_eq_true, decide_eq_true_eq] at h
  have hmax : t ≤ 30000 := h.2
  omega

theorem rdTempo_bytes {x : TempoSpec} (h : x.valid = true) : Carries rdTempo (tempoBytes x) x := fun more => by
  unfold rdTempo
  cases x with
  | keep => rfl
  | live => rfl
  | fixed t =>
    rw [show tempoBytes (.fixed t) ++ more = 1 :: (beBytes 2 t ++ ([0] ++ more)) by simp [tempoBytes]]
    dsimp only [rdByte, Option.bind_eq_bind, Option.bind_some]
    rw [rd2_beBytes (cueTempo_lt h)]
    rfl
  | ramp t n =>
    simp only [TempoSpec.valid, Bool.and_eq_true, decide_eq_true_eq] at h
    obtain ⟨⟨ht, -⟩, hn⟩ := h
    rw [show tempoBytes (.ramp t n) ++ more = 3 :: (beBytes 2 t ++ ([byteOf n] ++ more)) by simp [tempoBytes]]
    dsimp only [rdByte, Option.bind_eq_bind, Option.bind_some]
    rw [rd2_beBytes (cueTempo_lt ht)]
    dsimp only [Option.bind_some]
    rw [rd1_byteOf (by omega)]
    rfl

theorem rdClick_bytes {x : ClickAction} (h : x.valid = true) : Carries rdClick (clickBytes x) x := fun more => by
  cases x with
  | start n =>
    have hn : n ≤ 2 := of_decide_eq_true h
    show some (ClickAction.start (byteOf n).toNat, more) = _
    rw [toNat_byteOf (by omega)]
  | keep => rfl
  | stop => rfl
  | cut => rfl

/-- A vamp comes back with its passes absent where they are 0 (TABLE 12-3). -/
theorem rdVamp_bytes {o : Option VampSpec} (h : ∀ v, o = some v → v.valid = true) :
    Carries rdVamp (optBytes 3 vampSpecBytes o) o := by
  refine rdOpt_bytes ⟨{ kind := .opened, length := 0, passes := none }, fun _ => rfl⟩ fun v hv more => ?_
  obtain ⟨kind, length, passes⟩ := v
  have hvalid := h _ hv
  simp only [VampSpec.valid, Bool.and_eq_true, decide_eq_true_eq] at hvalid
  obtain ⟨⟨-, hlength⟩, hpasses⟩ := hvalid
  cases kind with
  | opened =>
    cases passes with
    | some n => cases hpasses
    | none =>
      show some (({ kind := .opened, length := (byteOf length).toNat, passes := none } : VampSpec), more) = _
      rw [toNat_byteOf (by omega)]
  | repeated =>
    cases passes with
    | none => cases hpasses
    | some n =>
      simp only [Bool.and_eq_true, decide_eq_true_eq] at hpasses
      show some ((VampSpec.mk .repeated (byteOf length).toNat
        (if (byteOf n).toNat = 0 then none else some (byteOf n).toNat)), more) = _
      rw [toNat_byteOf (by omega), toNat_byteOf (by omega), if_neg (by omega)]

theorem rdCamera_byte (o : Option Camera) : Carries rdCamera [cameraOptByte o] o := fun more => by
  rcases o with _ | _ | _ <;> rfl

/-- The banner of a video action: its duration, then its text. -/
def rdBanner : Reader BannerSpec := fun bs => do
  let (duration, bs) ← rd1 bs
  let (text, bs) ← rdText 24 bs
  return ({ text, duration }, bs)

theorem rdBanner_bytes {b : BannerSpec} (h : b.valid = true) : Carries rdBanner (bannerBytes b) b := fun more => by
  simp only [BannerSpec.valid, Bool.and_eq_true, decide_eq_true_eq] at h
  obtain ⟨⟨⟨-, hduration⟩, htext⟩, -⟩ := h
  unfold rdBanner
  rw [show bannerBytes b ++ more = [byteOf b.duration] ++ (textBytes b.text ++ more) from rfl, rd1_byteOf (by omega)]
  dsimp only [Option.bind_eq_bind, Option.bind_some]
  rw [rdText_bytes htext (by omega)]
  rfl

theorem rdVideo_bytes {o : Option VideoAction} (h : ∀ v, o = some v → v.valid = true) :
    Carries rdVideo (optBytes 4 videoBytes o) o := by
  refine rdOpt_bytes ⟨{ camera := none, banner := none }, fun _ => rfl⟩ fun v hv more => ?_
  have hvalid := h v hv
  simp only [VideoAction.valid, Bool.and_eq_true] at hvalid
  have hbanner : Carries (rdOpt rdBanner) (optBytes 2 bannerBytes v.banner) v.banner :=
    rdOpt_bytes ⟨{ text := [], duration := 0 }, fun _ => rfl⟩ fun b hb => rdBanner_bytes (by
      have := hvalid.2
      rwa [hb] at this)
  show (rdCamera ([cameraOptByte v.camera] ++ (optBytes 2 bannerBytes v.banner ++ more))).bind _ = _
  rw [rdCamera_byte]
  show (rdOpt rdBanner (optBytes 2 bannerBytes v.banner ++ more)).bind _ = _
  rw [hbanner]
  rfl

theorem rdChange_bytes {e : ChangeEntry} (h : e.valid = true) : Carries rdChange (changeBytes e) e := fun more => by
  simp only [ChangeEntry.valid, PatchPair.valid, Bool.and_eq_true, decide_eq_true_eq] at h
  obtain ⟨⟨hslot, hmain, hcover⟩, hforce⟩ := h
  have hpatch : Carries (rdOpt rdPatch) (optPatchBytes e.pair.cover) e.pair.cover :=
    rdOpt_bytes ⟨{ bank := 0, program := 0, scene := 0 }, fun _ => rfl⟩ fun p hp => rdPatch_bytes (by rwa [hp] at hcover)
  have htransition : Carries (rdEnum Transition.ofCode) [e.transition.code] e.transition :=
    rdEnum_code (by cases e.transition <;> rfl)
  have hbytes : changeBytes e ++ more = [byteOf e.slot] ++ (patchBytes e.pair.main ++ (optPatchBytes e.pair.cover ++
      ([e.transition.code] ++ ([byteOf e.forceLimit] ++ more)))) := by
    simp [changeBytes]
  rw [hbytes]
  unfold rdChange
  rw [rd1_byteOf (by omega)]
  dsimp only [Option.bind_eq_bind, Option.bind_some]
  rw [rdPatch_bytes hmain]
  dsimp only [Option.bind_some]
  rw [hpatch]
  dsimp only [Option.bind_some]
  rw [htransition]
  dsimp only [Option.bind_some]
  rw [rd1_byteOf (by omega)]
  rfl

/-- Settles O55: the bytes of a cue within TABLE 4-1 decode to that cue. -/
theorem cueRecordDecodesItsOwnBytes : Obligations.CueRecordDecodesItsOwnBytes := by
  intro c h
  simp only [Cue.valid, Bool.and_eq_true, decide_eq_true_eq, List.all_eq_true] at h
  obtain ⟨⟨⟨⟨⟨⟨⟨⟨⟨⟨⟨⟨-, hnumber⟩, hlabel⟩, -⟩, hbar⟩, htempo⟩, hmeter⟩, hclick⟩, hvamp⟩, hcount⟩, hchanges⟩, -⟩, hvideo⟩ := h
  have hnumber : c.number ≤ 99999 := hnumber
  have hscore : Carries (rdOpt rd2) (optBytes 2 (beBytes 2) c.scoreBar) c.scoreBar :=
    rdOpt_bytes ⟨0, fun _ => rfl⟩ fun n hn => rd2_beBytes (by
      have hle : n ≤ 9999 := (optWithin_iff.mp hbar n hn).2
      omega)
  have hmeters : Carries (rdOpt rd1) (optBytes 1 (beBytes 1) c.meter) c.meter :=
    rdOpt_bytes ⟨0, fun _ => rfl⟩ fun n hn => by
      have hle := (optWithin_iff.mp hmeter n hn).2
      rw [show beBytes 1 n = [byteOf n] by simp [beBytes]]
      exact rd1_byteOf (by omega)
  have hvamps := rdVamp_bytes (o := c.vamp) fun v hv => by rwa [hv] at hvamp
  have hvideos := rdVideo_bytes (o := c.video) fun v hv => by rwa [hv] at hvideo
  have hboundary : Carries (rdEnum Boundary.ofCode) [c.boundary.code] c.boundary :=
    rdEnum_code (by cases c.boundary <;> rfl)
  have hentries := rdMany_bytes (fun e he => rdChange_bytes (hchanges e he))
  have hbytes : cueBytes c = beBytes 4 c.number ++ (textBytes c.label ++ (optBytes 2 (beBytes 2) c.scoreBar ++
      (tempoBytes c.tempo ++ (optBytes 1 (beBytes 1) c.meter ++ (clickBytes c.click ++ (optBytes 3 vampSpecBytes c.vamp ++
      ([c.boundary.code] ++ (optBytes 4 videoBytes c.video ++ ([byteOf c.changes.length] ++
      (c.changes.flatMap changeBytes ++ [])))))))))) := by
    simp [cueBytes, listBytes]
  unfold payloadCue whole
  rw [hbytes]
  dsimp only
  rw [rd4_beBytes (by omega)]
  dsimp only [Option.bind_eq_bind, Option.bind_some]
  rw [rdText_bytes hlabel (by omega)]
  dsimp only [Option.bind_some]
  rw [hscore]
  dsimp only [Option.bind_some]
  rw [rdTempo_bytes htempo]
  dsimp only [Option.bind_some]
  rw [hmeters]
  dsimp only [Option.bind_some]
  rw [rdClick_bytes hclick]
  dsimp only [Option.bind_some]
  rw [hvamps]
  dsimp only [Option.bind_some]
  rw [hboundary]
  dsimp only [Option.bind_some]
  rw [hvideos]
  dsimp only [Option.bind_some]
  rw [rd1_byteOf (by omega)]
  dsimp only [Option.bind_some]
  rw [hentries]
  rfl

end Sys2Proof.Machine
end

section
/-!
PROOFS. Beats (chapter 2) and the voices they start (chapter 3): what a commit that nothing disturbs leaves, part by part.
-/

namespace Sys2Proof.Machine
set_option Elab.async false

/-! ## Voices (R48, R49) -/

theorem takeStart_of_silent {c : ClickState} {e : StartEntry} {rest : List StartEntry} {l : Lane}
    (h : c = .idle ∨ (e.voice = .count ∧ c ≠ .countIn)) : l.takeStart c e rest = { l with starts := rest } := by
  have hnot : startsVoice c e = false := by
    rcases h with rfl | ⟨hv, hc⟩
    · rfl
    · cases c <;> simp_all [startsVoice]
  simp [Lane.takeStart, hnot]

theorem takeStart_of_starts {c : ClickState} {e : StartEntry} {rest : List StartEntry} {l : Lane}
    (h : c ≠ .idle) (hv : e.voice = .click ∨ c = .countIn) : l.takeStart c e rest = { l with starts := rest }.begin e := by
  have hstarts : startsVoice c e = true := by
    rcases hv with hv | rfl
    · cases c <;> simp_all [startsVoice]
    · simp [startsVoice]
  simp [Lane.takeStart, hstarts]

/-- Settles O22: a due start, and the last sample of a clip. -/
theorem voicesStartAndEnd : Obligations.VoicesStartAndEnd := by
  refine ⟨fun k s => ⟨fun e rest hstarts hdue => ?_, fun hnot => ?_⟩, fun k v closed s => ⟨fun p hp hlast => ?_, fun hnot => ?_⟩⟩
  · refine ⟨(s.clicks.lane k).takeStart s.beats.click e rest, ?_, takeStart_of_silent, fun hidle hv => ?_, fun hcount hv => ?_⟩
    · show execVoiceStart k s = _
      rw [execVoiceStart, hstarts]
      exact if_pos hdue
    · rw [takeStart_of_starts hidle (.inl hv), Lane.begin, hv]
    · rw [takeStart_of_starts (by rw [hcount]; decide) (.inr hcount), Lane.begin, hv]
  · show execVoiceStart k s = _
    rw [execVoiceStart]
    cases hstarts : (s.clicks.lane k).starts with
    | nil => rfl
    | cons e rest => exact if_neg (Nat.not_le.mpr (hnot e rest hstarts))
  · have hlane : ((countSample closed s).clicks.lane k).voice v = none := by
      have hstep : (s.clicks.mix.lane k).voice v = voiceStep ((s.clicks.lane k).voice v) := by
        rw [show s.clicks.mix.lane k = (s.clicks.lane k).afterSample s.clicks.memory from tget_tmap _ _ k]
        cases v <;> rfl
      show (s.clicks.mix.lane k).voice v = none
      rw [hstep, hp]
      exact if_neg (Nat.not_lt.mpr hlast)
    refine ⟨countSample closed s, _, ?_, rfl, hlane, rfl⟩
    show execVoiceEnd k v closed s = _
    rw [execVoiceEnd, hp]
    exact if_pos (decide_eq_true hlast)
  · show execVoiceEnd k v closed s = _
    rw [execVoiceEnd]
    cases hp : (s.clicks.lane k).voice v with
    | none => rfl
    | some p =>
      have hmore : lastSample (some p) = false := decide_eq_false (Nat.not_le.mpr (hnot p hp))
      rw [hmore]
      rfl

/-! ## What a commit is made of -/

/-- The tempo of a commit and the tempo state after it (R16, R18). -/
theorem commit_eq (t : TempoState) : t.commit = (committedTempo t, tempoAfterCommit t) := by
  unfold TempoState.commit committedTempo tempoAfterCommit
  rcases t with ⟨mode, current, live, ramp, taps, clamped⟩
  cases ramp with
  | none => cases mode <;> rfl
  | some r =>
    by_cases hlast : r.length ≤ r.done + 1
    · cases mode <;> simp [hlast]
    · cases mode <;> simp [hlast, rampTempo, committedTempo]

/-- A hold-off count falls by one (R166). -/
def lowerHoldOff (s : State) : State := if s.stops.holdOff = 0 then s else setHoldOff (s.stops.holdOff - 1) s

@[simp] theorem lowerHoldOff_stops (s : State) :
    (lowerHoldOff s).stops = { s.stops with holdOff := s.stops.holdOff - 1 } := by
  unfold lowerHoldOff
  split
  · next h => rw [show s.stops.holdOff - 1 = s.stops.holdOff by omega]
  · exact setHoldOff_stops ..

@[simp] theorem lowerHoldOff_keeps (s : State) :
    (lowerHoldOff s).time = s.time ∧ (lowerHoldOff s).tempo = s.tempo ∧ (lowerHoldOff s).beats = s.beats ∧
    (lowerHoldOff s).clicks = s.clicks ∧ (lowerHoldOff s).tables = s.tables ∧ (lowerHoldOff s).pointer = s.pointer ∧
    (lowerHoldOff s).rigs = s.rigs ∧ (lowerHoldOff s).picture = s.picture ∧ (lowerHoldOff s).overlay = s.overlay ∧
    (lowerHoldOff s).resume = s.resume ∧ (lowerHoldOff s).pending = s.pending := by
  unfold lowerHoldOff
  split <;> simp

/-- With nothing raised an announcement makes no take (R158): the outputs act, the hold-off count falls, and at a bar start
the slots are visited (R112, R166). -/
theorem announceBeat_quiet {s : State} (h : NothingRaised s) (c : Bool) (b : Beat) :
    announceBeat c b s =
      if b.downbeat then forceVisits (lowerHoldOff (announceOutputs b s)) else lowerHoldOff (announceOutputs b s) := by
  have hquiet : NothingRaised (lowerHoldOff (announceOutputs b s)) := h.congr (by simp)
  have hsample : (if c then sample true (lowerHoldOff (announceOutputs b s)) else lowerHoldOff (announceOutputs b s)) =
      lowerHoldOff (announceOutputs b s) := by
    rw [sample_of_nothingRaised true hquiet]
    exact ite_self _
  rw [← hsample]
  rfl

/-- What the outputs do at the announcement of a beat (R46, R126, R143, R146). -/
theorem announceOutputs_parts (b : Beat) (s : State) :
    (announceOutputs b s).clicks = s.clicks.schedule b ∧ (announceOutputs b s).picture = s.picture.addMarks b ∧
    (announceOutputs b s).overlay =
      { s.overlay with
        flashes := (announceOutputs b s).overlay.flashes
        banner := if b.downbeat then countBanner s.now s.overlay.banner else s.overlay.banner } := by
  unfold announceOutputs
  split <;> exact ⟨rfl, rfl, rfl⟩

/-- The flash targets of a commit are those of R143. -/
theorem targetsSet_announceOutputs (b : Beat) (s : State) : TargetsSet b s (announceOutputs b s) := fun m => by
  have hflashes : (announceOutputs b s).overlay.flashes =
      (setTargets b { s with clicks := s.clicks.schedule b, picture := s.picture.addMarks b }).overlay.flashes := by
    unfold announceOutputs
    split <;> rfl
  have hmonitor : (s.picture.addMarks b).monitor m = s.picture.monitor m := rfl
  have hlead : pairedLead (s.clicks.schedule b) (s.picture.monitor m) = pairedLead s.clicks (s.picture.monitor m) := by
    unfold pairedLead
    cases (s.picture.monitor m).pairedLane with
    | none => rfl
    | some l => simp [ClickGen.schedule, ClickGen.lane]
  rw [hflashes, setTargets]
  dsimp only
  rw [tget_tmapIdx, hmonitor, hlead]
  cases (s.picture.monitor m).flashMode <;> rfl

/-- The targets of a commit depend on the monitors, the lanes and the flashes before it. -/
theorem TargetsSet.of_parts {b : Beat} {s u t : State} (h : TargetsSet b u t) (hpicture : u.picture = s.picture)
    (hoverlay : u.overlay = s.overlay) (hclicks : u.clicks = s.clicks) : TargetsSet b s t := fun m => by
  have := h m
  rwa [hpicture, hoverlay, hclicks] at this

/-- The bar of a commit leaves everything but the tempo, the beats and the notices. -/
theorem beginBar_clicks (p : Option Beat) (s : State) : (beginBar p s).2.clicks = s.clicks := by
  have hfirst : ∀ s, (beginFirstBar s).2.clicks = s.clicks := by
    intro s
    unfold beginFirstBar
    dsimp only
    split <;> simp [setClick]
  dsimp only [beginBar]
  split
  · split
    · simp
    · rw [hfirst]
  · simp

theorem fixBeat_parts (o : Nat) (s : State) :
    (fixBeat o s).2.clicks = s.clicks ∧ (fixBeat o s).2.tempo = tempoAfterCommit s.tempo := by
  have htempo : (fixTempo { s with beats := s.beats.takeOnset }).2.tempo = tempoAfterCommit s.tempo := by
    simp [fixTempo, commit_eq]
  have hparts : (barOfCommit s).2.clicks = s.clicks ∧ (barOfCommit s).2.tempo = tempoAfterCommit s.tempo := by
    unfold barOfCommit
    dsimp only
    split
    · rw [beginBar_clicks]
      simp [htempo]
    · simp [htempo]
  rw [fixBeat_eq]
  exact hparts

/-- What an undisturbed commit of a beat leaves in every part but the beats, the rigs and the desk. -/
structure Announced (b : Beat) (s t : State) : Prop where
  time : t.time = s.time
  tempo : t.tempo = tempoAfterCommit s.tempo
  clicks : t.clicks = s.clicks.schedule b
  tables : t.tables = s.tables
  pointer : t.pointer = s.pointer
  picture : t.picture = s.picture.addMarks b
  targets : TargetsSet b s t
  overlay : t.overlay = { s.overlay with
    flashes := t.overlay.flashes
    banner := if b.downbeat then countBanner s.now s.overlay.banner else s.overlay.banner }
  stops : t.stops = { s.stops with holdOff := s.stops.holdOff - 1 }
  resume : t.resume = s.resume
  pending : t.pending = s.pending
  rigs : b.downbeat = false → t.rigs = s.rigs

theorem State.commitDue_iff (s : State) : s.commitDue = true ↔ ∃ o, s.beats.nextOnset = some o ∧ o / 65536 ≤ s.now + 4800 := by
  unfold State.commitDue
  cases s.beats.nextOnset with
  | none => simp
  | some o =>
    have htest : decide (q16Sample o ≤ s.now + Config.horizon) = true ↔ o / 65536 ≤ s.now + 4800 := decide_eq_true_iff
    simpa using htest

theorem armedCue_none {s : State} (h : s.pointer.armed = none) : armedCue s = none := by
  simp [armedCue, h]

/-- With nothing raised a commit fixes its beat and announces it (R22). -/
theorem commitBeat_eq {o : Nat} {s : State} (honset : s.beats.nextOnset = some o) (hquiet : NothingRaised s) (c : Bool) :
    commitBeat c s =
      if (committedBeat o s).downbeat then forceVisits (lowerHoldOff (announceOutputs (committedBeat o s) (fixBeat o s).2))
      else lowerHoldOff (announceOutputs (committedBeat o s) (fixBeat o s).2) := by
  have hfixed : NothingRaised (fixBeat o s).2 := hquiet.congr (by simp)
  rw [commitBeat_of_onset honset]
  exact announceBeat_quiet hfixed c _

theorem commitBeat_beats {o : Nat} {s : State} (honset : s.beats.nextOnset = some o) (hquiet : NothingRaised s) (c : Bool) :
    (commitBeat c s).beats = (fixBeat o s).2.beats := by
  rw [commitBeat_eq honset hquiet]
  split <;> simp

theorem commitBeat_announced {o : Nat} {s : State} (honset : s.beats.nextOnset = some o) (hquiet : NothingRaised s) (c : Bool) :
    Announced (committedBeat o s) s (commitBeat c s) := by
  obtain ⟨hclicks, hpicture, hoverlay⟩ := announceOutputs_parts (committedBeat o s) (fixBeat o s).2
  obtain ⟨hfixed, htempo⟩ := fixBeat_parts o s
  have htargets : TargetsSet (committedBeat o s) s (announceOutputs (committedBeat o s) (fixBeat o s).2) :=
    (targetsSet_announceOutputs _ _).of_parts (by simp) (by simp) hfixed
  rw [commitBeat_eq honset hquiet]
  constructor
  case targets => split <;> exact fun m => (by simpa using htargets m)
  case overlay =>
    split
    · next hb => simpa [hb] using hoverlay
    · next hb => simpa [hb] using hoverlay
  all_goals first
    | (split <;> simp [hclicks, hpicture, hfixed, htempo])
    | (intro hb; simp [hb])

/-- An undisturbed commit takes no cue and discards no beat. -/
theorem beatCommit_undisturbed {o : Nat} {s : State} (h : CommitDue o s) (hd : s.beats.discardsNext = false) :
    beatCommit s = commitBeat true s := by
  have hdue : s.commitDue = true := s.commitDue_iff.mpr ⟨o, h.onset, h.due⟩
  have harmed : takeArmedAtCommit s.beats.barStartNext s = s := by rw [takeArmedAtCommit, armedCue_none h.armed]
  rw [beatCommit, if_pos hdue, if_neg (by rw [hd]; decide), harmed]

/-- An undisturbed commit fixes its beat and announces it (R22). -/
theorem beatCommit_eq {o : Nat} {s : State} (h : CommitDue o s) (hd : s.beats.discardsNext = false) :
    beatCommit s =
      if (committedBeat o s).downbeat then forceVisits (lowerHoldOff (announceOutputs (committedBeat o s) (fixBeat o s).2))
      else lowerHoldOff (announceOutputs (committedBeat o s) (fixBeat o s).2) := by
  rw [beatCommit_undisturbed h hd, commitBeat_eq h.onset h.quiet]

theorem beatCommit_beats {o : Nat} {s : State} (h : CommitDue o s) (hd : s.beats.discardsNext = false) :
    (beatCommit s).beats = (fixBeat o s).2.beats := by
  rw [beatCommit_undisturbed h hd, commitBeat_beats h.onset h.quiet]

theorem beatCommit_announced {o : Nat} {s : State} (h : CommitDue o s) (hd : s.beats.discardsNext = false) :
    Announced (committedBeat o s) s (beatCommit s) := by
  rw [beatCommit_undisturbed h hd]
  exact commitBeat_announced h.onset h.quiet true

/-! ## The starts of a beat (R46, R47) -/

theorem mem_insertStart {e x : StartEntry} {l : List StartEntry} : e ∈ insertStart x l ↔ e = x ∨ e ∈ l := by
  induction l with
  | nil => simp [insertStart]
  | cons y l ih =>
    unfold insertStart
    split
    · simp
    · rw [List.mem_cons, ih, List.mem_cons]
      tauto

theorem mem_insertStarts {e : StartEntry} {new l : List StartEntry} :
    e ∈ new.foldl (fun acc x => insertStart x acc) l ↔ e ∈ l ∨ e ∈ new := by
  induction new generalizing l with
  | nil => simp
  | cons x new ih =>
    rw [List.foldl_cons, ih, mem_insertStart, List.mem_cons]
    tauto

/-- The clip that a role of a sound set names (R45). -/
theorem clipOf_iff {g : ClickGen} {set role : Nat} {c : Clip} :
    g.clipOf set role = some c ↔ ∃ (i : Fin 28) (k : Fin 16), i.val = 7 * set + role ∧ tget g.roles i = some k ∧
      tget g.directory k = some c := by
  unfold ClickGen.clipOf
  constructor
  · intro h
    cases hi : idx? 28 (set * 7 + role) with
    | none => simp [hi] at h
    | some i =>
      have hval : i.val = set * 7 + role := by
        unfold idx? at hi
        split at hi
        · rw [← Option.some.inj hi]
        · cases hi
      cases hk : tget g.roles i with
      | none => simp [hi, hk] at h
      | some k =>
        simp only [hi, hk] at h
        exact ⟨i, k, by omega, hk, h⟩
  · rintro ⟨i, k, hval, hk, hc⟩
    have hi : idx? 28 (set * 7 + role) = some i := by
      rw [idx?, dif_pos (by omega)]
      exact congrArg some (Fin.ext (by simp only; omega))
    simp only [hi, hk, hc]

theorem mem_entryFor {g : ClickGen} {l : Lane} {voice : VoiceKind} {role position beat : Nat} {e : StartEntry} :
    e ∈ g.entryFor l voice role position beat ↔ ∃ (i : Fin 28) (k : Fin 16) (c : Clip), i.val = 7 * l.soundSet + role ∧
      tget g.roles i = some k ∧ tget g.directory k = some c ∧
      e = { sample := position / 65536 - l.lead, voice, clipStart := c.start, clipLength := c.length, beat } := by
  have hentry : e ∈ g.entryFor l voice role position beat ↔ ∃ c, g.clipOf l.soundSet role = some c ∧
      e = { sample := position / 65536 - l.lead, voice, clipStart := c.start, clipLength := c.length, beat } := by
    unfold ClickGen.entryFor
    cases g.clipOf l.soundSet role with
    | none => simp
    | some c => simp [q16Sample, q16One]
  rw [hentry]
  simp only [clipOf_iff]
  tauto

theorem mem_beatEntries {g : ClickGen} {l : Lane} {b : Beat} {e : StartEntry} :
    e ∈ g.beatEntries l b ↔ ∃ role, ((l.accent = .downbeat ∧ role = if b.downbeat then 0 else 1) ∨
      (l.accent = .flat ∧ role = 1)) ∧ e ∈ g.entryFor l .click role b.onset b.onset := by
  unfold ClickGen.beatEntries beatRole
  cases l.accent <;> simp [roleDownbeat, roleBeat]

theorem mem_subdivisionEntries {g : ClickGen} {l : Lane} {b : Beat} {e : StartEntry} :
    e ∈ g.subdivisionEntries l b ↔ ∃ j, 1 ≤ j ∧ j < l.subdivision ∧
      e ∈ g.entryFor l .click 2 (b.onset + b.period * j / l.subdivision) b.onset := by
  unfold ClickGen.subdivisionEntries
  rw [List.mem_flatMap]
  constructor
  · rintro ⟨i, hi, he⟩
    rw [List.mem_range] at hi
    exact ⟨i + 1, by omega, by omega, he⟩
  · rintro ⟨j, hlow, hhigh, he⟩
    refine ⟨j - 1, List.mem_range.mpr (by omega), ?_⟩
    rwa [show j - 1 + 1 = j by omega]

theorem mem_countEntries {g : ClickGen} {l : Lane} {b : Beat} {e : StartEntry} :
    e ∈ g.countEntries l b ↔ b.countIn = true ∧ l.countVoice = true ∧ 1 ≤ b.beat ∧ b.beat ≤ 4 ∧
      e ∈ g.entryFor l .count (b.beat + 2) b.onset b.onset := by
  unfold ClickGen.countEntries roleWord
  by_cases hcount : (b.countIn && l.countVoice) = true
  · by_cases hbeat : 1 ≤ b.beat ∧ b.beat ≤ 4
    · rw [if_pos hcount, if_pos hbeat]
      simp_all
    · rw [if_pos hcount, if_neg hbeat]
      simp_all
  · rw [if_neg hcount]
    simp_all

/-- The entries that a beat adds are those that it calls for (R46, R47). -/
theorem mem_newEntries {g : ClickGen} {l : Lane} {b : Beat} {e : StartEntry} : e ∈ g.newEntries l b ↔ l.CallsFor g b e := by
  unfold ClickGen.newEntries Lane.CallsFor
  by_cases henabled : l.enabled = true
  · rw [if_pos henabled, List.mem_append, List.mem_append, mem_beatEntries, mem_subdivisionEntries, mem_countEntries]
    simp only [mem_entryFor]
    constructor
    · rintro ((⟨role, hrole, i, k, c, hi, hk, hc, he⟩ | ⟨j, hlow, hhigh, i, k, c, hi, hk, hc, he⟩) |
        ⟨hcountIn, hvoice, hlow, hhigh, i, k, c, hi, hk, hc, he⟩)
      · exact ⟨henabled, .click, role, b.onset, i, k, c, hi, hk, hc, he, .inl ⟨rfl, rfl, hrole⟩⟩
      · exact ⟨henabled, .click, 2, _, i, k, c, hi, hk, hc, he, .inr (.inl ⟨rfl, rfl, j, hlow, hhigh, rfl⟩)⟩
      · exact ⟨henabled, .count, _, b.onset, i, k, c, hi, hk, hc, he,
          .inr (.inr ⟨rfl, rfl, hcountIn, hvoice, hlow, hhigh, rfl⟩)⟩
    · rintro ⟨-, voice, role, position, i, k, c, hi, hk, hc, he, ⟨rfl, rfl, hrole⟩ | ⟨rfl, rfl, j, hlow, hhigh, rfl⟩ |
        ⟨rfl, rfl, hcountIn, hvoice, hlow, hhigh, rfl⟩⟩
      · exact .inl (.inl ⟨role, hrole, i, k, c, hi, hk, hc, he⟩)
      · exact .inl (.inr ⟨j, hlow, hhigh, i, k, c, hi, hk, hc, he⟩)
      · exact .inr ⟨hcountIn, hvoice, hlow, hhigh, i, k, c, hi, hk, hc, he⟩
  · rw [if_neg henabled]
    simp [henabled]

theorem lane_schedule (g : ClickGen) (b : Beat) (i : LaneNo) :
    (g.schedule b).lane i = { g.lane i with
      starts := (g.newEntries (g.lane i) b).foldl (fun acc x => insertStart x acc) (g.lane i).starts } := by
  simp [ClickGen.schedule, ClickGen.lane]

/-- An announced beat adds its starts. -/
theorem Announced.startsAdded {b : Beat} {s t : State} (h : Announced b s t) : StartsAdded b s t := fun i e => by
  rw [h.clicks, lane_schedule]
  dsimp only
  rw [mem_insertStarts, mem_newEntries]

/-! ## A commit inside a bar -/

/-- An onset moves a NEXT that stands into CURRENT (R24). -/
theorem takeOnset_eq (b : BeatState) : b.takeOnset = { b with current := b.next <|> b.current, next := none } := by
  obtain ⟨click, current, next, rest⟩ := b
  cases next <;> rfl

/-- In a ramp the tempo of the last beat is T1, which the formula gives too (R18). -/
theorem committedTempo_ramp {t : TempoState} {r : Ramp} (hmode : t.mode = .ramp) (hr : t.ramp = some r)
    (hdone : r.done < r.length) :
    committedTempo t = ((r.t0 : Int) + (((r.t1 : Int) - r.t0) * (r.done + 1)).tdiv r.length).toNat := by
  unfold committedTempo
  rw [hmode, hr]
  dsimp only
  split
  · have hlast : ((r.done : Int) + 1) = r.length := by omega
    rw [hlast, Int.mul_tdiv_cancel _ (by omega)]
    omega
  · rfl

/-- Settles O17: the beat, the tempo and the parts that a commit inside a bar leaves. -/
theorem beatCommittedInBar : Obligations.BeatCommittedInBar := by
  intro o p s hdue hlatest hlow hhigh hramp T b
  have hstart : s.beats.barStartNext = false := by
    rw [BeatState.barStartNext, hlatest]
    exact decide_eq_false (Nat.not_le.mpr hhigh)
  have hdiscard : s.beats.discardsNext = false := by simp [BeatState.discardsNext, hstart]
  have hT : T = committedTempo s.tempo := by
    cases hr : s.tempo.ramp with
    | none => cases hmode : s.tempo.mode <;> simp only [T, committedTempo, hmode, hr]
    | some r =>
      cases hmode : s.tempo.mode with
      | ramp =>
        rw [committedTempo_ramp hmode hr (hramp r hr)]
        simp only [T, hmode, hr]
      | fixed => simp only [T, committedTempo, hmode, hr]
      | live => simp only [T, committedTempo, hmode, hr]
  have hb : committedBeat o s = b := by
    have hnumber : s.beats.nextBeatInBar = p.beat + 1 := by
      rw [BeatState.nextBeatInBar, hstart, hlatest]
      rfl
    have hdown : (p.beat + 1 == 1) = false := by
      rw [beq_eq_false_iff_ne]
      omega
    simp only [b, committedBeat, barOfCommit, hstart, hlatest, commit_eq, hnumber, hdown, ← hT]
    rfl
  have htempo : tempoAfterCommit s.tempo = (match s.tempo.mode, s.tempo.ramp with
      | .ramp, some r =>
        if r.done + 1 = r.length then { s.tempo with mode := .fixed, current := r.t1, ramp := none }
        else { s.tempo with current := T, ramp := some { r with done := r.done + 1 } }
      | _, _ => s.tempo) := by
    rw [hT]
    cases hr : s.tempo.ramp with
    | none => cases hmode : s.tempo.mode <;> simp only [tempoAfterCommit, hmode, hr]
    | some r =>
      have hlast : r.length ≤ r.done + 1 ↔ r.done + 1 = r.length := by
        have := hramp r hr
        omega
      cases hmode : s.tempo.mode <;> simp only [tempoAfterCommit, hmode, hr, hlast]
  have hbeats : (beatCommit s).beats = { s.beats with
      current := s.beats.next <|> s.beats.current, next := some b, nextOnset := some (o + b.period) } := by
    rw [beatCommit_beats hdue hdiscard, fixBeat_eq, hb]
    simp [barOfCommit, hstart, takeOnset_eq]
  have hparts := beatCommit_announced hdue hdiscard
  rw [hb] at hparts
  refine ⟨beatCommit s, rfl, ?_, hparts.startsAdded, hparts.targets, fun i => ?_⟩
  · apply state_ext
    case tempo => exact hparts.tempo.trans htempo
    case beats => exact hbeats
    case clicks => rw [hparts.clicks]; rfl
    case overlay => exact hparts.overlay
    case rigs => exact hparts.rigs rfl
    case desk => rfl
    case time => exact hparts.time
    case tables => exact hparts.tables
    case pointer => exact hparts.pointer
    case picture => exact hparts.picture
    case stops => exact hparts.stops
    case resume => exact hparts.resume
    case pending => exact hparts.pending
  · rw [hparts.clicks, lane_schedule]

/-! ## The end of a run of beats -/

theorem setClick_of_not_countIn {c : ClickState} {s : State} (h : s.beats.click ≠ .countIn) :
    setClick c s = notifyIf (s.beats.click != c) .cue { s with beats := { s.beats with click := c } } := by
  have hdrop : (s.beats.click == .countIn && (c == .finishing || c == .idle)) = false := by
    cases hc : s.beats.click <;> simp_all
  unfold setClick
  rw [hdrop]
  rfl

/-- Entering IDLE from another state than COUNT_IN empties the start lists as they stand (R48). -/
theorem enterIdle_clicks {s : State} (h : s.beats.click ≠ .countIn) : (enterIdle s).clicks = s.clicks.emptyStarts := by
  simp [enterIdle, setClick_of_not_countIn h]

@[simp] theorem enterIdle_pointer (s : State) : (enterIdle s).pointer = s.pointer := by simp [enterIdle]

/-- A stop state that keeps the pending changes and is not CLEAR leaves the rigs (R114, R115). -/
theorem setStopState_rigs {x : StopState} (hx : x.dropsSafes = false) (s : State) : (setStopState x s).rigs = s.rigs := by
  have hclear : x ≠ .clear := by
    rintro rfl
    cases hx
  unfold setStopState
  rw [hx]
  simp [hclear]

/-- The arrival test moves nothing but the stop state, from STOPPING to STOPPED (R173). -/
theorem arrive_eq (s : State) :
    arrive s = { s with stops := { s.stops with state := (arrive s).stops.state }, desk := (arrive s).desk } ∧
      ((arrive s).stops.state = s.stops.state ∨ (s.stops.state = .stopping ∧ (arrive s).stops.state = .stopped)) := by
  unfold arrive
  split
  · next h =>
    refine ⟨?_, .inr ⟨h.1, by simp⟩⟩
    apply state_ext <;> simp [setStopState_rigs (x := .stopped) rfl]
  · exact ⟨rfl, .inl rfl⟩

theorem takeArmedIfIdle_of_unarmed {s : State} (h : s.pointer.armed = none) : takeArmedIfIdle s = s := by
  unfold takeArmedIfIdle
  rw [armedCue_none h]
  exact ite_self s

/-- The end of FINISHING at its sample, with nothing raised and no cue armed (R27). -/
theorem finishingEnd_due {c : Beat} {s : State} (hclick : s.beats.click = .finishing) (honset : s.beats.nextOnset = none)
    (hcurrent : s.beats.current = some c) (hdue : (c.onset + c.period) / 65536 ≤ s.now) (harmed : s.pointer.armed = none)
    (hquiet : NothingRaised s) : finishingEnd s = arrive (enterIdle s) := by
  have hidle : NothingRaised (enterIdle s) := hquiet.congr (by simp)
  unfold finishingEnd
  rw [hclick, honset, hcurrent]
  dsimp only
  rw [sample_of_nothingRaised false hidle, takeArmedIfIdle_of_unarmed ((enterIdle_pointer s).symm ▸ harmed)]
  exact if_pos hdue

/-- Settles O19: the onset, the discarded bar start and the end of FINISHING. -/
theorem runOfBeatsEnds : Obligations.RunOfBeatsEnds := by
  refine ⟨fun s => ⟨fun n hn hdue => ?_, fun hnot => ?_⟩, fun o s honset hdue hclick hlast hbar => ?_,
    fun c s => ⟨fun hclick honset hcurrent hdue harmed hquiet => ?_, fun hnot => ?_⟩⟩
  · show execBeatOnset s = _
    unfold execBeatOnset
    rw [hn]
    refine (if_pos hdue).trans ?_
    rw [BeatState.takeOnset, hn]
  · show execBeatOnset s = _
    unfold execBeatOnset
    cases hn : s.beats.next with
    | none => rfl
    | some n => exact if_neg (Nat.not_le.mpr (hnot n hn))
  · have hstart : s.beats.barStartNext = true := by
      unfold BeatState.barStartNext
      rcases hbar with h | ⟨p, h, hmeter⟩
      · rw [h]
      · rw [h]
        exact decide_eq_true hmeter
    have hdiscard : s.beats.discardsNext = true := by simp [BeatState.discardsNext, hclick, hlast, hstart]
    show execBeatCommit s = _
    rw [execBeatCommit, beatCommit, if_pos (s.commitDue_iff.mpr ⟨o, honset, hdue⟩), if_pos hdiscard, takeOnset_eq]
  · obtain ⟨hstate, hmoved⟩ := arrive_eq (enterIdle s)
    refine ⟨arrive (enterIdle s), ?_, ?_, by simpa using hmoved⟩
    · exact congrArg Host.Outcome.next (finishingEnd_due hclick honset hcurrent hdue harmed hquiet)
    · generalize arrive (enterIdle s) = t at hstate
      rw [hstate]
      have hclicks := enterIdle_clicks (s := s) (by rw [hclick]; decide)
      apply state_ext <;> simp [hclicks, BeatState.idled]
  · show execFinishingEnd s = _
    unfold execFinishingEnd finishingEnd
    congr 1
    split
    · next c hclick honset hcurrent =>
      rcases hnot with h | h | h
      · exact absurd hclick h
      · exact absurd honset h
      · exact if_neg (Nat.not_le.mpr (h c hcurrent))
    · rfl

end Sys2Proof.Machine
end

section
/-!
PROOFS. Bar starts (2.4, 2.5): the bar that a commit begins, the vamp test, the pushes, and what follows at a bar start.
-/

namespace Sys2Proof.Machine
set_option Elab.async false

/-! ## Pushes (R34) -/

/-- The beat state after the pushes of the pending list at a bar. -/
def BeatState.pushedAt (bar : Nat) (b : BeatState) : BeatState :=
  { b with
    pushes := []
    vamps := ((b.pushes.take (4 - b.vamps.length)).map (VampSpec.At bar)).reverse ++ b.vamps
    overflow := b.overflow || decide (4 - b.vamps.length < b.pushes.length) }

theorem pushVamp_beats_eq (bar : Nat) (s : State) (v : VampSpec) :
    (pushVamp bar s v).beats =
      if s.beats.vamps.length < 4 then { s.beats with vamps := VampSpec.At bar v :: s.beats.vamps }
      else { s.beats with overflow := true } := by
  have hrecord : v.record bar = VampSpec.At bar v := rfl
  by_cases h : s.beats.vamps.length < 4
  · rw [if_pos h, show pushVamp bar s v = _ from if_pos h]
    simp [hrecord]
  · rw [if_neg h, show pushVamp bar s v = _ from if_neg h]
    simp [vampOverflow]

theorem pushVamps_beats (bar : Nat) (l : List VampSpec) (s : State) :
    (l.foldl (pushVamp bar) s).beats = { s.beats with
      vamps := ((l.take (4 - s.beats.vamps.length)).map (VampSpec.At bar)).reverse ++ s.beats.vamps
      overflow := s.beats.overflow || decide (4 - s.beats.vamps.length < l.length) } := by
  induction l generalizing s with
  | nil => simp
  | cons v l ih =>
    rw [List.foldl_cons, ih, pushVamp_beats_eq]
    by_cases hroom : s.beats.vamps.length < 4
    · have hless : 4 - s.beats.vamps.length = (4 - (s.beats.vamps.length + 1)) + 1 := by omega
      rw [if_pos hroom, hless]
      simp
    · have hfull : 4 - s.beats.vamps.length = 0 := by omega
      rw [if_neg hroom]
      simp [hfull]

/-- The pushes are made in order, up to the stack's capacity. -/
theorem pushAll_beats (bar : Nat) (s : State) : (pushAll bar s).beats = s.beats.pushedAt bar := pushVamps_beats bar _ _

/-- A push that does not fit makes the FAULT kind pending (R34). -/
theorem pushAll_fault {bar : Nat} {s : State} (hclear : s.beats.overflow = false)
    (hfull : 4 - s.beats.vamps.length < s.beats.pushes.length) (q : DeskPort) :
    KindPending .fault q (s.port q).mask (pushAll bar s) := by
  have hkept : ∀ (u : State) (v : VampSpec),
      (u.port q).mask = (s.port q).mask ∧ (u.beats.overflow = true → KindPending .fault q (s.port q).mask u) →
      ((pushVamp bar u v).port q).mask = (s.port q).mask ∧
        ((pushVamp bar u v).beats.overflow = true → KindPending .fault q (s.port q).mask (pushVamp bar u v)) := by
    rintro u v ⟨hmask, hpending⟩
    unfold pushVamp
    split
    · refine ⟨(congrArg DeskPortRec.mask (port_notify ..)).trans hmask, fun h => ?_⟩
      exact (kindPending_untimed .fault q _).notify _ _ ((kindPending_untimed .fault q _).anyBeats _ _ (hpending h))
    · unfold vampOverflow
      cases hover : u.beats.overflow with
      | false =>
        have hnotified := kindPending_notify .fault q { u with beats := { u.beats with overflow := true } }
        rw [show (({ u with beats := { u.beats with overflow := true } } : State).port q).mask = (s.port q).mask from hmask]
          at hnotified
        exact ⟨hnotified.1, fun _ => hnotified⟩
      | true => exact ⟨hmask, fun _ => (kindPending_untimed .fault q _).anyBeats _ _ (hpending hover)⟩
  have hall := foldl_keeps (I := fun u => (u.port q).mask = (s.port q).mask ∧
      (u.beats.overflow = true → KindPending .fault q (s.port q).mask u)) hkept s.beats.pushes
    (s := { s with beats := { s.beats with pushes := [] } }) ⟨rfl, fun h => by rw [hclear] at h; cases h⟩
  refine hall.2 ?_
  show (pushAll bar s).beats.overflow = true
  rw [pushAll_beats]
  simp [BeatState.pushedAt, hfull]

/-! ## The vamp test (R35, R36) -/

theorem vampTest_below {ended : Nat} {v : Vamp} {outer : List Vamp} (h : ended < v.last) :
    vampTest ended (v :: outer) = { stack := v :: outer, bar := some (ended + 1), loop := false, lastPass := false } :=
  if_pos h

theorem vampTest_loops {ended : Nat} {v : Vamp} {outer : List Vamp} (h : v.last ≤ ended) (hl : v.loops = true) :
    vampTest ended (v :: outer) =
      { stack := v.again :: outer, bar := some v.start, loop := true, lastPass := v.again.onLastPass } :=
  (if_neg (Nat.not_lt.mpr h)).trans (if_pos hl)

theorem vampTest_pops {ended : Nat} {v : Vamp} {outer : List Vamp} (h : v.last ≤ ended) (hl : v.loops = false) :
    vampTest ended (v :: outer) = vampTest ended outer :=
  (if_neg (Nat.not_lt.mpr h)).trans (if_neg (by rw [hl]; decide))

/-- A test that gives no bar has emptied the stack, and nothing looped. -/
theorem vampTest_none {ended : Nat} {l : List Vamp} (h : (vampTest ended l).bar = none) :
    vampTest ended l = { stack := [], bar := none, loop := false, lastPass := false } := by
  induction l with
  | nil => rfl
  | cons v outer ih =>
    by_cases hbelow : ended < v.last
    · rw [vampTest_below hbelow] at h
      cases h
    · cases hl : v.loops with
      | true =>
        rw [vampTest_loops (Nat.not_lt.mp hbelow) hl] at h
        cases h
      | false =>
        rw [vampTest_pops (Nat.not_lt.mp hbelow) hl] at h ⊢
        exact ih h

/-! ## The bars that a commit begins -/

/-- The number of the music bar after the bar `ended` (R32, R35). -/
def BeatState.musicBar (ended : Nat) (b : BeatState) : Nat :=
  (vampTest ended b.vamps).bar.getD (b.pendingBar.getD (min (ended + 1) 9999))

/-- The beat state of a music bar before its pushes (R32, R36). -/
def BeatState.afterVamps (ended : Nat) (b : BeatState) : BeatState :=
  { b with
    vamps := (vampTest ended b.vamps).stack
    pendingBar := if (vampTest ended b.vamps).bar = none then none else b.pendingBar }

/-- A music bar is begun by the vamp test, and then its pushes are made (R34, R35). -/
theorem beginMusicBar_eq (ended : Nat) (s : State) : ∃ w, PortsStand s w ∧ w.beats = s.beats.afterVamps ended ∧
    beginMusicBar ended s =
      ({ bar := (s.beats.musicBar ended : Int), countIn := false, vampLoop := (vampTest ended s.beats.vamps).loop,
         lastPass := (vampTest ended s.beats.vamps).lastPass }, pushAll (s.beats.musicBar ended) w) := by
  have hstand : ∀ x : BeatState, PortsStand s { notifyIf ((vampTest ended s.beats.vamps).loop ||
      (vampTest ended s.beats.vamps).stack != s.beats.vamps) .cue
      { s with beats := { s.beats with vamps := (vampTest ended s.beats.vamps).stack } } with beats := x } := fun x =>
    (portsStand_untimed s).anyBeats x _ ((portsStand_untimed s).of_notifyIf _ _
      ((portsStand_untimed s).anyBeats _ s (.refl s)))
  unfold beginMusicBar
  cases hbar : (vampTest ended s.beats.vamps).bar with
  | some bar =>
    refine ⟨_, hstand (s.beats.afterVamps ended), rfl, ?_⟩
    simp only [BeatState.musicBar, hbar, Option.getD_some]
    refine congrArg (Prod.mk _) (congrArg (pushAll bar) ?_)
    apply state_ext <;> simp [BeatState.afterVamps, hbar]
  | none =>
    have hnone := vampTest_none hbar
    refine ⟨_, hstand (s.beats.afterVamps ended), rfl, ?_⟩
    simp only [BeatState.musicBar, hnone, Option.getD_none, notifyIf_keeps]
    refine congrArg (Prod.mk _) (congrArg (pushAll _) ?_)
    apply state_ext <;> simp [BeatState.afterVamps, hnone]

theorem takeMeter_eq (b : BeatState) :
    b.takeMeter = { b with meter := b.pendingMeter.getD b.meter, pendingMeter := none } := by
  obtain ⟨click, current, next, nextOnset, countInLeft, countInLength, firstBarDue, startBar, last, meter, pendingMeter, rest⟩ := b
  cases pendingMeter <;> rfl

/-- The beat state as a bar start finds it, once an overdue NEXT is moved and a pending meter taken (R24, R29). -/
def BeatState.atBarStart (b : BeatState) : BeatState :=
  { b with
    current := b.next <|> b.current
    next := none
    meter := b.pendingMeter.getD b.meter
    pendingMeter := none }

/-- The bar of a bar-start commit (R31). -/
theorem barOfCommit_start {s : State} (hstart : s.beats.barStartNext = true) : ∃ u, PortsStand s u ∧
    u.beats = s.beats.atBarStart ∧
    barOfCommit s =
      if s.beats.firstBarDue then if 0 < s.beats.countInLeft then beginCountInBar u else beginFirstBar u
      else beginMusicBar ((s.beats.latest.map fun b => b.bar.toNat).getD 0) u := by
  have hbeats : (fixTempo { s with beats := s.beats.takeOnset }).2.beats.takeMeter = s.beats.atBarStart := by
    rw [takeMeter_eq]
    simp [takeOnset_eq, BeatState.atBarStart]
  refine ⟨{ (fixTempo { s with beats := s.beats.takeOnset }).2 with
    beats := (fixTempo { s with beats := s.beats.takeOnset }).2.beats.takeMeter }, ?_, hbeats, ?_⟩
  · exact (portsStand_untimed s).anyBeats _ _ ((portsStand_untimed s).of_notifyIf _ _
      ((portsStand_untimed s).anyTempo _ _ ((portsStand_untimed s).anyBeats _ s (.refl s))))
  · have hparts : s.beats.atBarStart.firstBarDue = s.beats.firstBarDue ∧
        s.beats.atBarStart.countInLeft = s.beats.countInLeft := ⟨rfl, rfl⟩
    unfold barOfCommit
    rw [if_pos hstart]
    unfold beginBar
    simp only [hbeats, hparts]

/-- What the bar of a commit keeps, the announcement of its beat keeps. -/
theorem Untimed.of_barOfCommit {I : State → Prop} (h : Untimed I) {o : Nat} {s : State} (hdue : CommitDue o s)
    (hd : s.beats.discardsNext = false) (hs : I (barOfCommit s).2) : I (beatCommit s) := by
  have hkept := h.keptByCues
  have hannounced : I (lowerHoldOff (announceOutputs (committedBeat o s) (fixBeat o s).2)) := by
    have hfixed : I (fixBeat o s).2 := h.anyBeats _ _ hs
    have hout := hkept.of_announceOutputs (committedBeat o s) hfixed
    exact ite_keeps hout (hkept.of_setHoldOff (.inr (Nat.sub_le ..)) hout)
  rw [beatCommit_eq hdue hd]
  exact ite_keeps (h.of_forceVisits hannounced) hannounced

/-- The first beat of the music bar after the bar `ended` (R30, R32, R35). -/
def musicBeat (o ended : Nat) (s : State) : Beat :=
  { onset := o, period := 18874368000000 / committedTempo s.tempo, tempo := committedTempo s.tempo,
    bar := (s.beats.musicBar ended : Int), beat := 1, downbeat := true, countIn := false,
    vampLoop := (vampTest ended s.beats.vamps).loop, lastPass := (vampTest ended s.beats.vamps).lastPass }

/-- A commit that begins a music bar other than the first. -/
structure MusicCommit (o ended : Nat) (s t : State) : Prop where
  announced : Announced (musicBeat o ended s) s t
  beats : t.beats = { (s.beats.atBarStart.afterVamps ended).pushedAt (s.beats.musicBar ended) with
    next := some (musicBeat o ended s)
    nextOnset := some (o + (musicBeat o ended s).period)
    lastBarToBegin := false }
  fault : s.beats.overflow = false → 4 - (vampTest ended s.beats.vamps).stack.length < s.beats.pushes.length →
    ∀ q, KindPending .fault q (s.port q).mask t

theorem barStartNext_of_meter {b : BeatState} (h : b.latest = none ∨ ∃ p, b.latest = some p ∧ b.meter ≤ p.beat) :
    b.barStartNext = true := by
  unfold BeatState.barStartNext
  rcases h with h | ⟨p, h, hmeter⟩
  · rw [h]
  · rw [h]
    exact decide_eq_true hmeter

theorem committedBeat_of_bar {o : Nat} {s : State} (hstart : s.beats.barStartNext = true) {bs : BarStart} {u : State}
    (hbar : barOfCommit s = (bs, u)) :
    committedBeat o s =
      { onset := o, period := 18874368000000 / committedTempo s.tempo, tempo := committedTempo s.tempo, bar := bs.bar,
        beat := 1, downbeat := true, countIn := bs.countIn, vampLoop := bs.vampLoop, lastPass := bs.lastPass } := by
  have hnumber : s.beats.nextBeatInBar = 1 := if_pos hstart
  simp only [committedBeat, hbar, hnumber, commit_eq]
  rfl

theorem beatCommit_beats_of_bar {o : Nat} {s : State} (h : CommitDue o s) (hd : s.beats.discardsNext = false)
    (hstart : s.beats.barStartNext = true) :
    (beatCommit s).beats = { (barOfCommit s).2.beats with
      next := some (committedBeat o s), nextOnset := some (o + (committedBeat o s).period), lastBarToBegin := false } := by
  rw [beatCommit_beats h hd, fixBeat_eq]
  simp [hstart]

theorem musicCommit {o : Nat} {p : Beat} {s : State} (h : CommitDue o s) (hd : s.beats.discardsNext = false)
    (hlatest : s.beats.latest = some p) (hmeter : s.beats.meter ≤ p.beat) (hfirst : s.beats.firstBarDue = false) :
    MusicCommit o p.bar.toNat s (beatCommit s) := by
  have hstart := barStartNext_of_meter (.inr ⟨p, hlatest, hmeter⟩)
  obtain ⟨u, hports, hbeats, hbar⟩ := barOfCommit_start hstart
  rw [hfirst, if_neg (by decide), hlatest] at hbar
  obtain ⟨w, hw, hwbeats, hmusic⟩ := beginMusicBar_eq p.bar.toNat u
  have hbarEq := hbar.trans hmusic
  rw [hbeats] at hbarEq hwbeats
  have hbeat : committedBeat o s = musicBeat o p.bar.toNat s := committedBeat_of_bar hstart hbarEq
  refine ⟨hbeat ▸ beatCommit_announced h hd, ?_, fun hclear hfull q => ?_⟩
  · rw [beatCommit_beats_of_bar h hd hstart, hbarEq, hbeat]
    dsimp only
    rw [pushAll_beats, hwbeats]
    rfl
  · refine (kindPending_untimed .fault q _).of_barOfCommit h hd ?_
    rw [hbarEq]
    have hpushed := pushAll_fault (bar := s.beats.musicBar p.bar.toNat) (s := w) (by rw [hwbeats]; exact hclear)
      (by rw [hwbeats]; exact hfull) q
    rw [hw.field (·.mask), hports.field (·.mask)] at hpushed
    exact hpushed

/-- The pushes of a bar start, as the state after its commit shows them (R34). -/
theorem pushesMade_of_beats {bar : Nat} {b : BeatState} {s t : State} (hvamps : t.beats.vamps = (b.pushedAt bar).vamps)
    (hoverflow : t.beats.overflow = (b.pushedAt bar).overflow) (hold : b.overflow = s.beats.overflow)
    (hfault : s.beats.overflow = false → 4 - b.vamps.length < b.pushes.length → ∀ q, KindPending .fault q (s.port q).mask t) :
    PushesMade bar b.pushes b.vamps s t where
  vamps := hvamps
  overflow := by rw [hoverflow, ← hold]; rfl
  fault hclear hfull q := (hfault hclear hfull q).2

/-- A bar start that begins the first music bar (R31, R34). -/
structure FirstBarCommit (o : Nat) (s t : State) (n : Beat) : Prop where
  beat : n.onset = o ∧ n.beat = 1 ∧ n.downbeat = true ∧ n.tempo = committedTempo s.tempo ∧
    n.period = 18874368000000 / committedTempo s.tempo
  announced : Announced n s t
  next : t.beats.next = some n
  onset : t.beats.nextOnset = some (o + n.period)
  meter : t.beats.meter = s.beats.pendingMeter.getD s.beats.meter
  countIn : 0 < s.beats.countInLeft → n.bar = -(s.beats.countInLeft : Int) ∧ n.countIn = true ∧
    t.beats.countInLeft = s.beats.countInLeft - 1 ∧ t.beats.click = s.beats.click ∧ t.beats.firstBarDue = true ∧
    t.beats.vamps = s.beats.vamps ∧ t.beats.pushes = s.beats.pushes ∧ t.beats.pendingBar = s.beats.pendingBar
  music : s.beats.countInLeft = 0 → n.bar = (s.beats.pendingBar.getD s.beats.startBar : Nat) ∧ n.countIn = false ∧
    t.beats.click = (if s.beats.click = .countIn then .running else s.beats.click) ∧ t.beats.firstBarDue = false ∧
    t.beats.pendingBar = none ∧ t.beats.pushes = [] ∧ PushesMade n.bar.toNat s.beats.pushes s.beats.vamps s t

/-- The first music bar is begun with its pushes (R31, R34). -/
theorem beginFirstBar_eq (s : State) : ∃ w, PortsStand s w ∧ w.beats = { s.beats with
      click := if s.beats.click = .countIn then .running else s.beats.click, pendingBar := none, firstBarDue := false } ∧
    beginFirstBar s =
      ({ bar := (s.beats.pendingBar.getD s.beats.startBar : Nat), countIn := false, vampLoop := false, lastPass := false },
        pushAll (s.beats.pendingBar.getD s.beats.startBar) w) := by
  have hclick : PortsStand s (if s.beats.click = .countIn then setClick .running s else s) :=
    ite_keeps ((portsStand_untimed s).toBeatFree.of_setClick _ (.refl s)) (.refl s)
  refine ⟨_, (portsStand_untimed s).anyBeats _ _ hclick, ?_, rfl⟩
  split <;> simp [*]

theorem firstBarCommit {o : Nat} {s : State} (h : CommitDue o s) (hd : s.beats.discardsNext = false)
    (hstart : s.beats.barStartNext = true) (hfirst : s.beats.firstBarDue = true) :
    FirstBarCommit o s (beatCommit s) (committedBeat o s) := by
  obtain ⟨u, hports, hbeats, hbar⟩ := barOfCommit_start hstart
  rw [hfirst, if_pos rfl] at hbar
  have hparts := beatCommit_beats_of_bar h hd hstart
  have hannounced := beatCommit_announced h hd
  by_cases hleft : 0 < s.beats.countInLeft
  · rw [if_pos hleft] at hbar
    have hbeat := committedBeat_of_bar (o := o) hstart hbar
    rw [hbar] at hparts
    refine ⟨by rw [hbeat]; exact ⟨rfl, rfl, rfl, rfl, rfl⟩, hannounced, by rw [hparts], by rw [hparts], ?_, fun _ => ?_,
      fun hzero => absurd hzero (by omega)⟩
    · rw [hparts]
      show u.beats.meter = _
      rw [hbeats]
      rfl
    · rw [hparts, hbeat]
      show -(u.beats.countInLeft : Int) = _ ∧ true = true ∧ u.beats.countInLeft - 1 = _ ∧ u.beats.click = _ ∧
        u.beats.firstBarDue = _ ∧ u.beats.vamps = _ ∧ u.beats.pushes = _ ∧ u.beats.pendingBar = _
      rw [hbeats]
      exact ⟨rfl, rfl, rfl, rfl, hfirst, rfl, rfl, rfl⟩
  · rw [if_neg hleft] at hbar
    obtain ⟨w, hw, hwbeats, hbegun⟩ := beginFirstBar_eq u
    have hbarEq := hbar.trans hbegun
    rw [hbeats] at hbarEq hwbeats
    have hbeat := committedBeat_of_bar (o := o) hstart hbarEq
    have hbarNo : (committedBeat o s).bar = (s.beats.pendingBar.getD s.beats.startBar : Nat) := by rw [hbeat]; rfl
    have hpushed : (barOfCommit s).2.beats = w.beats.pushedAt (s.beats.pendingBar.getD s.beats.startBar) := by
      rw [hbarEq]
      exact pushAll_beats ..
    rw [hpushed, hwbeats] at hparts
    refine ⟨by rw [hbeat]; exact ⟨rfl, rfl, rfl, rfl, rfl⟩, hannounced, by rw [hparts], by rw [hparts], by rw [hparts]; rfl,
      fun hleft' => absurd hleft' hleft, fun _ => ⟨hbarNo, by rw [hbeat], by rw [hparts]; rfl, by rw [hparts]; rfl,
        by rw [hparts]; rfl, by rw [hparts]; rfl, ?_⟩⟩
    rw [hbarNo, Int.toNat_natCast]
    refine pushesMade_of_beats (b := s.beats) (by rw [hparts]; rfl) (by rw [hparts]; rfl) rfl fun hclear hfull q => ?_
    refine (kindPending_untimed .fault q _).of_barOfCommit h hd ?_
    rw [hbarEq]
    have hpending := pushAll_fault (bar := s.beats.pendingBar.getD s.beats.startBar) (s := w) (by rw [hwbeats]; exact hclear)
      (by rw [hwbeats]; exact hfull) q
    rw [hw.field (·.mask), hports.field (·.mask)] at hpending
    exact hpending

/-- The last bar of a vamp is at hand: what the obligation says of loops is the test of R35. -/
theorem loops_iff (v : Vamp) :
    v.loops = true ↔ (v.kind = .opened ∧ v.released = false) ∨ (v.kind = .repeated ∧ ∃ k, v.passes = some k ∧ v.pass < k) := by
  unfold Vamp.loops
  cases v.kind <;> cases v.passes <;> simp

theorem onLastPass_iff (v : Vamp) : v.again.onLastPass = true ↔ v.kind = .repeated ∧ v.passes = some (min (v.pass + 1) 255) := by
  have hagain : v.again.onLastPass = (v.kind == .repeated && v.passes == some (min (v.pass + 1) 255)) := rfl
  rw [hagain]
  simp

/-- Settles O18: the music bars, the bars after a START, and the pushes of a bar start. -/
theorem barStartsCommitted : Obligations.BarStartsCommitted := by
  refine ⟨fun o p s hdue hlatest hmeter hd hfirst hpushes => ?_, fun o s hdue hbar hd hfirst => ?_,
    fun o p s hdue hlatest hmeter hd hfirst => ?_⟩
  · intro T ended
    have hc := musicCommit hdue hd hlatest hmeter hfirst
    have hn := hc.announced
    have hvamps : (beatCommit s).beats.vamps = (vampTest ended s.beats.vamps).stack := by
      rw [hc.beats]
      simp [BeatState.pushedAt, BeatState.afterVamps, BeatState.atBarStart, hpushes, ended]
    have hpending : (beatCommit s).beats.pendingBar =
        if (vampTest ended s.beats.vamps).bar = none then none else s.beats.pendingBar := by
      rw [hc.beats]
      rfl
    have hnext : (beatCommit s).beats.next = some (musicBeat o ended s) := by rw [hc.beats]
    refine ⟨beatCommit s, rfl, hn.tempo, hn.tables, hn.pointer, hn.time, hn.resume, fun n h => ?_, fun n h => ?_, fun hnone => ?_,
      fun v outer hv => ⟨fun hbelow => ?_, fun hlast hloops => ?_, fun hlast hstops => ?_⟩⟩
    · obtain rfl : musicBeat o ended s = n := Option.some.inj (hnext.symm.trans h)
      exact ⟨hn.startsAdded, hn.targets⟩
    · obtain rfl : musicBeat o ended s = n := Option.some.inj (hnext.symm.trans h)
      refine ⟨?_, rfl⟩
      rw [hvamps, hpending, hc.beats]
      simp [BeatState.pushedAt, BeatState.afterVamps, BeatState.atBarStart, hpushes, ended]
    · have htest : vampTest ended s.beats.vamps = { stack := [], bar := none, loop := false, lastPass := false } := by
        rw [hnone]
        rfl
      refine ⟨_, hnext, ?_, ?_, ?_, ?_, ?_⟩
      · simp [musicBeat, htest]
      · simp [musicBeat, htest]
      · simp [musicBeat, BeatState.musicBar, htest]
      · rw [hpending, htest]
        rfl
      · rw [hvamps, htest]
    · have htest := vampTest_below (outer := outer) hbelow
      rw [← hv] at htest
      refine ⟨_, hnext, ?_, ?_, ?_, ?_, ?_⟩
      · simp [musicBeat, BeatState.musicBar, htest]
      · simp [musicBeat, htest]
      · simp [musicBeat, htest]
      · rw [hvamps, htest]
      · rw [hpending, htest]
        rfl
    · have htest := vampTest_loops (outer := outer) hlast ((loops_iff v).mpr hloops)
      rw [← hv] at htest
      refine ⟨_, hnext, ?_, ?_, ?_, ?_, ?_⟩
      · simp [musicBeat, BeatState.musicBar, htest]
      · simp [musicBeat, htest]
      · rw [← onLastPass_iff]
        simp [musicBeat, htest]
      · rw [hvamps, htest]
        rfl
      · rw [hpending, htest]
        rfl
    · have hno : v.loops = false := by
        rw [Bool.eq_false_iff]
        intro h
        rcases (loops_iff v).mp h with ⟨hk, hr⟩ | ⟨hk, k, hp, hlt⟩
        · rcases hstops with ⟨-, hr'⟩ | ⟨hk', -⟩
          · rw [hr'] at hr
            cases hr
          · rw [hk'] at hk
            cases hk
        · rcases hstops with ⟨hk', -⟩ | ⟨-, hall⟩
          · rw [hk'] at hk
            cases hk
          · have := hall k hp
            omega
      have htest := vampTest_pops (outer := outer) hlast hno
      rw [← hv] at htest
      have hu := musicCommit (s := { s with beats := { s.beats with vamps := outer } })
        { onset := hdue.onset, due := hdue.due, armed := hdue.armed, quiet := hdue.quiet } hd hlatest hmeter hfirst
      refine ⟨_, rfl, ?_⟩
      rw [hc.beats, hu.beats]
      simp only [ended] at htest
      simp [musicBeat, BeatState.musicBar, BeatState.pushedAt, BeatState.afterVamps, BeatState.atBarStart, hpushes, htest]
  · have hstart := barStartNext_of_meter hbar
    have hc := firstBarCommit hdue hd hstart hfirst
    have hn := hc.announced
    obtain ⟨honset, hbeat, hdown, htempo, hperiod⟩ := hc.beat
    refine ⟨beatCommit s, committedBeat o s, rfl, hc.next, honset, hbeat, hdown, htempo, hperiod, hc.onset, hc.meter, hn.tables, hn.pointer, hn.time,
      hn.startsAdded, hn.targets, hc.countIn, fun hleft => ?_⟩
    obtain ⟨hbarNo, hcountIn, hclick, hfirstBar, hpending, hpushes, hmade⟩ := hc.music hleft
    refine ⟨hbarNo, hcountIn, hclick, hfirstBar, hpending, hpushes, hmade, fun hfit => ?_⟩
    rw [hmade.vamps, List.take_of_length_le (by omega)]
    rfl
  · have hc := musicCommit hdue hd hlatest hmeter hfirst
    have hu := musicCommit (s := { s with beats := { s.beats with pushes := [] } })
      { onset := hdue.onset, due := hdue.due, armed := hdue.armed, quiet := hdue.quiet } hd hlatest hmeter hfirst
    refine ⟨beatCommit s, _, _, rfl, rfl, by rw [hu.beats], ?_, ?_⟩
    · rw [hc.beats, hu.beats]
      rfl
    · have hstack : (beatCommit { s with beats := { s.beats with pushes := [] } }).beats.vamps =
          (vampTest p.bar.toNat s.beats.vamps).stack := by
        rw [hu.beats]
        simp [BeatState.pushedAt, BeatState.afterVamps, BeatState.atBarStart]
      rw [hstack]
      refine pushesMade_of_beats (b := s.beats.atBarStart.afterVamps p.bar.toNat) ?_ ?_ rfl hc.fault
      · rw [hc.beats]
        rfl
      · rw [hc.beats]
        rfl

end Sys2Proof.Machine
end

section
/-!
PROOFS. The rig records: what the sending of a change writes, and what the visits of the slots leave of one slot (R107, R112).
-/

namespace Sys2Proof.Machine
set_option Elab.async false

/-! ## Sending (R107) -/

section Sending

variable {k : Slot} {p : RigPort} (x : Patch) (c : ChangeKind) {s : State}

/-- What a sent change leaves in its slot's record. -/
theorem rig_sendChange (h : (s.rig k).boundPort = some p) :
    (sendChange k x c s).rig k = (s.rig k).sent x c (!(s.rigPort p).bit) s.now := by
  unfold sendChange
  rw [h]
  dsimp only
  rw [rig_setRig_same]
  simp [Rig.sent]

/-- What a sent change leaves in its port's record. -/
theorem rigPort_sendChange (h : (s.rig k).boundPort = some p) :
    (sendChange k x c s).rigPort p =
      { s.rigPort p with bit := !(s.rigPort p).bit, lastSelect := some (x, !(s.rigPort p).bit) } := by
  unfold sendChange
  rw [h]
  simp

theorem rig_sendChange_ne {j : Slot} (hj : j ≠ k) : (sendChange j x c s).rig k = s.rig k := by
  unfold sendChange
  split
  · rfl
  · simp [rig_setRig, hj]

theorem rigPort_sendChange_ne {j : Slot} (h : (s.rig j).boundPort ≠ some p) : (sendChange j x c s).rigPort p = s.rigPort p := by
  unfold sendChange
  split
  · rfl
  · next q hq =>
    have hqp : q ≠ p := fun e => h (by rw [hq, e])
    simp [rigPort_setRigPort, hqp]

end Sending

theorem sendIfDue_of_due {k : Slot} {x : Patch} {s : State} (hstate : (s.rig k).state = .ready)
    (hpending : (s.rig k).pendingChange = some ⟨x, .cue, .now⟩) :
    sendIfDue k s = if s.isClear then sendChange k x .cue s else s := by
  unfold sendIfDue
  dsimp only
  rw [hstate, hpending]

/-! ## Visits -/

/-- Two states agree on every binding. -/
def SameBound (s t : State) : Prop := ∀ j, (t.rig j).boundPort = (s.rig j).boundPort

theorem SameBound.refl (s : State) : SameBound s s := fun _ => rfl

theorem sameBound_steady (s : State) : Steady (SameBound s) where
  notify _ _ h := h
  time _ _ h := h
  pointer _ _ h := h
  overlay _ _ h := h
  resume _ _ h := h
  clicks _ _ _ _ h := h
  rigs _ _ hx h j := (hx.slots j).trans (h j)
  picture _ _ _ h := h
  stops _ _ _ h := h

/-- What a fold over the slots leaves of one of them is its own visit, from a state that agrees on it with the first. -/
theorem foldl_visit {β : Type} {I : State → Prop} {g : State → β} {f : State → Slot → State} {k : Slot}
    (hI : ∀ s j, I s → I (f s j)) (hg : ∀ s j, j ≠ k → I s → g (f s j) = g s) (l : List Slot) (hk : k ∈ l) (hl : l.Nodup)
    {s : State} (hs : I s) : ∃ u, I u ∧ g u = g s ∧ g (l.foldl f s) = g (f u k) := by
  have hafter : ∀ (l : List Slot) (t : State), k ∉ l → I t → g (l.foldl f t) = g t := by
    intro l
    induction l with
    | nil => exact fun _ _ _ => rfl
    | cons j l ih =>
      intro t hnot ht
      obtain ⟨hj, hrest⟩ := not_or.mp (List.mem_cons.not.mp hnot)
      exact (ih _ hrest (hI t j ht)).trans (hg t j (Ne.symm hj) ht)
  induction l generalizing s with
  | nil => cases hk
  | cons j l ih =>
    obtain ⟨hj, hrest⟩ := List.nodup_cons.mp hl
    by_cases hjk : j = k
    · subst hjk
      exact ⟨s, hs, rfl, hafter l _ hj (hI s j hs)⟩
    · obtain ⟨u, hu, hgu, hfold⟩ := ih (by simpa [Ne.symm hjk] using hk) hrest (hI s j hs)
      exact ⟨u, hu, hgu.trans (hg s j hjk hs), hfold⟩

theorem allSlots_nodup : allSlots.Nodup := by decide

/-- What a visit of another slot leaves of a slot and of a port that is not its own (R112). -/
theorem forceVisit_ne {j k : Slot} {p : RigPort} {s : State} (hj : j ≠ k) (hp : (s.rig j).boundPort ≠ some p) :
    (forceVisit s j).rig k = s.rig k ∧ (forceVisit s j).rigPort p = s.rigPort p := by
  have hset : ∀ c, (setRig j { s.rig j with pendingChange := c } s).rig k = s.rig k ∧
      (setRig j { s.rig j with pendingChange := c } s).rigPort p = s.rigPort p := fun c => ⟨by simp [rig_setRig, hj], by simp⟩
  unfold forceVisit
  dsimp only
  split
  · next patch _ =>
    obtain ⟨hrig, hport⟩ := hset (some ⟨patch, .cue, .now⟩)
    unfold sendIfDue
    dsimp only
    split
    · split
      · exact ⟨(rig_sendChange_ne _ _ hj).trans hrig, (rigPort_sendChange_ne _ _ (by simpa using hp)).trans hport⟩
      · exact ⟨hrig, hport⟩
    · exact ⟨hrig, hport⟩
  · exact hset _
  · exact ⟨rfl, rfl⟩

/-- The visit of a READY slot whose deferred CUE change has no force bars left sends it in CLEAR (R112). -/
theorem forceVisit_due {k : Slot} {p : RigPort} {x : Patch} {s : State} (hclear : s.isClear = true)
    (hstate : (s.rig k).state = .ready) (hbound : (s.rig k).boundPort = some p)
    (hpending : (s.rig k).pendingChange = some ⟨x, .cue, .atRelease 0⟩) :
    (forceVisit s k).rig k = (s.rig k).sent x .cue (!(s.rigPort p).bit) s.now ∧
      (forceVisit s k).rigPort p =
        { s.rigPort p with bit := !(s.rigPort p).bit, lastSelect := some (x, !(s.rigPort p).bit) } := by
  have hvisit : forceVisit s k = sendChange k x .cue (setRig k { s.rig k with pendingChange := some ⟨x, .cue, .now⟩ } s) := by
    unfold forceVisit
    dsimp only
    rw [hpending]
    dsimp only
    rw [sendIfDue_of_due (by rw [rig_setRig_same]; exact hstate) (by rw [rig_setRig_same])]
    exact if_pos (by simpa [State.isClear] using hclear)
  rw [hvisit, rig_sendChange (p := p) _ _ (by rw [rig_setRig_same]; exact hbound),
    rigPort_sendChange (p := p) _ _ (by rw [rig_setRig_same]; exact hbound)]
  simp [Rig.sent]

/-- The visits of a bar start send the deferred CUE change of a READY slot with no force bars left (R112). -/
theorem forceVisits_due {k : Slot} {p : RigPort} {x : Patch} {s : State} (hclear : s.isClear = true)
    (hstate : (s.rig k).state = .ready) (hbound : (s.rig k).boundPort = some p)
    (hothers : ∀ j, j ≠ k → (s.rig j).boundPort ≠ some p)
    (hpending : (s.rig k).pendingChange = some ⟨x, .cue, .atRelease 0⟩) :
    (forceVisits s).rig k = (s.rig k).sent x .cue (!(s.rigPort p).bit) s.now ∧
      (forceVisits s).rigPort p =
        { s.rigPort p with bit := !(s.rigPort p).bit, lastSelect := some (x, !(s.rigPort p).bit) } := by
  obtain ⟨u, ⟨hbinding, hstops, htime⟩, hsame, hvisited⟩ := foldl_visit
    (I := fun u => SameBound s u ∧ u.stops = s.stops ∧ u.time = s.time) (g := fun u => (u.rig k, u.rigPort p)) (f := forceVisit)
    (fun u j ⟨hb, hs, ht⟩ => ⟨(sameBound_steady s).of_forceVisit j hb, by simpa using hs, by simpa using ht⟩)
    (fun u j hj ⟨hb, _, _⟩ => Prod.ext_iff.mpr (forceVisit_ne hj (by rw [hb j]; exact hothers j hj)))
    allSlots (mem_allSlots k) allSlots_nodup (s := s) ⟨.refl s, rfl, rfl⟩
  obtain ⟨hrig, hport⟩ := Prod.ext_iff.mp hsame
  dsimp only at hrig hport
  have hdue := forceVisit_due (s := u) (k := k) (p := p) (x := x) (by rw [State.isClear, hstops]; exact hclear)
    (by rw [hrig]; exact hstate) (by rw [hrig]; exact hbound) (by rw [hrig]; exact hpending)
  obtain ⟨hvisitRig, hvisitPort⟩ := Prod.ext_iff.mp hvisited
  dsimp only at hvisitRig hvisitPort
  rw [hrig, hport, State.now_def, htime] at hdue
  exact ⟨hvisitRig.trans hdue.1, hvisitPort.trans hdue.2⟩

/-! ## Outcomes of a bar start (R112, R146) -/

theorem committedBeat_downbeat {o : Nat} {s : State} (hstart : s.beats.barStartNext = true) :
    (committedBeat o s).downbeat = true := by
  have hnumber : s.beats.nextBeatInBar = 1 := if_pos hstart
  show (s.beats.nextBeatInBar == 1) = true
  rw [hnumber]
  rfl

theorem committedBeat_not_downbeat {o : Nat} {s : State} (hstart : s.beats.barStartNext = false)
    (hlow : ∀ p, s.beats.latest = some p → 1 ≤ p.beat) : (committedBeat o s).downbeat = false := by
  cases hlatest : s.beats.latest with
  | none =>
    rw [barStartNext_of_none hlatest] at hstart
    cases hstart
  | some p =>
    have hnumber : s.beats.nextBeatInBar = p.beat + 1 := by
      rw [BeatState.nextBeatInBar, hstart, hlatest]
      rfl
    have := hlow p hlatest
    show (s.beats.nextBeatInBar == 1) = false
    rw [hnumber, beq_eq_false_iff_ne]
    omega

/-- The deferred CUE change that a bar start sends. -/
theorem forceDue_sends {o : Nat} {k : Slot} {p : RigPort} {x : Patch} {s : State} (hdue : CommitDue o s)
    (hstart : s.beats.barStartNext = true) (hd : s.beats.discardsNext = false) (hclear : s.stops.state = .clear)
    (hstate : (s.rig k).state = .ready) (hbound : (s.rig k).boundPort = some p)
    (hothers : ∀ j, j ≠ k → (s.rig j).boundPort ≠ some p)
    (hpending : (s.rig k).pendingChange = some ⟨x, .cue, .atRelease 0⟩) :
    (beatCommit s).rig k = (s.rig k).sent x .cue (!(s.rigPort p).bit) s.now ∧
      (beatCommit s).rigPort p =
        { s.rigPort p with bit := !(s.rigPort p).bit, lastSelect := some (x, !(s.rigPort p).bit) } := by
  rw [beatCommit_eq hdue hd, if_pos (committedBeat_downbeat hstart)]
  have hrigs : (lowerHoldOff (announceOutputs (committedBeat o s) (fixBeat o s).2)).rigs = s.rigs := by simp
  have hrig : ∀ j, (lowerHoldOff (announceOutputs (committedBeat o s) (fixBeat o s).2)).rig j = s.rig j := fun j => by
    rw [State.rig, hrigs]
    rfl
  have hport : (lowerHoldOff (announceOutputs (committedBeat o s) (fixBeat o s).2)).rigPort p = s.rigPort p := by
    rw [State.rigPort, hrigs]
    rfl
  have hvisits := forceVisits_due (s := lowerHoldOff (announceOutputs (committedBeat o s) (fixBeat o s).2)) (k := k) (p := p)
    (x := x) (by simp [State.isClear, hclear]) (by rw [hrig]; exact hstate) (by rw [hrig]; exact hbound)
    (fun j hj => by rw [hrig]; exact hothers j hj) (by rw [hrig]; exact hpending)
  have hnow : (lowerHoldOff (announceOutputs (committedBeat o s) (fixBeat o s).2)).now = s.now := by simp
  rw [hrig, hport, hnow] at hvisits
  exact hvisits

theorem forceNext_iff (r : Rig) : r.forceNext = true ↔ ∃ x, r.pendingChange = some ⟨x, .cue, .atRelease 0⟩ := by
  unfold Rig.forceNext
  split
  · next x h => exact ⟨fun _ => ⟨x, h⟩, fun _ => rfl⟩
  · next h => exact ⟨fun h' => (by cases h'), fun ⟨x, hx⟩ => absurd hx (h x)⟩

theorem commitDue_false {s : State} (h : ∀ o, s.beats.nextOnset = some o → s.now + 4800 < o / 65536) : s.commitDue = false := by
  rw [Bool.eq_false_iff, ne_eq, s.commitDue_iff]
  rintro ⟨o, ho, hdue⟩
  exact absurd hdue (Nat.not_le.mpr (h o ho))

theorem execCueBannerExpiry_of {s : State} (h : s.overlay.banner = none ∨ (beatCommit s).overlay.banner ≠ none) :
    exec .cueBannerExpiry s = .next s := by
  refine if_neg ?_
  rintro ⟨hsome, hnone⟩
  rcases h with h | h
  · rw [h] at hsome
    cases hsome
  · exact h hnone

/-- Settles O21: FORCE_DUE and CUE_BANNER_EXPIRY, the outcomes of a bar start. -/
theorem barStartOutcomes : Obligations.BarStartOutcomes := by
  refine ⟨fun o k s => ⟨fun port patch hdue hstart hd hclear hstate hbound hothers hpending => ?_, fun hnone => ?_, fun hnot => ?_⟩,
    fun o b s hdue hstart hd hb => ?_, fun s hnot => ?_⟩
  · obtain ⟨hrig, hport⟩ := forceDue_sends hdue hstart hd hclear hstate hbound hothers hpending
    refine ⟨beatCommit s, ?_, rfl, hrig, hport⟩
    show execForceDue k s = _
    have hcommit : s.commitDue = true := s.commitDue_iff.mpr ⟨o, hdue.onset, hdue.due⟩
    have hforce : (s.rig k).forceNext = true := (forceNext_iff _).mpr ⟨patch, hpending⟩
    refine if_pos ?_
    rw [State.barStartDue, hcommit, hstart, hd, hforce]
    rfl
  · have hforce : ¬ (s.rig k).forceNext = true := fun h => by
      obtain ⟨x, hx⟩ := (forceNext_iff _).mp h
      exact hnone x hx
    exact if_neg fun h => hforce (Bool.and_eq_true_iff.mp h).2
  · refine if_neg fun h => ?_
    have hbar := (Bool.and_eq_true_iff.mp h).1
    rcases hnot with h | h | h
    · simp [State.barStartDue, commitDue_false h] at hbar
    · simp [State.barStartDue, h] at hbar
    · simp [State.barStartDue, h] at hbar
  · have hannounced := beatCommit_announced hdue hd
    have hbanner : (beatCommit s).overlay.banner = countBanner s.now (some b) := by
      rw [hannounced.overlay, committedBeat_downbeat hstart, hb]
      rfl
    refine ⟨beatCommit s, rfl, fun htaken hlast => ?_, fun htaken hmore => ?_, fun htaken => ?_⟩
    · have hnone : (beatCommit s).overlay.banner = none := by
        rw [hbanner, countBanner, if_neg htaken, if_pos hlast]
      exact ⟨hnone, if_pos ⟨by rw [hb]; rfl, hnone⟩⟩
    · have hsome : (beatCommit s).overlay.banner = some { b with bars := b.bars - 1 } := by
        rw [hbanner, countBanner, if_neg htaken, if_neg (Nat.not_le.mpr hmore)]
      exact ⟨hsome, execCueBannerExpiry_of (.inr (by rw [hsome]; simp))⟩
    · have hsome : (beatCommit s).overlay.banner = some b := by rw [hbanner, countBanner, if_pos htaken]
      exact ⟨hsome, execCueBannerExpiry_of (.inr (by rw [hsome]; simp))⟩
  · refine execCueBannerExpiry_of ?_
    by_cases hb : s.overlay.banner = none
    · exact .inl hb
    refine .inr ?_
    cases hcommit : s.commitDue with
    | false =>
      rw [beatCommit, hcommit]
      exact hb
    | true =>
      obtain ⟨o, ho, hdue⟩ := s.commitDue_iff.mp hcommit
      rcases hnot with h | h | h | ⟨hstart, hlow, harmed, hquiet⟩
      · exact absurd h hb
      · rw [commitDue_false h] at hcommit
        cases hcommit
      · rw [beatCommit, if_pos hcommit, if_pos h]
        exact hb
      · have hd : s.beats.discardsNext = false := by simp [BeatState.discardsNext, hstart]
        have hannounced := beatCommit_announced (o := o) { onset := ho, due := hdue, armed := harmed, quiet := hquiet } hd
        rw [hannounced.overlay, committedBeat_not_downbeat hstart hlow]
        exact hb

end Sys2Proof.Machine
end

section
/-!
PROOFS. The messages of a rig (R96 to R111, R179): what a message, a STATUS and a DONE write, and what the review after a rig
event does where nothing follows it outside the Rig Controller.
-/

namespace Sys2Proof.Machine
set_option Elab.async false

/-! ## What moves only the rigs -/

/-- Nothing but the rig records and the desk differs. -/
def OnlyRigs (s t : State) : Prop := t = { s with rigs := t.rigs, desk := t.desk }

theorem OnlyRigs.trans {s t u : State} (h : OnlyRigs s t) (h' : OnlyRigs t u) : OnlyRigs s u := by
  unfold OnlyRigs at *
  rw [h] at h'
  exact h'

theorem OnlyRigs.refl (s : State) : OnlyRigs s s := rfl

theorem onlyRigs_setRig (k : Slot) (r : Rig) (s : State) : OnlyRigs s (setRig k r s) := by apply state_ext <;> simp

theorem onlyRigs_setRigPort (p : RigPort) (r : RigPortRec) (s : State) : OnlyRigs s (setRigPort p r s) := by
  apply state_ext <;> simp

theorem onlyRigs_sendChange (k : Slot) (x : Patch) (c : ChangeKind) (s : State) : OnlyRigs s (sendChange k x c s) := by
  apply state_ext <;> simp

theorem onlyRigs_sendIfDue (k : Slot) (s : State) : OnlyRigs s (sendIfDue k s) := by apply state_ext <;> simp

theorem onlyRigs_rigMessage (p : RigPort) (s : State) : OnlyRigs s (rigMessage p s) := by apply state_ext <;> simp

section

variable {s t : State} (h : OnlyRigs s t)
include h

theorem OnlyRigs.time : t.time = s.time := (congrArg State.time h :)
theorem OnlyRigs.stops : t.stops = s.stops := (congrArg State.stops h :)
theorem OnlyRigs.resume : t.resume = s.resume := (congrArg State.resume h :)
theorem OnlyRigs.tables : t.tables = s.tables := (congrArg State.tables h :)
theorem OnlyRigs.pointer : t.pointer = s.pointer := (congrArg State.pointer h :)
theorem OnlyRigs.beats : t.beats = s.beats := (congrArg State.beats h :)

theorem OnlyRigs.inShow : t.inShow = s.inShow := by rw [State.inShow, h.tables]; rfl

theorem OnlyRigs.nothingRaised (hs : NothingRaised s) : NothingRaised t := hs.congr (by rw [h.stops])

end

/-! ## Messages -/

theorem rigMessage_unbound {p : RigPort} {s : State} (h : (s.rigPort p).boundSlot = none) :
    rigMessage p s = setRigPort p { s.rigPort p with linkUp := true, rx := [] } s := by
  unfold rigMessage rigPresent
  rw [rigPort_setRigPort_same]
  dsimp only
  rw [h]

theorem rigMessage_bound {p : RigPort} {k : Slot} {s : State} (h : (s.rigPort p).boundSlot = some k) :
    rigMessage p s = setRig k { s.rig k with presentAt := s.now }
      (setRigPort p { s.rigPort p with linkUp := true, rx := [] } s) := by
  unfold rigMessage rigPresent
  rw [rigPort_setRigPort_same]
  dsimp only
  rw [h]
  simp

/-- What a valid message leaves of its slot, its port, and the others (R96, R117). -/
structure Messaged (p : RigPort) (k : Slot) (s t : State) : Prop where
  only : OnlyRigs s t
  rig : t.rig k = { s.rig k with presentAt := s.now }
  port : t.rigPort p = { s.rigPort p with linkUp := true, rx := [] }
  rigs : ∀ j, j ≠ k → t.rig j = s.rig j
  ports : ∀ q, q ≠ p → t.rigPort q = s.rigPort q

theorem rigMessage_messaged {p : RigPort} {k : Slot} {s : State} (h : (s.rigPort p).boundSlot = some k) :
    Messaged p k s (rigMessage p s) where
  only := onlyRigs_rigMessage p s
  rig := by rw [rigMessage_bound h, rig_setRig_same]
  port := by rw [rigMessage_bound h, rigPort_setRig, rigPort_setRigPort_same]
  rigs j hj := by rw [rigMessage_bound h, rig_setRig, if_neg (Ne.symm hj), rig_setRigPort]
  ports q hq := by rw [rigMessage_bound h, rigPort_setRig, rigPort_setRigPort, if_neg (Ne.symm hq)]

/-! ## STATUS (R111) -/

/-- A slot that is not READY, not in CLEAR or without a pending change is sent nothing (R111). -/
theorem sendIfDue_idle {k : Slot} {s : State}
    (h : (s.rig k).state ≠ .ready ∨ s.stops.state ≠ .clear ∨ (s.rig k).pendingChange = none) : sendIfDue k s = s := by
  unfold sendIfDue
  dsimp only
  split
  · next patch hstate hpending =>
    rcases h with h | h | h
    · exact absurd hstate h
    · exact if_neg (by simpa [State.isClear] using h)
    · rw [h] at hpending
      cases hpending
  · rfl

theorem rig_sendIfDue_ne {j k : Slot} (hj : j ≠ k) (s : State) : (sendIfDue j s).rig k = s.rig k := by
  unfold sendIfDue
  dsimp only
  split
  · split
    · exact rig_sendChange_ne _ _ hj
    · rfl
  · rfl

theorem rigPort_sendIfDue_ne {j : Slot} {p : RigPort} {s : State} (h : (s.rig j).boundPort ≠ some p) :
    (sendIfDue j s).rigPort p = s.rigPort p := by
  unfold sendIfDue
  dsimp only
  split
  · split
    · exact rigPort_sendChange_ne _ _ h
    · rfl
  · rfl

/-- A rise of the sustain makes no pending change due but a CUE that waits for it (R111). -/
theorem released_of_not_atRelease {o : Option PendingChange} (h : ∀ x n, o ≠ some ⟨x, .cue, .atRelease n⟩) :
    o.map PendingChange.released = o := by
  cases o with
  | none => rfl
  | some c =>
    obtain ⟨x, kind, due⟩ := c
    cases kind with
    | cue =>
      cases due with
      | now => rfl
      | atRelease n => exact absurd rfl (h x n)
    | safe => rfl
    | restore => rfl

/-- The record of a slot once its STATUS is taken, before anything is sent (R111). -/
def Rig.statusTaken (r : Rig) (sustain : Sustain) (held : Nat) : Rig :=
  { r with
    sustain := sustain, held := held
    pendingChange := if r.sustain = .down ∧ sustain = .up then r.pendingChange.map PendingChange.released else r.pendingChange }

theorem takeStatus_eq (k : Slot) (sustain : Sustain) (held : Nat) (s : State) :
    takeStatus k sustain held s =
      if (s.rig k).sustain = .down ∧ sustain = .up then sendIfDue k (setRig k ((s.rig k).statusTaken sustain held) s)
      else setRig k ((s.rig k).statusTaken sustain held) s := by
  have hup : ((s.rig k).sustain == .down && sustain == .up) = decide ((s.rig k).sustain = .down ∧ sustain = .up) := by
    cases (s.rig k).sustain <;> cases sustain <;> rfl
  unfold takeStatus Rig.statusTaken
  simp only [hup, decide_eq_true_eq]

/-- Settles O35: a STATUS on an unbound and on a bound port. -/
theorem statusTaken : Obligations.StatusTaken := by
  intro p k sus held s
  refine ⟨fun hunbound => ?_, fun hpair => ?_⟩
  · have hexec : exec (.status p sus held) s = .next (rigMessage p s) := by
      show Host.Outcome.next (statusMessage p sus held s) = _
      unfold statusMessage
      dsimp only
      rw [rigMessage_unbound hunbound, rigPort_setRigPort_same]
      dsimp only
      rw [hunbound]
    refine ⟨_, hexec, onlyRigs_rigMessage p s, fun j => ?_, fun q => ?_⟩
    · rw [rigMessage_unbound hunbound, rig_setRigPort]
    · rw [rigMessage_unbound hunbound, rigPort_setRigPort]
      simp only [eq_comm]
  · have hm := rigMessage_messaged hpair.slot
    have hexec : exec (.status p sus held) s = .next (takeStatus k sus held.toNat (rigMessage p s)) := by
      show Host.Outcome.next (statusMessage p sus held s) = _
      unfold statusMessage
      dsimp only
      rw [hm.port]
      dsimp only
      rw [hpair.slot]
    have hbound : ((rigMessage p s).rig k).boundPort = some p := by rw [hm.rig]; exact hpair.port
    generalize rigMessage p s = u at hm hexec hbound
    have htaken := takeStatus_eq k sus held.toNat u
    have hset : ∀ q, q ≠ p → ((setRig k ((u.rig k).statusTaken sus held.toNat) u).rig k).boundPort ≠ some q := by
      intro q hq
      rw [rig_setRig_same]
      show (u.rig k).boundPort ≠ some q
      rw [hbound]
      exact fun h => hq (Option.some.inj h).symm
    have hsus : (u.rig k).sustain = (s.rig k).sustain := by rw [hm.rig]
    have hpend : (u.rig k).pendingChange = (s.rig k).pendingChange := by rw [hm.rig]
    refine ⟨_, hexec, ?_, fun j hj => ?_, fun q hq => ?_, fun hquiet => ?_, fun hdown hup => ?_⟩
    · rw [htaken]
      refine hm.only.trans ?_
      split
      · exact (onlyRigs_setRig _ _ _).trans (onlyRigs_sendIfDue _ _)
      · exact onlyRigs_setRig _ _ _
    · rw [htaken, ← hm.rigs j hj]
      split
      · rw [rig_sendIfDue_ne (Ne.symm hj), rig_setRig, if_neg (Ne.symm hj)]
      · rw [rig_setRig, if_neg (Ne.symm hj)]
    · rw [htaken, ← hm.ports q hq]
      split
      · rw [rigPort_sendIfDue_ne (hset q hq), rigPort_setRig]
      · rw [rigPort_setRig]
    · have hno : ¬ ((u.rig k).sustain = .down ∧ sus = .up) := by
        rw [hsus]
        rintro ⟨hd, hu⟩
        rcases hquiet with h | h
        · rw [h] at hd
          cases hd
        · rw [h] at hu
          cases hu
      rw [htaken, if_neg hno, rig_setRig_same, rigPort_setRig, Rig.statusTaken, if_neg hno, hm.rig]
      exact ⟨rfl, hm.port⟩
    · have hyes : (u.rig k).sustain = .down ∧ sus = .up := ⟨hsus.trans hdown, hup⟩
      rw [htaken, if_pos hyes]
      have hrec : (setRig k ((u.rig k).statusTaken sus held.toNat) u).rig k =
          { s.rig k with
            sustain := sus, held := held.toNat, presentAt := s.now
            pendingChange := (s.rig k).pendingChange.map PendingChange.released } := by
        rw [rig_setRig_same, Rig.statusTaken, if_pos hyes, hm.rig]
      have hstate : (setRig k ((u.rig k).statusTaken sus held.toNat) u).stops = s.stops := by simp [hm.only.stops]
      refine ⟨fun hnone hidle => ?_, fun patch n hpending => ⟨fun hidle => ?_, fun hready hclear => ?_⟩⟩
      · have hsame := released_of_not_atRelease hnone
        rw [sendIfDue_idle (by rw [hrec, hstate, hsame]; exact hidle), hrec, hsame]
      · rw [sendIfDue_idle, hrec, hpending]
        · rfl
        · rw [hrec, hstate]
          exact hidle.imp id .inl
      · have hport : (setRig k ((u.rig k).statusTaken sus held.toNat) u).rigPort p =
            { s.rigPort p with linkUp := true, rx := [] } := by rw [rigPort_setRig, hm.port]
        have hnow : (setRig k ((u.rig k).statusTaken sus held.toNat) u).now = s.now := by simp [hm.only.time]
        have hkeep : ((setRig k ((u.rig k).statusTaken sus held.toNat) u).rig k).boundPort = some p := by
          rw [hrec]
          exact hpair.port
        rw [sendIfDue_of_due (x := patch) (by rw [hrec]; exact hready) (by rw [hrec, hpending]; rfl),
          if_pos (by rw [State.isClear, hstate, hclear]; rfl), rig_sendChange _ _ hkeep, rigPort_sendChange _ _ hkeep, hrec, hport,
          hnow]
        exact ⟨rfl, rfl⟩

end Sys2Proof.Machine
end

section
/-!
PROOFS. The reviews that follow a rig event (R118, R173, R179), and the DONE of a change (R108).
-/

namespace Sys2Proof.Machine
set_option Elab.async false

/-! ## The review of the restores (R179) -/

theorem restoreComplete_iff (s : State) (m : Slot × Patch) : restoreComplete s m = true ↔ (s.rig m.1).Restored m.2 := by
  unfold restoreComplete Rig.Restored Rig.settledAt
  cases hb : (s.rig m.1).boundPort with
  | none => simp [hb]
  | some p =>
    by_cases hf : (s.rig m.1).state = .fault
    · simp [hb, hf]
    · simp [hb, hf, and_assoc]

/-- The state whose restore set holds the restores that are not complete. -/
def keepRestores (s : State) : State :=
  { s with resume := { s.resume with restoreSet := s.resume.restoreSet.filter fun m => !restoreComplete s m } }

@[simp] theorem keepRestores_keeps (s : State) :
    (keepRestores s).time = s.time ∧ (keepRestores s).tempo = s.tempo ∧ (keepRestores s).beats = s.beats ∧
    (keepRestores s).clicks = s.clicks ∧ (keepRestores s).tables = s.tables ∧ (keepRestores s).pointer = s.pointer ∧
    (keepRestores s).rigs = s.rigs ∧ (keepRestores s).picture = s.picture ∧ (keepRestores s).overlay = s.overlay ∧
    (keepRestores s).stops = s.stops ∧ (keepRestores s).resume.target = s.resume.target ∧
    (keepRestores s).resume.mdReady = s.resume.mdReady ∧ (keepRestores s).resume.countIn = s.resume.countIn ∧
    (keepRestores s).desk = s.desk ∧ (keepRestores s).pending = s.pending := by
  simp [keepRestores]

theorem mem_keepRestores (s : State) (m : Slot × Patch) :
    m ∈ (keepRestores s).resume.restoreSet ↔ m ∈ s.resume.restoreSet ∧ ¬ (s.rig m.1).Restored m.2 := by
  rw [← restoreComplete_iff]
  simp [keepRestores]

/-- The restores that a review leaves, where it leaves the rigs (R179). -/
theorem restoresKept_of {s v t : State} (hset : v.resume.restoreSet = s.resume.restoreSet)
    (ht : t.resume.restoreSet = (keepRestores v).resume.restoreSet) (hrigs : t.rigs = v.rigs) : RestoresKept s t := fun m => by
  rw [ht, mem_keepRestores, hset, State.rig, State.rig, hrigs]

/-- Outside the states of a restore the review only takes the complete restores from the set. -/
theorem reviewRestore_elsewhere {s : State} (h1 : s.stops.state ≠ .restoring) (h2 : s.stops.state ≠ .resumeArmed) :
    reviewRestore s = keepRestores s := by
  unfold reviewRestore
  dsimp only
  rw [if_neg (fun h => h1 h.1), if_neg (fun h => h2 h.1)]
  rfl

/-- The stop state that the review leaves in the states of a restore (R179). -/
theorem reviewRestore_restoring {s : State} (h : s.stops.state = .restoring ∨ s.stops.state = .resumeArmed) :
    reviewRestore s = keepRestores s ∧ ArmedWhenRestored (keepRestores s) ∨
    reviewRestore s = setStopState .resumeArmed (keepRestores s) ∧ ArmedWhenRestored (reviewRestore s) ∨
    reviewRestore s = setStopState .restoring (keepRestores s) ∧ ArmedWhenRestored (reviewRestore s) := by
  have hready : ((keepRestores s).resume.restoreSet.isEmpty && (keepRestores s).resume.mdReady) = true ↔
      (keepRestores s).resume.restoreSet = [] ∧ (keepRestores s).resume.mdReady = true := by
    rw [Bool.and_eq_true, List.isEmpty_iff]
  have hreview : reviewRestore s =
      if s.stops.state = .restoring ∧ ((keepRestores s).resume.restoreSet.isEmpty && (keepRestores s).resume.mdReady) = true then
        setStopState .resumeArmed (keepRestores s)
      else if s.stops.state = .resumeArmed ∧
          (!((keepRestores s).resume.restoreSet.isEmpty && (keepRestores s).resume.mdReady)) = true then
        setStopState .restoring (keepRestores s)
      else keepRestores s := rfl
  by_cases hr : (keepRestores s).resume.restoreSet = [] ∧ (keepRestores s).resume.mdReady = true
  · have hb := hready.mpr hr
    rcases h with h | h
    · refine .inr (.inl ?_)
      rw [hreview, if_pos ⟨h, hb⟩]
      refine ⟨rfl, ?_⟩
      unfold ArmedWhenRestored
      simp only [setStopState_stops, setStopState_keeps]
      rw [if_pos hr]
    · refine .inl ?_
      rw [hreview, if_neg (by rw [h]; simp), if_neg (by rw [hb]; simp)]
      refine ⟨rfl, ?_⟩
      unfold ArmedWhenRestored
      rw [if_pos hr]
      exact h
  · have hb := Bool.eq_false_iff.mpr (fun hb => hr (hready.mp hb))
    rcases h with h | h
    · refine .inl ?_
      rw [hreview, if_neg (by rw [hb]; simp), if_neg (by rw [h]; simp)]
      refine ⟨rfl, ?_⟩
      unfold ArmedWhenRestored
      rw [if_neg hr]
      exact h
    · refine .inr (.inr ?_)
      rw [hreview, if_neg (by rw [h]; simp), if_pos ⟨h, by rw [hb]; rfl⟩]
      refine ⟨rfl, ?_⟩
      unfold ArmedWhenRestored
      simp only [setStopState_stops, setStopState_keeps]
      rw [if_neg hr]

/-! ## The conditions and the arrival -/

/-- A condition source that stands as its condition does is left as it is (R155). -/
theorem followCondition_of_tracked {i : StopSource} {b : Bool} {s : State} (h : s.stops.isRaised i = b) :
    followCondition i b s = s := by
  unfold followCondition
  cases b
  · exact lowerCondition_of_not_raised h
  · simp [raiseCondition, h]

theorem rigFaultNow_iff (s : State) :
    rigFaultNow s = true ↔ s.inShow = true ∧
      ∃ j, (s.rig j).state = .fault ∧ ((s.rig j).boundPort ≠ none ∨ (s.tables.setting j).required = true) := by
  unfold rigFaultNow
  rw [Bool.and_eq_true, List.any_eq_true]
  simp only [Bool.and_eq_true, Bool.or_eq_true, beq_iff_eq, Option.isSome_iff_ne_none]
  exact and_congr_right fun _ => ⟨fun ⟨j, _, hj⟩ => ⟨j, hj⟩, fun ⟨j, hj⟩ => ⟨j, mem_allSlots j, hj⟩⟩

theorem rigFaultNow_false {s : State} (h : s.inShow = true → ∀ j, (s.rig j).state ≠ .fault) : rigFaultNow s = false := by
  rw [Bool.eq_false_iff, ne_eq, rigFaultNow_iff]
  rintro ⟨hshow, j, hfault, -⟩
  exact h hshow j hfault

theorem arrive_elsewhere {s : State} (h : s.stops.state ≠ .stopping) : arrive s = s := if_neg fun h' => h h'.1

theorem arrivalMet_iff (s : State) : arrivalMet s = true ↔ ArrivalMet s := by
  have hsafe : allSafe s = true ↔ ∀ k, (s.rig k).boundPort = none ∨ (s.rig k).state = .fault ∨
      (s.rig k).settledAt (s.tables.setting k).safe = true := by
    unfold allSafe
    rw [List.all_eq_true]
    simp only [Bool.or_eq_true, Option.isNone_iff_eq_none, beq_iff_eq, or_assoc]
    exact ⟨fun h k => h k (mem_allSlots k), fun h k _ => h k⟩
  have hmet : arrivalMet s = true ↔ (s.beats.click = .idle ∨ s.stops.effective.click = .continued) ∧
      (s.stops.effective.rigs = .none ∨ allSafe s = true) ∧
      (if s.stops.effective.video = .none then s.stops.topTicked else s.stops.topReported) = true := by
    unfold arrivalMet
    simp only [Bool.and_eq_true, Bool.or_eq_true, beq_iff_eq, and_assoc]
  rw [hmet, hsafe]
  constructor
  · rintro ⟨hclick, hrigs, hshown⟩
    refine ⟨hclick, hrigs, ?_⟩
    split <;> simp_all
  · rintro ⟨hclick, hrigs, hshown⟩
    refine ⟨hclick, hrigs, ?_⟩
    split <;> simp_all

/-- A change of the stop state makes the STOP kind pending (R157). -/
theorem kindPending_setStopState {x : StopState} {s : State} (h : s.stops.state ≠ x) (q : DeskPort) :
    KindPending .stop q (s.port q).mask (setStopState x s) := by
  refine (kindPending_untimed .stop q _).toSteady.of_setStopState_of ?_
  rw [bne_iff_ne.mpr h]
  exact kindPending_notify .stop q { s with stops := { s.stops with state := x } }

theorem OnlyRigs.withRestores {s t : State} (h : OnlyRigs s t) :
    t = { s with rigs := t.rigs, resume := { s.resume with restoreSet := t.resume.restoreSet }, desk := t.desk } := by
  rw [h.resume]
  exact h

/-- The review after a rig event in a quiet state, where no rig fault holds. -/
theorem reviewRigs_quiet {s : State} (hquiet : NothingRaised s)
    (hstate : s.stops.state = .clear ∨ s.stops.state = .stopped ∨ s.stops.state = .awaitResume ∨ s.stops.state = .halted)
    (hfault : s.inShow = true → ∀ j, (s.rig j).state ≠ .fault) : reviewRigs s = keepRestores s := by
  have hfaultNow : rigFaultNow (keepRestores s) = false := rigFaultNow_false hfault
  have hnot : s.stops.state ≠ .restoring ∧ s.stops.state ≠ .resumeArmed ∧ s.stops.state ≠ .stopping := by
    rcases hstate with h | h | h | h <;> rw [h] <;> decide
  unfold reviewRigs
  dsimp only
  rw [reviewRestore_elsewhere hnot.1 hnot.2.1, hfaultNow, followCondition_of_tracked (s := keepRestores s) (hquiet _),
    arrive_elsewhere (s := keepRestores s) hnot.2.2]

theorem dropSafe_of_not_safe {r : Rig} (h : ∀ x, r.pendingChange = some x → x.kind ≠ .safe) : r.dropSafe = r := by
  unfold Rig.dropSafe
  split
  · next c hc => exact if_neg (h c hc)
  · rfl

/-- Without a pending SAFE nothing is dropped (R115). -/
theorem dropSafes_of_none {s : State} (h : ∀ j x, (s.rig j).pendingChange = some x → x.kind ≠ .safe) :
    dropSafes s = s := by
  have hslots : tmap Rig.dropSafe s.rigs.slots = s.rigs.slots := by
    refine Vector.ext fun i hi => ?_
    have hsame : tget (tmap Rig.dropSafe s.rigs.slots) ⟨i, hi⟩ = tget s.rigs.slots ⟨i, hi⟩ := by
      rw [tget_tmap]
      exact dropSafe_of_not_safe (h ⟨i, hi⟩)
    simpa [tget] using hsame
  unfold dropSafes
  rw [hslots]

/-- Without a pending SAFE a stop state other than CLEAR leaves the rigs. -/
theorem setStopState_rigs_of_no_safe {x : StopState} (hx : x ≠ .clear) {s : State}
    (h : ∀ j y, (s.rig j).pendingChange = some y → y.kind ≠ .safe) : (setStopState x s).rigs = s.rigs := by
  have hdrop : dropSafes (notifyIf (s.stops.state != x) .stop { s with stops := { s.stops with state := x } }) =
      notifyIf (s.stops.state != x) .stop { s with stops := { s.stops with state := x } } :=
    dropSafes_of_none fun j y => by rw [rig_notifyIf]; exact h j y
  unfold setStopState
  dsimp only
  rw [hdrop, ite_self, if_neg hx]
  simp

/-- What the review of the restores leaves while a restore is under way, with no SAFE pending (R179). -/
theorem reviewRestore_parts {s : State} (hstate : s.stops.state = .restoring ∨ s.stops.state = .resumeArmed)
    (hsafe : ∀ j x, (s.rig j).pendingChange = some x → x.kind ≠ .safe) :
    reviewRestore s = { s with
      stops := { s.stops with state := (reviewRestore s).stops.state }
      resume := { s.resume with restoreSet := (keepRestores s).resume.restoreSet }
      desk := (reviewRestore s).desk } ∧ ArmedWhenRestored (reviewRestore s) ∧
    ((reviewRestore s).stops.state = .restoring ∨ (reviewRestore s).stops.state = .resumeArmed) := by
  rcases reviewRestore_restoring hstate with ⟨hr, harmed⟩ | ⟨hr, harmed⟩ | ⟨hr, harmed⟩
  · rw [hr]
    exact ⟨rfl, harmed, hstate⟩
  · refine ⟨?_, harmed, .inr (by rw [hr]; simp)⟩
    have hrigs := setStopState_rigs (x := .resumeArmed) rfl (keepRestores s)
    rw [hr]
    apply state_ext <;> simp [hrigs]
    rfl
  · refine ⟨?_, harmed, .inl (by rw [hr]; simp)⟩
    have hrigs := setStopState_rigs_of_no_safe (x := .restoring) (by decide) (s := keepRestores s) hsafe
    rw [hr]
    apply state_ext <;> simp [hrigs]
    rfl

/-- The review after a rig event while a restore is under way, where no rig fault holds. -/
theorem reviewRigs_restoring {s : State} (hquiet : NothingRaised s)
    (hstate : s.stops.state = .restoring ∨ s.stops.state = .resumeArmed)
    (hfault : s.inShow = true → ∀ j, (s.rig j).state ≠ .fault ∨ ((s.rig j).boundPort = none ∧ (s.tables.setting j).required = false))
    (hsafe : ∀ j x, (s.rig j).pendingChange = some x → x.kind ≠ .safe) :
    reviewRigs s = { s with
      stops := { s.stops with state := (reviewRigs s).stops.state }
      resume := { s.resume with restoreSet := (keepRestores s).resume.restoreSet }
      desk := (reviewRigs s).desk } ∧ ArmedWhenRestored (reviewRigs s) := by
  obtain ⟨hparts, harmed, hresumes⟩ := reviewRestore_parts hstate hsafe
  have hstopping : (reviewRestore s).stops.state ≠ .stopping := by
    rcases hresumes with h | h <;> rw [h] <;> decide
  have hrigs : (reviewRestore s).rigs = s.rigs := (congrArg State.rigs hparts :)
  have htables : (reviewRestore s).tables = s.tables := (congrArg State.tables hparts :)
  have hraised : (reviewRestore s).stops.isRaised .rigFault = false :=
    (congrArg (fun t : State => t.stops.isRaised .rigFault) hparts :).trans (hquiet _)
  have hfaultNow : rigFaultNow (reviewRestore s) = false := by
    rw [Bool.eq_false_iff, ne_eq, rigFaultNow_iff]
    rintro ⟨hshow, j, hf, hbound⟩
    rw [State.rig, hrigs] at hf hbound
    rw [htables] at hbound
    rw [State.inShow, htables] at hshow
    rcases hfault hshow j with h | ⟨h1, h2⟩
    · exact h hf
    · rcases hbound with h | h
      · exact h h1
      · rw [h2] at h
        cases h
  have hall : reviewRigs s = reviewRestore s := by
    unfold reviewRigs
    dsimp only
    rw [hfaultNow, followCondition_of_tracked hraised, arrive_elsewhere hstopping]
  rw [hall]
  exact ⟨hparts, harmed⟩

/-! ## DONE (R108) -/

/-- A DONE with nothing due behind it leaves the slot READY (R108). -/
theorem takeDone_ready {k : Slot} {f : InFlight} {s : State}
    (h : (s.rig k).pendingChange = none ∨ (∃ x n, (s.rig k).pendingChange = some ⟨x, .cue, .atRelease n⟩) ∨
      (∃ x, (s.rig k).pendingChange = some ⟨x, .cue, .now⟩ ∧ s.isClear = false)) :
    takeDone k f s = setRig k { (s.rig k).completed f with state := .ready } s := by
  have hpending : ((s.rig k).completed f).pendingChange = (s.rig k).pendingChange := rfl
  unfold takeDone
  dsimp only
  rw [hpending]
  rcases h with h | ⟨x, n, h⟩ | ⟨x, h, hclear⟩
  · rw [h]
  · rw [h]
  · rw [h]
    exact if_neg (by rw [hclear]; decide)

/-- A DONE sends what is due behind it (R108). -/
theorem takeDone_sends {k : Slot} {f : InFlight} {x : Patch} {kind : ChangeKind} {due : Due} {s : State}
    (h : (s.rig k).pendingChange = some ⟨x, kind, due⟩) (hdue : kind ≠ .cue ∨ (due = .now ∧ s.isClear = true)) :
    takeDone k f s = sendChange k x kind (setRig k ((s.rig k).completed f) s) := by
  have hpending : ((s.rig k).completed f).pendingChange = (s.rig k).pendingChange := rfl
  unfold takeDone
  dsimp only
  rw [hpending, h]
  cases kind with
  | cue =>
    obtain ⟨rfl, hclear⟩ := hdue.resolve_left (fun hne => hne rfl)
    exact if_pos hclear
  | safe => rfl
  | restore => rfl

/-- What a taken DONE leaves: its slot READY or CHANGING, the other slots and ports as they stood. -/
structure DoneTaken (p : RigPort) (k : Slot) (s t : State) : Prop where
  only : OnlyRigs s t
  state : (t.rig k).state = .ready ∨ (t.rig k).state = .changing
  rigs : ∀ j, j ≠ k → t.rig j = s.rig j
  ports : ∀ q, q ≠ p → t.rigPort q = s.rigPort q

theorem doneTaken {p : RigPort} {k : Slot} {f : InFlight} {s : State} (hbound : (s.rig k).boundPort = some p) :
    DoneTaken p k s (takeDone k f s) := by
  have hready : DoneTaken p k s (setRig k { (s.rig k).completed f with state := .ready } s) :=
    { only := onlyRigs_setRig _ _ _
      state := .inl (by rw [rig_setRig_same])
      rigs := fun j hj => by rw [rig_setRig, if_neg (Ne.symm hj)]
      ports := fun q _ => rigPort_setRig _ _ _ _ }
  have hsent : ∀ x kind, DoneTaken p k s (sendChange k x kind (setRig k ((s.rig k).completed f) s)) := fun x kind => by
    have hkeep : ((setRig k ((s.rig k).completed f) s).rig k).boundPort = some p := by
      rw [rig_setRig_same]
      exact hbound
    refine ⟨(onlyRigs_setRig _ _ _).trans (onlyRigs_sendChange _ _ _ _), .inr ?_, fun j hj => ?_, fun q hq => ?_⟩
    · rw [rig_sendChange _ _ hkeep]
      rfl
    · rw [rig_sendChange_ne _ _ (Ne.symm hj), rig_setRig, if_neg (Ne.symm hj)]
    · rw [rigPort_sendChange_ne _ _ (by rw [hkeep]; exact fun h => hq (Option.some.inj h).symm), rigPort_setRig]
  cases hp : (s.rig k).pendingChange with
  | none => rw [takeDone_ready (.inl hp)]; exact hready
  | some c =>
    obtain ⟨x, kind, due⟩ := c
    by_cases hdue : kind ≠ .cue ∨ (due = .now ∧ s.isClear = true)
    · rw [takeDone_sends hp hdue]
      exact hsent x kind
    · obtain ⟨hkind, hnot⟩ := not_or.mp hdue
      have hcue := not_not.mp hkind
      subst hcue
      cases due with
      | now => rw [takeDone_ready (.inr (.inr ⟨x, hp, by simpa using hnot⟩))]; exact hready
      | atRelease n => rw [takeDone_ready (.inr (.inl ⟨x, n, hp⟩))]; exact hready

theorem answered_some {p : RigPort} {k : Slot} {f : InFlight} {s : State} (hslot : (s.rigPort p).boundSlot = some k)
    (hstate : (s.rig k).state = .changing) (hf : (s.rig k).inFlight = some f) : answered p f.bit s = some (k, f) := by
  unfold answered
  rw [hslot]
  dsimp only
  rw [hstate, hf]
  exact if_pos rfl

theorem answered_none {p : RigPort} {k : Slot} {bit : Bool} {s : State} (hslot : (s.rigPort p).boundSlot = some k)
    (h : (s.rig k).state ≠ .changing ∨ ∀ f, (s.rig k).inFlight = some f → f.bit ≠ bit) : answered p bit s = none := by
  unfold answered
  rw [hslot]
  dsimp only
  split
  · next f hstate hf =>
    rcases h with h | h
    · exact absurd hstate h
    · exact if_neg (h f hf)
  · rfl

theorem exec_done {p : RigPort} {k : Slot} {f : InFlight} {s : State} (hpair : BoundPair p k s)
    (hstate : (s.rig k).state = .changing) (hf : (s.rig k).inFlight = some f) :
    exec (.done p f.bit) s = .next (reviewRigs (takeDone k f (rigMessage p s))) := by
  have hm := rigMessage_messaged hpair.slot
  show Host.Outcome.next (doneMessage p f.bit s) = _
  unfold doneMessage
  dsimp only
  rw [answered_some (k := k) (f := f) (by rw [hm.port]; exact hpair.slot) (by rw [hm.rig]; exact hstate)
    (by rw [hm.rig]; exact hf)]

/-- A message that ends no change does no more than restart the presence timer (R108, R109). -/
theorem exec_done_unanswered {p : RigPort} {k : Slot} {bit : Bool} {s : State} (hpair : BoundPair p k s)
    (h : (s.rig k).state ≠ .changing ∨ ∀ f, (s.rig k).inFlight = some f → f.bit ≠ bit) :
    exec (.done p bit) s = .next (rigMessage p s) := by
  have hm := rigMessage_messaged hpair.slot
  show Host.Outcome.next (doneMessage p bit s) = _
  unfold doneMessage
  dsimp only
  rw [answered_none (k := k) (by rw [hm.port]; exact hpair.slot) (by rw [hm.rig]; exact h)]

/-- The slot's record after a DONE with nothing due behind it. -/
theorem rig_takeDone_ready {p : RigPort} {k : Slot} {f : InFlight} {s u : State} (hm : Messaged p k s u)
    (h : takeDone k f u = setRig k { (u.rig k).completed f with state := .ready } u) :
    (takeDone k f u).rig k = { s.rig k with state := .ready, applied := some f.patch, inFlight := none, presentAt := s.now } := by
  rw [h, rig_setRig_same, hm.rig]
  rfl

/-- The records of the slot and its port after a DONE that sends what is due behind it. -/
theorem takeDone_sent {p : RigPort} {k : Slot} {f : InFlight} {x : Patch} {kind : ChangeKind} {s u : State} (hm : Messaged p k s u)
    (hbound : (u.rig k).boundPort = some p) (h : takeDone k f u = sendChange k x kind (setRig k ((u.rig k).completed f) u)) :
    (takeDone k f u).rig k =
        { s.rig k with applied := some f.patch, inFlight := none, presentAt := s.now }.sent x kind (!(s.rigPort p).bit) s.now ∧
      (takeDone k f u).rigPort p = { s.rigPort p with
        linkUp := true, rx := [], bit := !(s.rigPort p).bit, lastSelect := some (x, !(s.rigPort p).bit) } := by
  have hkeep : ((setRig k ((u.rig k).completed f) u).rig k).boundPort = some p := by
    rw [rig_setRig_same]
    exact hbound
  have hnow : (setRig k ((u.rig k).completed f) u).now = s.now := by simp [hm.only.time]
  rw [h, rig_sendChange _ _ hkeep, rigPort_sendChange _ _ hkeep, hnow, rig_setRig_same, rigPort_setRig, hm.port, hm.rig]
  exact ⟨rfl, rfl⟩

/-- A taken DONE in a quiet state leaves no rig fault (R118). -/
theorem DoneTaken.sound {p : RigPort} {k : Slot} {s u v : State} (hm : Messaged p k s u) (hv : DoneTaken p k u v)
    (hs : s.inShow = true → ∀ j, j ≠ k → (s.rig j).state ≠ .fault) : v.inShow = true → ∀ j, (v.rig j).state ≠ .fault := by
  intro hshow j
  by_cases hj : j = k
  · rw [hj]
    rcases hv.state with h | h <;> rw [h] <;> decide
  · rw [hv.rigs j hj, hm.rigs j hj]
    exact hs ((hm.only.trans hv.only).inShow.symm.trans hshow) j hj

/-- The DONE of a change in a quiet state (R108, R114). -/
theorem done_quiet {p : RigPort} {k : Slot} {bit : Bool} {s : State} (hpair : BoundPair p k s) (hquiet : RigsQuiet s) :
    let r := { s.rig k with presentAt := s.now }
    ∃ t, exec (.done p bit) s = .next t ∧
      t = { s with rigs := t.rigs, resume := { s.resume with restoreSet := t.resume.restoreSet }, desk := t.desk } ∧
      (∀ j, j ≠ k → t.rig j = s.rig j) ∧ (∀ q, q ≠ p → t.rigPort q = s.rigPort q) ∧
      (((s.rig k).state ≠ .changing ∨ ∀ f, (s.rig k).inFlight = some f → f.bit ≠ bit) →
        t.rig k = r ∧ t.resume = s.resume) ∧
      (∀ f, (s.rig k).state = .changing → (s.rig k).inFlight = some f → f.bit = bit →
        let d := { r with applied := some f.patch, inFlight := none }
        let toggled := { s.rigPort p with linkUp := true, rx := [], bit := !(s.rigPort p).bit }
        RestoresKept s t ∧
        ((s.rig k).pendingChange = none → t.rig k = { d with state := .ready }) ∧
        (∀ patch n, (s.rig k).pendingChange = some ⟨patch, .cue, .atRelease n⟩ → t.rig k = { d with state := .ready }) ∧
        (∀ patch, (s.rig k).pendingChange = some ⟨patch, .cue, .now⟩ →
          (s.stops.state ≠ .clear → t.rig k = { d with state := .ready }) ∧
          (s.stops.state = .clear → t.rig k = d.sent patch .cue toggled.bit s.now ∧
            t.rigPort p = { toggled with lastSelect := some (patch, toggled.bit) })) ∧
        (∀ patch kind due, (s.rig k).pendingChange = some ⟨patch, kind, due⟩ → kind ≠ .cue →
          t.rig k = d.sent patch kind toggled.bit s.now ∧
          t.rigPort p = { toggled with lastSelect := some (patch, toggled.bit) })) := by
  intro r
  have hm := rigMessage_messaged hpair.slot
  by_cases hanswers : ((s.rig k).state ≠ .changing ∨ ∀ f, (s.rig k).inFlight = some f → f.bit ≠ bit)
  · refine ⟨_, exec_done_unanswered hpair hanswers, hm.only.withRestores, hm.rigs, hm.ports, fun _ => ⟨hm.rig, hm.only.resume⟩,
      fun f hstate hf hbit => ?_⟩
    rcases hanswers with h | h
    · exact absurd hstate h
    · exact absurd hbit (h f hf)
  · obtain ⟨hchanging, hf⟩ := not_or.mp hanswers
    have hstate := not_not.mp hchanging
    simp only [not_forall, not_not] at hf
    obtain ⟨f, hf, rfl⟩ := hf
    have hexec := exec_done hpair hstate hf
    generalize rigMessage p s = u at hm hexec
    have hbound : (u.rig k).boundPort = some p := by rw [hm.rig]; exact hpair.port
    have hpending : (u.rig k).pendingChange = (s.rig k).pendingChange := by rw [hm.rig]
    have hisClear : u.isClear = s.isClear := by rw [State.isClear, hm.only.stops]; rfl
    have hv := doneTaken (f := f) hbound
    have hreview : reviewRigs (takeDone k f u) = keepRestores (takeDone k f u) :=
      reviewRigs_quiet ((hm.only.trans hv.only).nothingRaised hquiet.quiet)
        (by rw [(hm.only.trans hv.only).stops]; exact hquiet.state) (hv.sound hm fun hshow j _ => hquiet.sound hshow j)
    have hsend : ∀ x kind due, (s.rig k).pendingChange = some ⟨x, kind, due⟩ → (kind ≠ .cue ∨ (due = .now ∧ s.isClear = true)) →
        takeDone k f u = sendChange k x kind (setRig k ((u.rig k).completed f) u) := fun x kind due hp hdue =>
      takeDone_sends (hpending.trans hp) (by rw [hisClear]; exact hdue)
    have honly : takeDone k f u = { s with rigs := (takeDone k f u).rigs, desk := (takeDone k f u).desk } :=
      hm.only.trans hv.only
    rw [hreview] at hexec
    refine ⟨_, hexec, ?_, fun j hj => (hv.rigs j hj).trans (hm.rigs j hj), fun q hq => (hv.ports q hq).trans (hm.ports q hq),
      fun hno => absurd hno hanswers, fun f' _ hf' _ => ?_⟩
    · rw [keepRestores]
      generalize takeDone k f u = v at honly
      rw [honly]
    · obtain rfl : f = f' := Option.some.inj (hf.symm.trans hf')
      refine ⟨restoresKept_of ?_ rfl (by simp), fun hnone => ?_, fun x n hp => ?_, fun x hp => ⟨fun hclear => ?_, fun hclear => ?_⟩,
        fun x kind due hp hkind => ?_⟩
      · rw [(hm.only.trans hv.only).resume]
      · exact rig_takeDone_ready hm (takeDone_ready (.inl (hpending.trans hnone)))
      · exact rig_takeDone_ready hm (takeDone_ready (.inr (.inl ⟨x, n, hpending.trans hp⟩)))
      · exact rig_takeDone_ready hm (takeDone_ready (.inr (.inr ⟨x, hpending.trans hp, by
          rw [hisClear, State.isClear]
          simpa using hclear⟩)))
      · exact takeDone_sent hm hbound (hsend x .cue .now hp (.inr ⟨rfl, by rw [State.isClear, hclear]; rfl⟩))
      · exact takeDone_sent hm hbound (hsend x kind due hp (.inl hkind))

/-- The DONE of a change with nothing pending behind it while a restore is under way (R179). -/
theorem done_restoring {p : RigPort} {k : Slot} {f : InFlight} {s : State} (hpair : BoundPair p k s) (hr : Restoring k s)
    (hstate : (s.rig k).state = .changing) (hf : (s.rig k).inFlight = some f) (hnone : (s.rig k).pendingChange = none) :
    ∃ t, exec (.done p f.bit) s = .next t ∧
      t = { s with
        rigs := t.rigs, stops := { s.stops with state := t.stops.state },
        resume := { s.resume with restoreSet := t.resume.restoreSet }, desk := t.desk } ∧
      t.rig k = { s.rig k with state := .ready, applied := some f.patch, inFlight := none, presentAt := s.now } ∧
      (∀ j, j ≠ k → t.rig j = s.rig j) ∧ RestoresKept s t ∧ ArmedWhenRestored t := by
  have hm := rigMessage_messaged hpair.slot
  have hexec := exec_done hpair hstate hf
  generalize rigMessage p s = u at hm hexec
  have hbound : (u.rig k).boundPort = some p := by rw [hm.rig]; exact hpair.port
  have hv := doneTaken (f := f) hbound
  have hrec := rig_takeDone_ready (f := f) hm (takeDone_ready (.inl (by rw [hm.rig]; exact hnone)))
  have honly := hm.only.trans hv.only
  generalize takeDone k f u = v at hv hrec honly hexec
  obtain ⟨hparts, harmed⟩ := reviewRigs_restoring (s := v) (honly.nothingRaised hr.quiet) (by rw [honly.stops]; exact hr.state)
    (fun hshow j => .inl (hv.sound hm (fun _ j hj => hr.sound j hj) hshow j)) (fun j x hx => by
      by_cases hj : j = k
      · rw [hj, hrec] at hx
        have hx : (s.rig k).pendingChange = some x := hx
        rw [hnone] at hx
        cases hx
      · rw [hv.rigs j hj, hm.rigs j hj] at hx
        exact hr.noSafe j x hx)
  have hrigs : (reviewRigs v).rigs = v.rigs := (congrArg State.rigs hparts :)
  have hset : (reviewRigs v).resume.restoreSet = (keepRestores v).resume.restoreSet :=
    (congrArg (fun t : State => t.resume.restoreSet) hparts :)
  refine ⟨_, hexec, ?_, ?_, fun j hj => ?_, restoresKept_of (by rw [honly.resume]) hset hrigs, harmed⟩
  · rw [hset, hrigs]
    refine hparts.trans ?_
    generalize reviewRigs v = t
    rw [honly]
  · rw [State.rig, hrigs]
    exact hrec
  · rw [State.rig, hrigs]
    exact (hv.rigs j hj).trans (hm.rigs j hj)

theorem portsStand_rigFree (s : State) : RigFree (PortsStand s) where
  toSteady := (portsStand_untimed s).toSteady
  anyRigs _ _ _ hs := hs.congr rfl

/-- The DONE of a change with nothing pending behind it in STOPPING (R173). -/
theorem done_stopping {p : RigPort} {k : Slot} {f : InFlight} {s : State} (hpair : BoundPair p k s) (htracked : RigFaultTracked s)
    (hstop : s.stops.state = .stopping) (hstate : (s.rig k).state = .changing) (hf : (s.rig k).inFlight = some f)
    (hnone : (s.rig k).pendingChange = none) :
    ∃ t, exec (.done p f.bit) s = .next t ∧
      t = { s with
        rigs := t.rigs, stops := { s.stops with state := t.stops.state },
        resume := { s.resume with restoreSet := t.resume.restoreSet }, desk := t.desk } ∧
      t.rig k = { s.rig k with state := .ready, applied := some f.patch, inFlight := none, presentAt := s.now } ∧
      (∀ j, j ≠ k → t.rig j = s.rig j) ∧ RestoresKept s t ∧
      (ArrivalMet t → t.stops.state = .stopped ∧
        ∀ q, (s.port q).mask &&& 0x02 = 0x02 → (t.port q).pendingSet &&& 0x02 = 0x02) ∧
      (¬ ArrivalMet t → t.stops.state = .stopping) := by
  have hm := rigMessage_messaged hpair.slot
  have hexec := exec_done hpair hstate hf
  have hports := (portsStand_rigFree s).of_rigMessage p (.refl s)
  generalize rigMessage p s = u at hm hexec hports
  have hbound : (u.rig k).boundPort = some p := by rw [hm.rig]; exact hpair.port
  have hv := doneTaken (f := f) hbound
  have hready := takeDone_ready (f := f) (s := u) (k := k) (.inl (by rw [hm.rig]; exact hnone))
  have hrec := rig_takeDone_ready hm hready
  have hstand : PortsStand s (takeDone k f u) := by
    rw [hready]
    exact (portsStand_rigFree s).of_setRig _ _ rfl hports
  have honly := hm.only.trans hv.only
  generalize takeDone k f u = v at hv hrec honly hexec hstand
  have hraised : (keepRestores v).stops.isRaised .rigFault = rigFaultNow (keepRestores v) := by
    rw [Bool.eq_iff_iff, rigFaultNow_iff]
    show v.stops.isRaised .rigFault = true ↔ v.inShow = true ∧ ∃ j, (v.rig j).state = .fault ∧ ((v.rig j).boundPort ≠ none ∨
      (v.tables.setting j).required = true)
    rw [honly.stops, honly.inShow, honly.tables]
    refine htracked.trans (and_congr_right fun _ => exists_congr fun j => ?_)
    by_cases hj : j = k
    · rw [hj, hrec, hstate]
      simp
    · rw [hv.rigs j hj, hm.rigs j hj]
  have hreview : reviewRigs v = arrive (keepRestores v) := by
    unfold reviewRigs
    dsimp only
    rw [reviewRestore_elsewhere (by rw [honly.stops, hstop]; decide) (by rw [honly.stops, hstop]; decide),
      followCondition_of_tracked hraised]
  rw [hreview] at hexec
  have hstate' : (keepRestores v).stops.state = .stopping := by
    rw [show (keepRestores v).stops = v.stops from rfl, honly.stops, hstop]
  obtain ⟨hparts, -⟩ := arrive_eq (keepRestores v)
  have hrigs : (arrive (keepRestores v)).rigs = v.rigs := (congrArg State.rigs hparts :)
  have hset : (arrive (keepRestores v)).resume.restoreSet = (keepRestores v).resume.restoreSet :=
    (congrArg (fun t : State => t.resume.restoreSet) hparts :)
  have hmet : ArrivalMet (arrive (keepRestores v)) ↔ ArrivalMet (keepRestores v) := by
    generalize arrive (keepRestores v) = t at hparts
    rw [hparts]
    exact ⟨fun ⟨h1, h2, h3⟩ => ⟨h1, h2, h3⟩, fun ⟨h1, h2, h3⟩ => ⟨h1, h2, h3⟩⟩
  refine ⟨_, hexec, ?_, ?_, fun j hj => ?_, restoresKept_of (by rw [honly.resume]) hset hrigs, fun harrived => ?_, fun hnot => ?_⟩
  · rw [hset, hrigs]
    refine hparts.trans ?_
    generalize arrive (keepRestores v) = t
    rw [keepRestores, honly]
  · rw [State.rig, hrigs]
    exact hrec
  · rw [State.rig, hrigs]
    exact (hv.rigs j hj).trans (hm.rigs j hj)
  · have hyes : arrive (keepRestores v) = setStopState .stopped (keepRestores v) :=
      if_pos ⟨hstate', (arrivalMet_iff _).mpr (hmet.mp harrived)⟩
    rw [hyes]
    refine ⟨by simp, fun q hmask => ?_⟩
    have hpending := kindPending_setStopState (x := .stopped) (s := keepRestores v) (by rw [hstate']; decide) q
    rw [show ((keepRestores v).port q).mask = (v.port q).mask from rfl, hstand.field (·.mask)] at hpending
    exact hpending.2 hmask
  · have hno : arrive (keepRestores v) = keepRestores v :=
      if_neg fun h => hnot (hmet.mpr ((arrivalMet_iff _).mp h.2))
    rw [hno]
    exact hstate'

/-- Settles O36: the DONE of a change in quiet states, in a restore and in STOPPING. -/
theorem doneCompletesTheChange : Obligations.DoneCompletesTheChange :=
  ⟨fun _ _ _ _ hpair hquiet => done_quiet hpair hquiet,
    fun _ _ _ _ hpair hr hstate hf hnone => done_restoring hpair hr hstate hf hnone,
    fun _ _ _ _ hpair htracked hstop hstate hf hnone => done_stopping hpair htracked hstop hstate hf hnone⟩

end Sys2Proof.Machine
end

section
/-!
PROOFS. The receivers (R187, R205): what a run of characters ends, and the counting of what is bad in it.
-/

namespace Sys2Proof.Machine
set_option Elab.async false

/-! ## What a run of characters ends -/

theorem messagesIn_invalid {n : Nat} {cs rest : List LineChar} (h : parseRig cs = .invalid rest) :
    messagesIn (n + 1) cs = (messagesIn n rest).after none := by
  rw [messagesIn, h]

theorem messagesIn_valid {n : Nat} {m : RigMessage} {cs rest : List LineChar} (h : parseRig cs = .valid m rest) :
    messagesIn (n + 1) cs = (messagesIn n rest).after (some m) := by
  rw [messagesIn, h]

theorem messagesIn_incomplete {n : Nat} {cs : List LineChar} (h : parseRig cs = .incomplete) :
    messagesIn (n + 1) cs = { ended := [], held := fromStart 0x55 cs } := by
  rw [messagesIn, h]

theorem framesIn_bad {n : Nat} {cs rest : List LineChar} (h : parseFrame cs = .bad rest) :
    framesIn (n + 1) cs = (framesIn n rest).after none := by
  rw [framesIn, h]

theorem framesIn_valid {n : Nat} {f : Frame} {cs rest : List LineChar} (h : parseFrame cs = .valid f rest) :
    framesIn (n + 1) cs = (framesIn n rest).after (some f) := by
  rw [framesIn, h]

theorem framesIn_incomplete {n : Nat} {cs : List LineChar} (h : parseFrame cs = .incomplete) :
    framesIn (n + 1) cs = { ended := [], held := fromStart 0x7E cs } := by
  rw [framesIn, h]

theorem framesIn_nil (n : Nat) : framesIn n [] = { ended := [], held := [] } := by cases n <;> rfl

theorem messagesIn_nil (n : Nat) : messagesIn n [] = { ended := [], held := [] } := by cases n <;> rfl

/-- The receiver of a rig port takes its run as one line. -/
theorem receiveMessages_eq {held : List Byte} {chars line : List LineChar} (h : held.map .ok ++ chars = line) :
    receiveMessages held chars = messagesIn (line.length + 1) line := by
  rw [receiveMessages, ← h]
  simp

theorem receiveFrames_eq {held : List Byte} {chars line : List LineChar} (h : held.map .ok ++ chars = line) :
    receiveFrames held chars = framesIn (line.length + 1) line := by
  rw [receiveFrames, ← h]
  simp

/-! ## Invalid messages (R205) -/

/-- A kind that is none of TABLE 6-1, or a damaged character, ends an invalid message at its sync byte. -/
theorem parseRigFields_invalid {tail : List LineChar}
    (h : (∃ more, tail = .damaged :: more) ∨ (∃ k more, tail = .ok k :: more ∧ k.toNat ∉ [1, 2, 3, 4])) :
    parseRigFields tail = .invalid tail := by
  rcases h with ⟨more, rfl⟩ | ⟨k, more, rfl, hk⟩
  · rfl
  · have hne : ∀ b : Byte, b.toNat ∈ [1, 2, 3, 4] → k ≠ b := fun b hb he => hk (he ▸ hb)
    unfold parseRigFields
    dsimp only
    rw [if_neg (hne 0x01 (by decide)), if_neg (hne 0x02 (by decide)), if_neg (hne 0x03 (by decide)),
      if_neg (hne 0x04 (by decide))]

/-- An invalid message is counted, and makes no kind pending (R96). -/
theorem countInvalid_eq (p : RigPort) (s : State) :
    countInvalid p s =
      { s with rigs := { s.rigs with
        ports := tput s.rigs.ports p { s.rigPort p with invalidCount := countUp (s.rigPort p).invalidCount } } } := by
  simp [countInvalid, setRigPort, notifyIf, RigPortRec.differs]

/-- What an invalid message leaves: one more in the count, and the bytes that the receiver then holds. -/
structure InvalidCounted (p : RigPort) (held : List Byte) (s t : State) : Prop where
  only : t = { s with rigs := t.rigs, desk := t.desk }
  rigs : ∀ j, t.rig j = s.rig j
  desk : ∀ q, t.port q = s.port q
  ports : ∀ q, t.rigPort q =
    if q = p then { s.rigPort p with invalidCount := min ((s.rigPort p).invalidCount + 1) 65535, rx := held } else s.rigPort q

theorem countInvalid_counted (p : RigPort) (s : State) : InvalidCounted p (s.rigPort p).rx s (countInvalid p s) := by
  rw [countInvalid_eq]
  refine ⟨rfl, fun _ => rfl, fun _ => rfl, fun q => ?_⟩
  simp only [State.rigPort, tget_tput, eq_comm (a := p)]
  split <;> rfl

theorem exec_rigInvalidMessage {p : RigPort} {chars : List LineChar} {s : State} {r : Received RigMessage}
    (hr : receiveMessages (s.rigPort p).rx chars = r) (hbad : none ∈ r.ended) :
    exec (.rigInvalidMessage p chars) s = .next (takeRigChars p r s) := by
  subst hr
  rcases execRigInvalidMessage_cases p chars s with ⟨-, h⟩ | ⟨h, -⟩
  · exact h
  · exact absurd hbad h

theorem invalid_alone {p : RigPort} {chars junk tail : List LineChar} {s : State} (hjunk : LineChar.ok 0x55 ∉ junk)
    (hrest : parseRig tail = .incomplete) (hline : (s.rigPort p).rx.map LineChar.ok ++ chars = junk ++ .ok 0x55 :: tail)
    (htail : (∃ more, tail = .damaged :: more) ∨ (∃ k more, tail = .ok k :: more ∧ k.toNat ∉ [1, 2, 3, 4])) :
    ∃ t, exec (.rigInvalidMessage p chars) s = .next t ∧ InvalidCounted p (fromStart 0x55 tail) s t := by
  have hparse : parseRig (junk ++ .ok 0x55 :: tail) = .invalid tail :=
    (parseRig_junk hjunk tail).trans (parseRigFields_invalid htail)
  have hlen : (junk ++ LineChar.ok 0x55 :: tail).length = (junk.length + tail.length) + 1 := by
    rw [List.length_append, List.length_cons]
    omega
  have hreceived : receiveMessages (s.rigPort p).rx chars = { ended := [none], held := fromStart 0x55 tail } := by
    rw [receiveMessages_eq hline, messagesIn_invalid hparse, hlen, messagesIn_incomplete hrest]
    rfl
  have hc := countInvalid_counted p s
  refine ⟨_, exec_rigInvalidMessage hreceived (by simp), ?_⟩
  show InvalidCounted p _ s (setRigPort p { (countInvalid p s).rigPort p with rx := fromStart 0x55 tail } (countInvalid p s))
  rw [setRigPort_rx]
  generalize countInvalid p s = u at hc
  refine ⟨?_, hc.rigs, hc.desk, fun q => ?_⟩
  · have := hc.only
    generalize u.desk = d at this ⊢
    rw [this]
  · have hq := hc.ports
    simp only [State.rigPort] at hq ⊢
    rw [tget_tput]
    by_cases hqp : q = p
    · rw [hqp, if_pos rfl, if_pos rfl, hq p, if_pos rfl]
    · rw [if_neg (Ne.symm hqp), if_neg hqp, hq q, if_neg hqp]

/-- A message taken from the line is the command of that message (R205). -/
theorem exec_messageCommand (p : RigPort) {m : RigMessage} (h : ∀ x, m = .announce x → isIdentity x = true) (s : State) :
    exec (messageCommand p m) s = .next (takeMessage p s m) := by
  cases m with
  | announce x => exact congrArg Host.Outcome.next (if_pos (h x rfl))
  | status _ _ => rfl
  | done _ => rfl
  | refused _ _ => rfl

theorem invalid_then_message {p : RigPort} {chars : List LineChar} {m : RigMessage} {s : State}
    (hm : ∀ x, m = .announce x → isIdentity x = true)
    (hline : (s.rigPort p).rx.map LineChar.ok ++ chars = (0x55 :: rigLine m.body).map LineChar.ok) :
    receiveMessages (s.rigPort p).rx chars = { ended := [none, some m], held := [] } := by
  have hparse : parseRig ((0x55 :: rigLine m.body).map LineChar.ok) = .invalid ((rigLine m.body).map LineChar.ok) :=
    parseRigFields_invalid (.inr ⟨0x55, _, rfl, by decide⟩)
  have hvalid : parseRig ((rigLine m.body).map LineChar.ok) = .valid m [] := by
    have := parseRig_line m (junk := []) (more := []) hm (by simp)
    simpa using this
  rw [receiveMessages_eq hline, messagesIn_invalid hparse, List.map_cons, List.length_cons, messagesIn_valid hvalid, messagesIn_nil]
  rfl

/-! ## Bad frames (R187) -/

theorem exec_deskBadFrame {p : DeskPort} {chars : List LineChar} {s : State} {r : Received Frame}
    (hr : receiveFrames (s.port p).rx chars = r) (hbad : none ∈ r.ended) :
    exec (.deskBadFrame p chars) s = .next (takeDeskChars p r s) := by
  subst hr
  rcases execDeskBadFrame_cases p chars s with ⟨-, h⟩ | ⟨h, -⟩
  · exact h
  · exact absurd hbad h

theorem takeDeskChars_bad (p : DeskPort) (held : List Byte) (s : State) :
    takeDeskChars p { ended := [none], held := held } s = s.badFrame p held := by
  show (s.setPort p { s.port p with badFrames := countUp (s.port p).badFrames }).setPort p
    { (s.setPort p { s.port p with badFrames := countUp (s.port p).badFrames }).port p with rx := held } = _
  rw [port_setPort_same, setPort_setPort]
  rfl

theorem badFrame_kind {p : DeskPort} {chars junk tail : List LineChar} {k : Byte} {s : State}
    (hjunk : LineChar.ok 0x7E ∉ junk) (hk : FrameKind.ofByte k = none) (hrest : parseFrame tail = .incomplete)
    (hline : (s.port p).rx.map LineChar.ok ++ chars = junk ++ .ok 0x7E :: .ok k :: tail) :
    exec (.deskBadFrame p chars) s = .next (s.badFrame p (fromStart 0x7E tail)) := by
  have hparse : parseFrame (junk ++ .ok 0x7E :: .ok k :: tail) = .bad tail := by
    rw [parseFrame_junk hjunk]
    unfold parseFields
    dsimp only
    rw [hk]
  have hlen : (junk ++ LineChar.ok 0x7E :: .ok k :: tail).length = (junk.length + tail.length + 1) + 1 := by
    rw [List.length_append, List.length_cons, List.length_cons]
    omega
  have hreceived : receiveFrames (s.port p).rx chars = { ended := [none], held := fromStart 0x7E tail } := by
    rw [receiveFrames_eq hline, framesIn_bad hparse, hlen, framesIn_incomplete hrest]
    rfl
  rw [exec_deskBadFrame hreceived (by simp), takeDeskChars_bad]

/-- A start byte among the payload's characters ends a bad frame, and begins the next (R187). -/
theorem takePayload_start {part : List Byte} (hpart : ∀ b ∈ part, b ≠ 0x7E ∧ b ≠ 0x7D) (more : List LineChar) {n : Nat}
    (hn : part.length < n) : takePayload (part.map .ok ++ .ok 0x7E :: more) n = .bad (.ok 0x7E :: more) := by
  induction part generalizing n with
  | nil =>
    obtain ⟨n, rfl⟩ := Nat.exists_eq_succ_of_ne_zero (Nat.ne_of_gt hn)
    show takePayload (.ok 0x7E :: more) (n + 1) = _
    unfold takePayload
    rw [if_pos rfl]
  | cons b part ih =>
    obtain ⟨n, rfl⟩ := Nat.exists_eq_succ_of_ne_zero (Nat.ne_of_gt (Nat.lt_of_le_of_lt (Nat.zero_le _) hn))
    obtain ⟨⟨hstart, hescape⟩, hrest⟩ := List.forall_mem_cons.mp hpart
    have hn' : part.length < n := by simpa using hn
    show takePayload (.ok b :: (part.map .ok ++ .ok 0x7E :: more)) (n + 1) = _
    unfold takePayload
    rw [if_neg hstart, if_neg hescape, ih hrest hn']
    rfl

/-- A frame whose payload a start byte breaks is bad, and what begins there is next. -/
theorem parseFrame_broken {kind : FrameKind} {tag code len : Byte} {part : List Byte} (hlen : part.length < len.toNat)
    (hmax : len.toNat ≤ 250) (hpart : ∀ b ∈ part, b ≠ 0x7E ∧ b ≠ 0x7D) (more : List Byte) :
    parseFrame ((0x7E :: kind.byte :: tag :: code :: len :: part ++ 0x7E :: more).map LineChar.ok) =
      .bad ((0x7E :: more).map LineChar.ok) := by
  have hbody : parseBody kind tag code len ((part ++ 0x7E :: more).map .ok) = .bad ((0x7E :: more).map LineChar.ok) := by
    rw [parseBody, List.map_append, List.map_cons, takePayload_start hpart _ hlen]
  show parseFields (.ok kind.byte :: .ok tag :: .ok code :: .ok len :: (part ++ 0x7E :: more).map .ok) = _
  unfold parseFields
  dsimp only
  rw [ofByte_byte]
  dsimp only
  exact (if_neg (Nat.not_lt.mpr hmax)).trans hbody

/-- A frame of which no more than the kind, the tag and the code have come is held (R187). -/
theorem parseFrame_begun {more : List Byte} (hmore : more.length ≤ 3) (hk : ∀ k l, more = k :: l → FrameKind.ofByte k ≠ none) :
    parseFrame ((0x7E :: more).map LineChar.ok) = .incomplete := by
  show parseFields (more.map .ok) = _
  match more with
  | [] => rfl
  | k :: rest =>
    obtain ⟨kind, hkind⟩ := Option.ne_none_iff_exists'.mp (hk k rest rfl)
    unfold parseFields
    match rest with
    | [] => simp [hkind]
    | [_] => simp [hkind]
    | [_, _] => simp [hkind]
    | _ :: _ :: _ :: _ =>
      simp only [List.length_cons] at hmore
      omega

/-- A valid frame taken from the line is its command (R187, R203). -/
theorem exec_frameCommand (p : DeskPort) (f : Frame) (s : State) : exec (frameCommand p f) s = .next (takeFrame p f s) := by
  obtain ⟨kind, tag, code, payload⟩ := f
  cases kind with
  | request =>
    obtain ⟨v, hv⟩ := exec_next (commandOf ⟨p, tag⟩ code payload) s
    show exec (commandOf ⟨p, tag⟩ code payload) s = .next (stateOf s (serve (commandOf ⟨p, tag⟩ code payload) s))
    rw [serve_commandOf, hv]
    rfl
  | reply => rfl
  | notice => rfl

/-- Settles O38: the invalid messages and the bad frames of a run, and the stray frames. -/
theorem badCharactersCounted : Obligations.BadCharactersCounted := by
  refine ⟨fun p chars s => ⟨fun junk tail hjunk hrest ⟨hline, htail⟩ => ?_, fun m hm hline => ?_, fun hnot => ?_⟩,
    fun p chars s => ⟨fun junk tail k hjunk hk hrest hline => badFrame_kind hjunk hk hrest hline,
      fun kind tag code len part hlen hmax hpart => ⟨fun more hmore hline hk => ?_, fun f hpayload hline => ?_⟩, fun hnot => ?_,
      fun f hkind => ?_, fun f hkind => ?_⟩⟩
  · obtain ⟨t, hexec, hc⟩ := invalid_alone hjunk hrest hline htail
    exact ⟨t, hexec, hc.only, hc.rigs, hc.desk, hc.ports⟩
  · have hreceived := invalid_then_message hm hline
    have hc := countInvalid_counted p s
    refine ⟨countInvalid p s, takeMessage p (countInvalid p s) m, ⟨hc.rigs, hc.desk, hc.ports⟩, hc.only,
      exec_messageCommand p hm _, ?_⟩
    rw [exec_rigInvalidMessage hreceived (by simp)]
    exact congrArg Host.Outcome.next (setRigPort_rx p [] _)
  · rcases execRigInvalidMessage_cases p chars s with ⟨h, -⟩ | ⟨-, h⟩
    · exact absurd h hnot
    · exact h
  · have hreceived : receiveFrames (s.port p).rx chars = { ended := [none], held := 0x7E :: more } := by
      have hheld : fromStart 0x7E ((0x7E :: more).map LineChar.ok) = 0x7E :: more :=
        congrArg (List.cons 0x7E) (filterMap_ok _ (fun _ => rfl) more)
      rw [receiveFrames_eq hline, framesIn_bad (parseFrame_broken hlen hmax hpart more), List.cons_append, List.map_cons,
        List.length_cons, framesIn_incomplete (parseFrame_begun hmore hk), hheld]
      rfl
    rw [exec_deskBadFrame hreceived (by simp), takeDeskChars_bad]
  · obtain ⟨body, hbody⟩ : ∃ body, f.line = 0x7E :: body := ⟨_, rfl⟩
    have hvalid : parseFrame (f.line.map LineChar.ok) = .valid f [] := by
      have := parseFrame_line f (junk := []) (more := []) hpayload (by simp)
      simpa using this
    have hreceived : receiveFrames (s.port p).rx chars = { ended := [none, some f], held := [] } := by
      rw [hbody] at hline hvalid
      rw [receiveFrames_eq hline, framesIn_bad (parseFrame_broken hlen hmax hpart body), List.cons_append, List.map_cons,
        List.length_cons, framesIn_valid hvalid, framesIn_nil]
      rfl
    refine ⟨_, exec_frameCommand p f _, ?_⟩
    rw [exec_deskBadFrame hreceived (by simp)]
    rfl
  · rcases execDeskBadFrame_cases p chars s with ⟨h, -⟩ | ⟨-, h⟩
    · exact absurd h hnot
    · exact h
  · obtain ⟨kind, tag, code, payload⟩ := f
    cases kind with
    | request => exact absurd rfl hkind
    | reply => rfl
    | notice => rfl
  · obtain ⟨kind, tag, code, payload⟩ := f
    obtain rfl : kind = .request := hkind
    rfl

end Sys2Proof.Machine
end

section
/-!
PROOFS. The bindings of rigs to slots (R98 to R101, R179): an ANNOUNCE, a BIND and an UNBIND.
-/

namespace Sys2Proof.Machine
set_option Elab.async false

/-! ## The end of a binding (R100) -/

theorem setRig_same (k : Slot) (s : State) : setRig k (s.rig k) s = s := by
  simp [setRig, notifyIf, Rig.differs, State.rig]

theorem onlyRigs_unbindSlot (k : Slot) (s : State) : OnlyRigs s (unbindSlot k s) := by apply state_ext <;> simp

theorem onlyRigs_unbindPort (p : RigPort) (s : State) : OnlyRigs s (unbindPort p s) := by apply state_ext <;> simp

theorem onlyRigs_bindRecords (p : RigPort) (k : Slot) (s : State) : OnlyRigs s (bindRecords p k s) := by
  apply state_ext <;> simp

theorem unbindPort_of_none {p : RigPort} {s : State} (h : (s.rigPort p).boundSlot = none) : unbindPort p s = s := by
  rw [unbindPort, h]

/-- The records that the end of a port's binding leaves. -/
theorem unbindPort_bound {p : RigPort} {k : Slot} {s : State} (h : BoundPair p k s) :
    (∀ j, (unbindPort p s).rig j = if k = j then (s.rig k).unbound else s.rig j) ∧
    ∀ q, (unbindPort p s).rigPort q = if p = q then { s.rigPort p with boundSlot := none } else s.rigPort q := by
  rw [unbindPort, h.slot]
  refine ⟨fun j => by simp [rig_unbindSlot], fun q => ?_⟩
  rw [rigPort_unbindSlot, rig_setRigPort, h.port, rigPort_setRigPort]
  by_cases hq : p = q
  · simp [hq]
  · simp [hq]

/-! ## A new binding (R101) -/

theorem rig_bindRecords (p : RigPort) (k j : Slot) (s : State) :
    (bindRecords p k s).rig j = if k = j then (s.rig k).boundTo p s.now else s.rig j := by
  unfold bindRecords
  dsimp only
  rw [rig_notify, rig_setRig, rig_setRigPort, rig_setRigPort]
  simp

theorem rigPort_bindRecords (p q : RigPort) (k : Slot) (s : State) :
    (bindRecords p k s).rigPort q = if p = q then { s.rigPort p with boundSlot := some k } else s.rigPort q := by
  unfold bindRecords
  dsimp only
  rw [rigPort_notify, rigPort_setRig, rigPort_setRigPort]

theorem firstChange_setup {k : Slot} {s : State} (h : s.inShow = false) : firstChange k s = none := by
  unfold firstChange
  rw [h]
  rfl

theorem safeFor_kind (k : Slot) (s : State) : (safeFor k s).kind ≠ .cue := ChangeKind.noConfusion

theorem restoreFor_kind (k : Slot) (x : PatchPair) (s : State) : (restoreFor k x s).kind ≠ .cue := ChangeKind.noConfusion

/-- The RESTORE of the chase of the current cue, in the terms of `firstOf`. -/
theorem restoreFor_currentChase (k : Slot) (s : State) :
    (match s.pointer.current with
      | some n => s.tables.resolve k (s.tables.patchChase (.cue n) k).1
      | none => s.tables.resolve k (s.tables.patchChase .first k).1) =
      (restoreFor k (s.tables.patchChase (currentChase s) k).1 s).patch := by
  unfold currentChase
  cases s.pointer.current <;> rfl

/-- The first change of a slot bound in SHOW is the one of R101. -/
theorem firstChange_show {k : Slot} {s : State} (h : s.inShow = true) :
    ∃ x, firstChange k s = some x ∧ firstOf k s = (x.patch, x.kind) ∧ x.kind ≠ .cue := by
  have hcurrent := restoreFor_currentChase k s
  have hstop : ∀ b : Prop, [Decidable b] → ∃ x,
      (if b then some (safeFor k s) else some (restoreFor k (s.tables.patchChase (currentChase s) k).1 s)) = some x ∧
      (if b then ((s.tables.setting k).safe, ChangeKind.safe) else
        ((restoreFor k (s.tables.patchChase (currentChase s) k).1 s).patch, .restore)) = (x.patch, x.kind) ∧ x.kind ≠ .cue := by
    intro b _
    split
    · exact ⟨_, rfl, rfl, safeFor_kind k s⟩
    · exact ⟨_, rfl, rfl, restoreFor_kind k _ s⟩
  unfold firstChange firstOf
  rw [if_pos h]
  cases s.stops.state with
  | halted => exact ⟨_, rfl, rfl, safeFor_kind k s⟩
  | stopping =>
    dsimp only
    rw [← hcurrent] at hstop
    exact hstop _
  | stopped =>
    dsimp only
    rw [← hcurrent] at hstop
    exact hstop _
  | restoring =>
    dsimp only [targetChase]
    cases s.resume.target <;> exact ⟨_, rfl, rfl, restoreFor_kind k _ s⟩
  | resumeArmed =>
    dsimp only [targetChase]
    cases s.resume.target <;> exact ⟨_, rfl, rfl, restoreFor_kind k _ s⟩
  | clear => exact ⟨_, rfl, Prod.ext hcurrent rfl, restoreFor_kind k _ s⟩
  | awaitResume => exact ⟨_, rfl, Prod.ext hcurrent rfl, restoreFor_kind k _ s⟩

theorem OnlyRigs.firstOf {s t : State} (h : OnlyRigs s t) (k : Slot) : firstOf k t = Machine.firstOf k s := by
  unfold Machine.firstOf
  rw [h.tables, h.pointer, h.stops, h.resume]

theorem OnlyRigs.now {s t : State} (h : OnlyRigs s t) : t.now = s.now := by rw [State.now, h.time]; rfl

/-- A change other than a CUE that finds its slot READY with nothing pending is sent at once (R104). -/
theorem placeChange_ready {k : Slot} {x : Handed} {s : State} (hready : (s.rig k).state = .ready)
    (hnone : (s.rig k).pendingChange = none) (hkind : x.kind ≠ .cue) : placeChange k x s = sendChange k x.patch x.kind s := by
  have hsuper : (s.rig k).supersede = s.rig k := by rw [Rig.supersede, hnone]
  have hsends : ∀ r u, sendsNow x r u = true := fun r u => by
    unfold sendsNow
    cases hk : x.kind with
    | cue => exact absurd hk hkind
    | safe => rfl
    | restore => rfl
  unfold placeChange
  dsimp only
  rw [hready]
  dsimp only
  rw [hsuper, setRig_same, if_pos (hsends _ _)]

/-- The restore set once a slot has joined it (R179). -/
def State.joined (s : State) (k : Slot) (x : Patch) : List (Slot × Patch) :=
  if s.stops.state = .restoring ∨ s.stops.state = .resumeArmed then (s.resume.restoreSet.filter fun m => m.1 != k) ++ [(k, x)]
  else s.resume.restoreSet

/-- A binding of a port and a slot to each other, with the first change sent in SHOW (R101, R179). -/
structure Binds (p : RigPort) (k : Slot) (s t : State) : Prop where
  parts : t = { s with rigs := t.rigs, resume := { s.resume with restoreSet := t.resume.restoreSet }, desk := t.desk }
  rigs : ∀ j, j ≠ k → t.rig j = s.rig j
  ports : ∀ q, q ≠ p → t.rigPort q = s.rigPort q
  setup : s.inShow = false → t.resume = s.resume ∧ t.rig k = (s.rig k).boundTo p s.now ∧
    t.rigPort p = { s.rigPort p with boundSlot := some k }
  inShow : s.inShow = true → ∀ patch kind, firstOf k s = (patch, kind) →
    t.resume.restoreSet = s.joined k patch ∧
    t.rig k = ((s.rig k).boundTo p s.now).sent patch kind (!(s.rigPort p).bit) s.now ∧
    t.rigPort p = { s.rigPort p with
      boundSlot := some k, bit := !(s.rigPort p).bit, lastSelect := some (patch, !(s.rigPort p).bit) }

theorem bindSlot_binds (p : RigPort) (k : Slot) (s : State) : Binds p k s (bindSlot p k s) := by
  have honly := onlyRigs_bindRecords p k s
  have hrig : (bindRecords p k s).rig k = (s.rig k).boundTo p s.now := by rw [rig_bindRecords, if_pos rfl]
  have hport : (bindRecords p k s).rigPort p = { s.rigPort p with boundSlot := some k } := by
    rw [rigPort_bindRecords, if_pos rfl]
  have hfirst : firstOf k (bindRecords p k s) = firstOf k s := honly.firstOf k
  have hrigs : ∀ j, j ≠ k → (bindRecords p k s).rig j = s.rig j := fun j hj => by
    rw [rig_bindRecords, if_neg (Ne.symm hj)]
  have hports : ∀ q, q ≠ p → (bindRecords p k s).rigPort q = s.rigPort q := fun q hq => by
    rw [rigPort_bindRecords, if_neg (Ne.symm hq)]
  unfold bindSlot
  dsimp only
  generalize bindRecords p k s = u at honly hrig hport hfirst hrigs hports
  by_cases hshow : s.inShow = true
  · obtain ⟨x, hx, hof, hkind⟩ := firstChange_show (k := k) (honly.inShow.trans hshow)
    have hbound : (u.rig k).boundPort = some p := by rw [hrig]; rfl
    have hplace : placeChange k x u = sendChange k x.patch x.kind u :=
      placeChange_ready (by rw [hrig]; rfl) (by rw [hrig]; rfl) hkind
    have hsent := onlyRigs_sendChange k x.patch x.kind u
    have hsentRig := rig_sendChange x.patch x.kind hbound
    have hsentPort := rigPort_sendChange x.patch x.kind hbound
    have hsentRigs := fun j (hj : j ≠ k) => rig_sendChange_ne (s := u) x.patch x.kind (Ne.symm hj)
    have hsentPorts := fun q (hq : q ≠ p) => rigPort_sendChange_ne (s := u) (j := k) (p := q) x.patch x.kind
      (by rw [hbound]; exact fun h => hq (Option.some.inj h).symm)
    rw [hx]
    dsimp only
    rw [hplace]
    generalize sendChange k x.patch x.kind u = v at hsent hsentRig hsentPort hsentRigs hsentPorts
    have hv := honly.trans hsent
    have hjoin : (if v.stops.state = .restoring ∨ v.stops.state = .resumeArmed then
        { v with resume := { v.resume with restoreSet := (v.resume.restoreSet.filter fun m => m.1 != k) ++ [(k, x.patch)] } }
        else v) = { v with resume := { v.resume with restoreSet := s.joined k x.patch } } := by
      unfold State.joined
      rw [← hv.stops, ← hv.resume]
      split <;> rfl
    have hnow : u.now = s.now := congrArg (·.clock) honly.time
    rw [hnow, hport, hrig] at hsentRig
    rw [hport] at hsentPort
    rw [hjoin]
    refine ⟨?_, fun j hj => (hsentRigs j hj).trans (hrigs j hj), fun q hq => (hsentPorts q hq).trans (hports q hq),
      fun hsetup => absurd hshow (by rw [hsetup]; decide), fun _ patch kind hpair => ?_⟩
    · rw [hv.resume]
      unfold OnlyRigs at hv
      rw [hv]
    · obtain ⟨rfl, rfl⟩ := Prod.mk.inj (hpair.symm.trans (hfirst.symm.trans hof))
      exact ⟨rfl, hsentRig, hsentPort⟩
  · have hsetup := Bool.eq_false_iff.mpr hshow
    rw [firstChange_setup (honly.inShow.trans hsetup)]
    exact ⟨honly.withRestores, hrigs, hports, fun _ => ⟨honly.resume, hrig, hport⟩, fun h => absurd h hshow⟩

/-! ## ANNOUNCE (R98) -/

/-- What follows the message of an ANNOUNCE, once any binding of its port has ended. -/
def answerAnnounce (p : RigPort) (name : Text) (s : State) : State :=
  let u := setRigPort p { s.rigPort p with identity := some name, duplicate := heldElsewhere name s, bit := false } s
  match slotNamed name u with
  | some k => reviewRigs (if heldElsewhere name s then u else bindSlot p k u)
  | none => reviewRigs u

theorem exec_announce {p : RigPort} {name : Text} {s : State} (h : isIdentity name = true) :
    exec (.announce p name) s = .next (answerAnnounce p name (unbindPort p (rigMessage p s))) :=
  congrArg Host.Outcome.next (if_pos h)

theorem slotNamed_some {name : Text} {k : Slot} {s : State} (h : slotNamed name s = some k) : (s.rig k).name = name :=
  beq_iff_eq.mp (List.find?_some (p := fun j => (s.rig j).name == name) h)

theorem slotNamed_none {name : Text} {s : State} (h : slotNamed name s = none) (k : Slot) : (s.rig k).name ≠ name := fun hk =>
  List.find?_eq_none.mp h k (mem_allSlots k) (beq_iff_eq.mpr hk)

/-- The slot named is the only one of its name. -/
theorem slotNamed_unique {name : Text} {k : Slot} {s : State} (h : (s.rig k).name = name)
    (hother : ∀ j, j ≠ k → (s.rig j).name ≠ name) : slotNamed name s = some k := by
  cases hn : slotNamed name s with
  | none => exact absurd h (slotNamed_none hn k)
  | some j => rw [not_not.mp fun hj => hother j hj (slotNamed_some hn)]

theorem heldElsewhere_some {name : Text} {k : Slot} {s : State} (h : slotNamed name s = some k) :
    heldElsewhere name s = (s.rig k).boundPort.isSome := by
  rw [heldElsewhere, h]

theorem heldElsewhere_none {name : Text} {s : State} (h : slotNamed name s = none) : heldElsewhere name s = false := by
  rw [heldElsewhere, h]

/-- The port of an ANNOUNCE holds the identity, and its sequence bit is 0. -/
def RigPortRec.announced (r : RigPortRec) (name : Text) (duplicate : Bool) : RigPortRec :=
  { r with identity := some name, duplicate := duplicate, bit := false }

/-- The state in which the port of an ANNOUNCE holds its identity. -/
def identified (p : RigPort) (name : Text) (duplicate : Bool) (s : State) : State :=
  setRigPort p ((s.rigPort p).announced name duplicate) s

theorem rig_identified (p : RigPort) (name : Text) (d : Bool) (k : Slot) (s : State) :
    (identified p name d s).rig k = s.rig k := rig_setRigPort ..

theorem rigPort_identified (p q : RigPort) (name : Text) (d : Bool) (s : State) :
    (identified p name d s).rigPort q = if p = q then (s.rigPort p).announced name d else s.rigPort q := rigPort_setRigPort ..

theorem onlyRigs_identified (p : RigPort) (name : Text) (d : Bool) (s : State) : OnlyRigs s (identified p name d s) :=
  onlyRigs_setRigPort ..

theorem answerAnnounce_none {p : RigPort} {name : Text} {s : State} (h : slotNamed name s = none) :
    answerAnnounce p name s = reviewRigs (identified p name false s) := by
  have hsame : slotNamed name (identified p name false s) = none :=
    (slotNamed_congr (rig_identified p name false · s) name).trans h
  unfold answerAnnounce
  dsimp only
  rw [heldElsewhere_none h]
  show (match slotNamed name (identified p name false s) with
    | some k => _
    | none => _) = _
  rw [hsame]
  rfl

theorem answerAnnounce_some {p : RigPort} {name : Text} {k : Slot} {s : State} (h : slotNamed name s = some k) :
    answerAnnounce p name s = reviewRigs
      (if (s.rig k).boundPort.isSome then identified p name true s else bindSlot p k (identified p name false s)) := by
  have hsame : ∀ d, slotNamed name (identified p name d s) = some k := fun d =>
    (slotNamed_congr (rig_identified p name d · s) name).trans h
  unfold answerAnnounce
  dsimp only
  rw [heldElsewhere_some h]
  show (match slotNamed name (identified p name (s.rig k).boundPort.isSome s) with
    | some k => _
    | none => _) = _
  rw [hsame]
  cases (s.rig k).boundPort.isSome <;> rfl

/-- A sound binding slot is in no fault. -/
theorem Binds.sound {p : RigPort} {k : Slot} {s t : State} (h : Binds p k s t) : (t.rig k).state ≠ .fault := by
  cases hshow : s.inShow with
  | false =>
    obtain ⟨-, hrig, -⟩ := h.setup hshow
    rw [hrig]
    exact RigState.noConfusion
  | true =>
    obtain ⟨-, hrig, -⟩ := h.inShow hshow _ _ rfl
    rw [hrig]
    exact RigState.noConfusion

/-- Outside a restore a binding leaves the resume as it stands. -/
theorem Binds.only {p : RigPort} {k : Slot} {s t : State} (h : Binds p k s t)
    (hstate : ¬ (s.stops.state = .restoring ∨ s.stops.state = .resumeArmed)) : OnlyRigs s t := by
  have hset : t.resume.restoreSet = s.resume.restoreSet := by
    cases hshow : s.inShow with
    | false => rw [(h.setup hshow).1]
    | true =>
      rw [(h.inShow hshow _ _ rfl).1, State.joined, if_neg hstate]
  have hparts := h.parts
  rw [hset] at hparts
  exact hparts

theorem RigsQuiet.not_restoring {s : State} (hs : RigsQuiet s) :
    ¬ (s.stops.state = .restoring ∨ s.stops.state = .resumeArmed) := by
  rcases hs.state with h | h | h | h <;> rw [h] <;> decide

/-- A state with the stops and the session of a quiet one is quiet where it has no fault in SHOW. -/
theorem RigsQuiet.congr {s t : State} (hs : RigsQuiet s) (hstops : t.stops = s.stops)
    (hsound : t.inShow = true → ∀ k, (t.rig k).state ≠ .fault) : RigsQuiet t where
  quiet := hs.quiet.congr (by rw [hstops])
  state := by rw [hstops]; exact hs.state
  sound := hsound

/-- The review after what moves only the rigs of a quiet state, and leaves no fault in SHOW. -/
theorem RigsQuiet.review {s v : State} (hs : RigsQuiet s) (hv : OnlyRigs s v)
    (hsound : s.inShow = true → ∀ k, (v.rig k).state ≠ .fault) :
    reviewRigs v = keepRestores v ∧ RestoresKept s (keepRestores v) ∧
    keepRestores v = { s with
      rigs := v.rigs, resume := { s.resume with restoreSet := (keepRestores v).resume.restoreSet }, desk := v.desk } := by
  refine ⟨reviewRigs_quiet (hv.nothingRaised hs.quiet) (by rw [hv.stops]; exact hs.state) (by rw [hv.inShow]; exact hsound),
    restoresKept_of (by rw [hv.resume]) rfl rfl, ?_⟩
  rw [keepRestores]
  unfold OnlyRigs at hv
  generalize hw : v.resume.restoreSet = w
  rw [hv]

/-- What an ANNOUNCE leaves in a quiet state, from the state in which its port is free (R98). -/
structure AnnounceAnswered (p : RigPort) (name : Text) (s t : State) : Prop where
  parts : t = { s with rigs := t.rigs, resume := { s.resume with restoreSet := t.resume.restoreSet }, desk := t.desk }
  restores : RestoresKept s t
  ports : ∀ q, q ≠ p → t.rigPort q = s.rigPort q
  nobody : (∀ k, (s.rig k).name ≠ name) →
    t.rigPort p = (s.rigPort p).announced name false ∧ ∀ j, t.rig j = s.rig j
  named : ∀ k, (s.rig k).name = name → (∀ j, j ≠ k → (s.rig j).name ≠ name) →
    (∀ j, j ≠ k → t.rig j = s.rig j) ∧
    ((s.rig k).boundPort ≠ none → t.rigPort p = (s.rigPort p).announced name true ∧ t.rig k = s.rig k) ∧
    ((s.rig k).boundPort = none → s.inShow = false →
      t.rigPort p = { (s.rigPort p).announced name false with boundSlot := some k } ∧ t.rig k = (s.rig k).boundTo p s.now)

/-- A quiet state that a write of its rigs moved to a sound one, once reviewed. -/
theorem answerAnnounce_quiet {p : RigPort} {name : Text} {s : State} (hs : RigsQuiet s) :
    AnnounceAnswered p name s (answerAnnounce p name s) := by
  have hport : ∀ d, (identified p name d s).rigPort p = (s.rigPort p).announced name d := fun d => by
    rw [rigPort_identified, if_pos rfl]
  have hports : ∀ d q, q ≠ p → (identified p name d s).rigPort q = s.rigPort q := fun d q hq => by
    rw [rigPort_identified, if_neg (Ne.symm hq)]
  have hrig : ∀ d j, (identified p name d s).rig j = s.rig j := fun d j => rig_identified ..
  have honly := fun d => onlyRigs_identified p name d s
  cases hn : slotNamed name s with
  | none =>
    rw [answerAnnounce_none hn]
    obtain ⟨hreview, hkept, hparts⟩ := hs.review (honly false) (fun hshow k => by rw [hrig]; exact hs.sound hshow k)
    rw [hreview]
    exact {
      parts := hparts
      restores := hkept
      ports := hports false
      nobody := fun _ => ⟨hport false, hrig false⟩
      named := fun k hk _ => absurd hk (slotNamed_none hn k) }
  | some k =>
    rw [answerAnnounce_some hn]
    have huniq : ∀ j, (s.rig j).name = name → (∀ i, i ≠ j → (s.rig i).name ≠ name) → j = k := fun j hj hother =>
      Option.some.inj ((slotNamed_unique hj hother).symm.trans hn)
    by_cases hheld : (s.rig k).boundPort.isSome = true
    · rw [if_pos hheld]
      obtain ⟨hreview, hkept, hparts⟩ := hs.review (honly true) (fun hshow k => by rw [hrig]; exact hs.sound hshow k)
      rw [hreview]
      exact {
        parts := hparts
        restores := hkept
        ports := hports true
        nobody := fun hno => absurd (slotNamed_some hn) (hno k)
        named := fun j hj hother => ⟨fun i _ => hrig true i, fun _ => ⟨hport true, hrig true j⟩, fun hfree => by
          rw [← huniq j hj hother, hfree] at hheld
          cases hheld⟩ }
    · rw [if_neg hheld]
      have hb := bindSlot_binds p k (identified p name false s)
      have hv := (honly false).trans (hb.only (by rw [(honly false).stops]; exact hs.not_restoring))
      generalize bindSlot p k (identified p name false s) = v at hb hv
      obtain ⟨hreview, hkept, hparts⟩ := hs.review hv (fun hshow j => by
        by_cases hj : j = k
        · rw [hj]
          exact hb.sound
        · rw [hb.rigs j hj, hrig]
          exact hs.sound hshow j)
      rw [hreview]
      exact {
        parts := hparts
        restores := hkept
        ports := fun q hq => (hb.ports q hq).trans (hports false q hq)
        nobody := fun hno => absurd (slotNamed_some hn) (hno k)
        named := fun j hj hother => by
          obtain rfl := huniq j hj hother
          refine ⟨fun i hi => (hb.rigs i hi).trans (hrig false i), fun hbound => absurd (Option.isSome_iff_ne_none.mpr hbound) hheld,
            fun _ hsetup => ?_⟩
          obtain ⟨-, hr, hp⟩ := hb.setup ((honly false).inShow.trans hsetup)
          rw [hport false] at hp
          rw [hrig, State.now, (honly false).time] at hr
          exact ⟨hp, hr⟩ }

/-! ## The review in SHOW without a fault -/

/-- A stop state other than CLEAR takes from the rigs the pending SAFE changes at most (R115). -/
theorem rig_setStopState {x : StopState} (hx : x ≠ .clear) (j : Slot) (s : State) :
    (setStopState x s).rig j = if x.dropsSafes then (s.rig j).dropSafe else s.rig j := by
  unfold setStopState
  dsimp only
  rw [if_neg hx]
  split
  · rw [dropSafes, State.rig, tget_tmap]
    exact congrArg Rig.dropSafe (rig_notifyIf ..)
  · exact rig_notifyIf ..

theorem rigPort_setStopState {x : StopState} (hx : x ≠ .clear) (q : RigPort) (s : State) :
    (setStopState x s).rigPort q = s.rigPort q := by
  unfold setStopState
  dsimp only
  rw [if_neg hx]
  split
  · exact rigPort_notifyIf ..
  · exact rigPort_notifyIf ..

/-- The rigs are those of another state but for pending SAFE changes that are gone. -/
structure SafesDropped (s t : State) : Prop where
  rigs : ∀ j, t.rig j = s.rig j ∨ t.rig j = (s.rig j).dropSafe
  ports : ∀ q, t.rigPort q = s.rigPort q
  tables : t.tables = s.tables
  raised : ∀ i, t.stops.isRaised i = s.stops.isRaised i

theorem safesDropped_setStopState {x : StopState} (hx : x ≠ .clear) (s : State) : SafesDropped s (setStopState x s) where
  rigs j := by
    rw [rig_setStopState hx]
    split
    · exact .inr rfl
    · exact .inl rfl
  ports q := rigPort_setStopState hx q s
  tables := by simp
  raised i := by
    rw [setStopState_stops]
    rfl

theorem safesDropped_reviewRestore (s : State) : SafesDropped s (reviewRestore s) := by
  have hkeep : SafesDropped s (keepRestores s) :=
    { rigs := fun _ => .inl rfl, ports := fun _ => rfl, tables := rfl, raised := fun _ => rfl }
  by_cases h : s.stops.state = .restoring ∨ s.stops.state = .resumeArmed
  · rcases reviewRestore_restoring h with ⟨hr, -⟩ | ⟨hr, -⟩ | ⟨hr, -⟩
    · rw [hr]
      exact hkeep
    · rw [hr]
      have hdrop := safesDropped_setStopState (x := .resumeArmed) (by decide) (keepRestores s)
      exact ⟨hdrop.rigs, hdrop.ports, hdrop.tables, hdrop.raised⟩
    · rw [hr]
      have hdrop := safesDropped_setStopState (x := .restoring) (by decide) (keepRestores s)
      exact ⟨hdrop.rigs, hdrop.ports, hdrop.tables, hdrop.raised⟩
  · rw [not_or] at h
    rw [reviewRestore_elsewhere h.1 h.2]
    exact hkeep

theorem dropSafe_state (r : Rig) : r.dropSafe.state = r.state := by
  unfold Rig.dropSafe Rig.supersede
  split
  · split
    · split <;> rfl
    · rfl
  · rfl

/-- The review of a state with nothing raised and no fault leaves the ports, and each slot with no pending SAFE. -/
theorem reviewRigs_sound {s : State} (hquiet : NothingRaised s) (hfault : s.inShow = true → ∀ j, (s.rig j).state ≠ .fault) :
    (∀ q, (reviewRigs s).rigPort q = s.rigPort q) ∧
    ∀ k, (∀ x, (s.rig k).pendingChange = some x → x.kind ≠ .safe) → (reviewRigs s).rig k = s.rig k := by
  have hdrop := safesDropped_reviewRestore s
  have hfaultNow : rigFaultNow (reviewRestore s) = false := rigFaultNow_false fun hshow j hj => by
    rw [State.inShow, hdrop.tables] at hshow
    rcases hdrop.rigs j with h | h
    · rw [h] at hj
      exact hfault hshow j hj
    · rw [h, dropSafe_state] at hj
      exact hfault hshow j hj
  have hall : reviewRigs s = arrive (reviewRestore s) := by
    unfold reviewRigs
    dsimp only
    rw [hfaultNow, followCondition_of_tracked ((hdrop.raised _).trans (hquiet _))]
  have harrive : (∀ q, (arrive (reviewRestore s)).rigPort q = (reviewRestore s).rigPort q) ∧
      ∀ j, (arrive (reviewRestore s)).rig j = (reviewRestore s).rig j := by
    unfold arrive
    split
    · exact ⟨fun q => rigPort_setStopState StopState.noConfusion .., fun j => rig_setStopState StopState.noConfusion ..⟩
    · exact ⟨fun _ => rfl, fun _ => rfl⟩
  rw [hall]
  refine ⟨fun q => (harrive.1 q).trans (hdrop.ports q), fun k hk => (harrive.2 k).trans ?_⟩
  rcases hdrop.rigs k with h | h
  · exact h
  · exact h.trans (dropSafe_of_not_safe hk)

/-! ## ANNOUNCE in SHOW -/

/-- What the message of an ANNOUNCE leaves of the port. -/
def RigPortRec.heard (r : RigPortRec) : RigPortRec := { r with linkUp := true, rx := [], boundSlot := none }

/-- The state in which the port of an ANNOUNCE has been heard and is free. -/
structure Heard (p : RigPort) (s t : State) : Prop where
  only : OnlyRigs s t
  port : t.rigPort p = (s.rigPort p).heard
  ports : ∀ q, q ≠ p → t.rigPort q = s.rigPort q

/-- A port without a binding is heard, and no rig changes. -/
theorem heard_free {p : RigPort} {s : State} (h : (s.rigPort p).boundSlot = none) :
    Heard p s (unbindPort p (rigMessage p s)) ∧ ∀ j, (unbindPort p (rigMessage p s)).rig j = s.rig j := by
  have hport : (rigMessage p s).rigPort p = (s.rigPort p).heard := by
    rw [rigMessage_unbound h, rigPort_setRigPort_same, RigPortRec.heard, ← h]
  rw [unbindPort_of_none (by rw [hport]; rfl)]
  refine ⟨⟨onlyRigs_rigMessage p s, hport, fun q hq => ?_⟩, fun j => ?_⟩
  · rw [rigMessage_unbound h, rigPort_setRigPort, if_neg (Ne.symm hq)]
  · rw [rigMessage_unbound h, rig_setRigPort]

/-- A port with a binding is heard, and the binding ends without a fault (R98). -/
theorem heard_bound {p : RigPort} {k : Slot} {s : State} (h : BoundPair p k s) :
    Heard p s (unbindPort p (rigMessage p s)) ∧
    (unbindPort p (rigMessage p s)).rig k = { (s.rig k).unbound with presentAt := s.now } ∧
    ∀ j, j ≠ k → (unbindPort p (rigMessage p s)).rig j = s.rig j := by
  have hm := rigMessage_messaged h.slot
  have hpair : BoundPair p k (rigMessage p s) :=
    { slot := by rw [hm.port]; exact h.slot
      port := by rw [hm.rig]; exact h.port
      ports := fun q hq => by rw [hm.ports q hq]; exact h.ports q hq
      slots := fun j hj => by rw [hm.rigs j hj]; exact h.slots j hj }
  obtain ⟨hrig, hport⟩ := unbindPort_bound hpair
  refine ⟨⟨hm.only.trans (onlyRigs_unbindPort ..), ?_, fun q hq => ?_⟩, ?_, fun j hj => ?_⟩
  · rw [hport, if_pos rfl, hm.port]
    rfl
  · rw [hport, if_neg (Ne.symm hq), hm.ports q hq]
  · rw [hrig, if_pos rfl, hm.rig]
    rfl
  · rw [hrig, if_neg (Ne.symm hj), hm.rigs j hj]

/-- The set that a slot has joined, once its review is done: the slot's own restore stands, being under way (R179). -/
theorem mem_joined_review {k : Slot} {patch : Patch} {s t : State} {l : List (Slot × Patch)}
    (hrestoring : s.stops.state = .restoring ∨ s.stops.state = .resumeArmed) (hl : l = s.joined k patch)
    (ht : ∀ m, m ∈ t.resume.restoreSet ↔ m ∈ l ∧ ¬ (t.rig m.1).Restored m.2) (hunder : ¬ (t.rig k).Restored patch) :
    ∀ m, m ∈ t.resume.restoreSet ↔
      m = (k, patch) ∨ (m ∈ s.resume.restoreSet ∧ m.1 ≠ k ∧ ¬ (t.rig m.1).Restored m.2) := by
  intro m
  rw [ht, hl, State.joined, if_pos hrestoring, List.mem_append, List.mem_filter, List.mem_singleton, bne_iff_ne]
  constructor
  · rintro ⟨⟨hm, hk⟩ | rfl, hr⟩
    · exact .inr ⟨hm, hk, hr⟩
    · exact .inl rfl
  · rintro (rfl | ⟨hm, hk, hr⟩)
    · exact ⟨.inr rfl, hunder⟩
    · exact ⟨.inl ⟨hm, hk⟩, hr⟩

/-- An ANNOUNCE that binds in SHOW, where nothing is raised and no slot but its own is in FAULT (R98, R101, R179). -/
theorem answerAnnounce_show {p : RigPort} {k : Slot} {name : Text} {s : State} {patch : Patch} {kind : ChangeKind}
    (hn : slotNamed name s = some k) (hfree : (s.rig k).boundPort = none) (hshow : s.inShow = true) (hquiet : NothingRaised s)
    (hsound : ∀ j, j ≠ k → (s.rig j).state ≠ .fault) (hfirst : firstOf k s = (patch, kind)) :
    (answerAnnounce p name s).rigPort p =
      { (s.rigPort p).announced name false with boundSlot := some k, bit := true, lastSelect := some (patch, true) } ∧
    (answerAnnounce p name s).rig k = ((s.rig k).boundTo p s.now).sent patch kind true s.now ∧
    (Restoring k s → (answerAnnounce p name s).stops.state = .restoring ∧
      (answerAnnounce p name s).resume.target = s.resume.target ∧
      ∀ m, m ∈ (answerAnnounce p name s).resume.restoreSet ↔
        m = (k, patch) ∨ (m ∈ s.resume.restoreSet ∧ m.1 ≠ k ∧ ¬ ((answerAnnounce p name s).rig m.1).Restored m.2)) := by
  have hfirst' : firstOf k (identified p name false s) = (patch, kind) :=
    ((onlyRigs_identified p name false s).firstOf k).trans hfirst
  have hanswer : answerAnnounce p name s = reviewRigs (bindSlot p k (identified p name false s)) := by
    rw [answerAnnounce_some hn, hfree]
    rfl
  rw [hanswer]
  have honly := onlyRigs_identified p name false s
  have hport : (identified p name false s).rigPort p = (s.rigPort p).announced name false := by
    rw [rigPort_identified, if_pos rfl]
  have hrig : ∀ j, (identified p name false s).rig j = s.rig j := fun j => rig_identified ..
  have hb := bindSlot_binds p k (identified p name false s)
  have hnow : (identified p name false s).now = s.now := congrArg (·.clock) honly.time
  have hshow' := honly.inShow.trans hshow
  obtain ⟨hset, hvrig, hvport⟩ := hb.inShow hshow' patch kind hfirst'
  rw [hport] at hvrig hvport
  rw [hrig, hnow] at hvrig
  have hv : ∀ {α : Type} (f : State → α), f { s with
      rigs := (bindSlot p k (identified p name false s)).rigs
      resume := { s.resume with restoreSet := (bindSlot p k (identified p name false s)).resume.restoreSet }
      desk := (bindSlot p k (identified p name false s)).desk } = f (bindSlot p k (identified p name false s)) := by
    intro α f
    have hparts := hb.parts
    rw [honly.resume] at hparts
    generalize bindSlot p k (identified p name false s) = v at hparts
    rw [hparts]
    unfold OnlyRigs at honly
    rw [honly]
  have hvrigs : ∀ j, j ≠ k → (bindSlot p k (identified p name false s)).rig j = s.rig j := fun j hj =>
    (hb.rigs j hj).trans (hrig j)
  have hvsound : ∀ j, ((bindSlot p k (identified p name false s)).rig j).state ≠ .fault := fun j => by
    by_cases hj : j = k
    · rw [hj]
      exact hb.sound
    · rw [hvrigs j hj]
      exact hsound j hj
  have hset' : (bindSlot p k (identified p name false s)).resume.restoreSet = s.joined k patch := by
    rw [hset, State.joined, honly.stops, honly.resume]
    rfl
  generalize bindSlot p k (identified p name false s) = v at hv hvrig hvport hvrigs hvsound hset'
  have hvquiet : NothingRaised v := hquiet.congr (hv fun t => t.stops.raised).symm
  obtain ⟨hports, hrigs⟩ := reviewRigs_sound hvquiet fun _ j => hvsound j
  refine ⟨(hports p).trans hvport, (hrigs k (fun x hx => ?_)).trans hvrig, fun hr => ?_⟩
  · rw [hvrig] at hx
    cases hx
  · obtain ⟨hparts, harmed⟩ := reviewRigs_restoring hvquiet (by rw [← hv State.stops]; exact hr.state)
      (fun _ j => .inl (hvsound j)) (fun j x hx => by
        by_cases hj : j = k
        · rw [hj, hvrig] at hx
          cases hx
        · rw [hvrigs j hj] at hx
          exact hr.noSafe j x hx)
    have hsame : (reviewRigs v).rigs = v.rigs := (congrArg State.rigs hparts :)
    have hunder : ¬ ((reviewRigs v).rig k).Restored patch := by
      rw [State.rig, hsame]
      show ¬ (v.rig k).Restored patch
      rw [hvrig]
      rintro (h | h | ⟨h, -⟩) <;> cases h
    have hmem := mem_joined_review (t := reviewRigs v) hr.state hset' (fun m => by
      rw [(congrArg (fun t : State => t.resume.restoreSet) hparts :)]
      show m ∈ (keepRestores v).resume.restoreSet ↔ _
      rw [mem_keepRestores, State.rig, State.rig, hsame]) hunder
    refine ⟨?_, ?_, hmem⟩
    · rw [harmed, if_neg]
      rintro ⟨hempty, -⟩
      have hin := (hmem (k, patch)).mpr (.inl rfl)
      rw [hempty] at hin
      cases hin
    · rw [(congrArg (fun t : State => t.resume.target) hparts :)]
      exact (hv fun t => t.resume.target).symm

theorem OnlyRigs.restoresKept {s u t : State} (h : OnlyRigs s u) (ht : RestoresKept u t) : RestoresKept s t := fun m => by
  rw [ht, h.resume]

/-- What an event leaves of the parts, from the state in which the rigs have moved first. -/
theorem OnlyRigs.parts {s u t : State} (h : OnlyRigs s u)
    (ht : t = { u with rigs := t.rigs, resume := { u.resume with restoreSet := t.resume.restoreSet }, desk := t.desk }) :
    t = { s with rigs := t.rigs, resume := { s.resume with restoreSet := t.resume.restoreSet }, desk := t.desk } := by
  rw [h.resume] at ht
  unfold OnlyRigs at h
  refine ht.trans ?_
  generalize hw : t.resume.restoreSet = w
  rw [h]

/-- An ANNOUNCE on a port without a binding (R98). -/
theorem announce_free {p : RigPort} {name : Text} {s : State} (hid : isIdentity name = true)
    (hunbound : (s.rigPort p).boundSlot = none) :
    let record :=
      { s.rigPort p with linkUp := true, rx := [], boundSlot := none, identity := some name, duplicate := false, bit := false }
    let bound := fun k => { s.rig k with
      boundPort := some p, state := .ready, applied := none, sustain := .up, held := 0, inFlight := none,
      pendingChange := none, fault := none, presentAt := s.now }
    (RigsQuiet s → ∃ t, exec (.announce p name) s = .next t ∧
      t = { s with rigs := t.rigs, resume := { s.resume with restoreSet := t.resume.restoreSet }, desk := t.desk } ∧
      RestoresKept s t ∧ (∀ q, q ≠ p → t.rigPort q = s.rigPort q) ∧
      ((∀ k, (s.rig k).name ≠ name) → t.rigPort p = record ∧ ∀ j, t.rig j = s.rig j) ∧
      (∀ k, (s.rig k).name = name → (∀ j, j ≠ k → (s.rig j).name ≠ name) →
        (∀ j, j ≠ k → t.rig j = s.rig j) ∧
        ((s.rig k).boundPort ≠ none → t.rigPort p = { record with duplicate := true } ∧ t.rig k = s.rig k) ∧
        ((s.rig k).boundPort = none → s.inShow = false →
          t.rigPort p = { record with boundSlot := some k } ∧ t.rig k = bound k))) ∧
    (∀ k, (s.rig k).name = name → (∀ j, j ≠ k → (s.rig j).name ≠ name) → (s.rig k).boundPort = none →
      s.inShow = true → NothingRaised s → (∀ j, j ≠ k → (s.rig j).state ≠ .fault) →
      ∃ t, exec (.announce p name) s = .next t ∧
        (∀ patch kind, firstOf k s = (patch, kind) →
          t.rigPort p = { record with boundSlot := some k, bit := true, lastSelect := some (patch, true) } ∧
          t.rig k = (bound k).sent patch kind true s.now ∧
          (Restoring k s → t.stops.state = .restoring ∧ t.resume.target = s.resume.target ∧
            ∀ m, m ∈ t.resume.restoreSet ↔
              m = (k, patch) ∨ (m ∈ s.resume.restoreSet ∧ m.1 ≠ k ∧ ¬ (t.rig m.1).Restored m.2)))) := by
  intro record bound
  obtain ⟨hheard, hrig⟩ := heard_free hunbound
  have hexec := exec_announce (p := p) (s := s) hid
  generalize unbindPort p (rigMessage p s) = u at hheard hrig hexec
  have hnames : ∀ j, (u.rig j).name = (s.rig j).name := fun j => by rw [hrig]
  refine ⟨fun hquiet => ?_, fun k hname hother hfree hshow hnothing hsound => ?_⟩
  · have ha := answerAnnounce_quiet (p := p) (name := name) (hquiet.congr hheard.only.stops fun hshow j => by
      rw [hrig]
      exact hquiet.sound (hheard.only.inShow.symm.trans hshow) j)
    generalize answerAnnounce p name u = t at ha hexec
    refine ⟨t, hexec, hheard.only.parts ha.parts, hheard.only.restoresKept ha.restores,
      fun q hq => (ha.ports q hq).trans (hheard.ports q hq), fun hno => ?_, fun k hname hother => ?_⟩
    · obtain ⟨hport, hrigs⟩ := ha.nobody fun k => by rw [hnames]; exact hno k
      rw [hheard.port] at hport
      exact ⟨hport, fun j => (hrigs j).trans (hrig j)⟩
    · obtain ⟨hrigs, hheld, hbind⟩ := ha.named k ((hnames k).trans hname) fun j hj => by rw [hnames]; exact hother j hj
      rw [hheard.port, hrig] at hheld hbind
      rw [hheard.only.now, hheard.only.inShow] at hbind
      exact ⟨fun j hj => (hrigs j hj).trans (hrig j), hheld, hbind⟩
  · refine ⟨_, hexec, fun patch kind hfirst => ?_⟩
    obtain ⟨hport, hk, hrest⟩ := answerAnnounce_show (p := p) (name := name) (s := u) (patch := patch) (kind := kind)
      (slotNamed_unique ((hnames k).trans hname) fun j hj => by rw [hnames]; exact hother j hj) (by rw [hrig]; exact hfree)
      (hheard.only.inShow.trans hshow) (hheard.only.nothingRaised hnothing) (fun j hj => by rw [hrig]; exact hsound j hj)
      ((hheard.only.firstOf k).trans hfirst)
    rw [hheard.port] at hport
    rw [hrig, hheard.only.now] at hk
    refine ⟨hport, hk, fun hr => ?_⟩
    rw [hheard.only.resume] at hrest
    exact hrest {
      quiet := hheard.only.nothingRaised hr.quiet
      inShow := hheard.only.inShow.trans hr.inShow
      state := by rw [hheard.only.stops]; exact hr.state
      sound := fun j hj => by rw [hrig]; exact hr.sound j hj
      noSafe := fun j x hx => hr.noSafe j x ((congrArg Rig.pendingChange (hrig j)).symm.trans hx) }

/-- An ANNOUNCE on a bound port (R98): its binding ends first. -/
theorem announce_bound {p : RigPort} {name : Text} {k : Slot} {s : State} (hid : isIdentity name = true)
    (hpair : BoundPair p k s) (hquiet : RigsQuiet s) :
    let record :=
      { s.rigPort p with linkUp := true, rx := [], boundSlot := none, identity := some name, duplicate := false, bit := false }
    let bound := fun k => { s.rig k with
      boundPort := some p, state := .ready, applied := none, sustain := .up, held := 0, inFlight := none,
      pendingChange := none, fault := none, presentAt := s.now }
    ∃ t, exec (.announce p name) s = .next t ∧
      let gone := { s.rig k with
        boundPort := none, state := .absent, applied := none, inFlight := none, pendingChange := none, fault := none,
        presentAt := s.now }
      ((∀ j, (s.rig j).name ≠ name) → t.rigPort p = record ∧ t.rig k = gone ∧ ∀ j, j ≠ k → t.rig j = s.rig j) ∧
      ((s.rig k).name = name → (∀ j, j ≠ k → (s.rig j).name ≠ name) → s.inShow = false →
        t.rigPort p = { record with boundSlot := some k } ∧ t.rig k = bound k ∧ ∀ j, j ≠ k → t.rig j = s.rig j) ∧
      (∀ j, j ≠ k → (s.rig j).name = name → (∀ i, i ≠ j → (s.rig i).name ≠ name) → t.rig k = gone ∧
        ((s.rig j).boundPort ≠ none → t.rigPort p = { record with duplicate := true } ∧ t.rig j = s.rig j) ∧
        ((s.rig j).boundPort = none → s.inShow = false →
          t.rigPort p = { record with boundSlot := some j } ∧ t.rig j = bound j)) := by
  intro record bound
  obtain ⟨hheard, hgone, hrig⟩ := heard_bound hpair
  have hexec := exec_announce (p := p) (s := s) hid
  generalize unbindPort p (rigMessage p s) = u at hheard hgone hrig hexec
  have hnames : ∀ j, (u.rig j).name = (s.rig j).name := fun j => by
    by_cases hj : j = k
    · rw [hj, hgone]
      rfl
    · rw [hrig j hj]
  have ha := answerAnnounce_quiet (p := p) (name := name) (hquiet.congr hheard.only.stops fun hshow j => by
    by_cases hj : j = k
    · rw [hj, hgone]
      exact RigState.noConfusion
    · rw [hrig j hj]
      exact hquiet.sound (hheard.only.inShow.symm.trans hshow) j)
  have hnamed := fun j (hname : (s.rig j).name = name) (hother : ∀ i, i ≠ j → (s.rig i).name ≠ name) =>
    ha.named j ((hnames j).trans hname) fun i hi => by rw [hnames]; exact hother i hi
  rw [hheard.port, hheard.only.now, hheard.only.inShow] at hnamed
  have hnobody := ha.nobody
  rw [hheard.port] at hnobody
  generalize answerAnnounce p name u = t at hexec hnamed hnobody
  refine ⟨t, hexec, fun hno => ?_, fun hname hother hsetup => ?_, fun j hj hname hother => ?_⟩
  · obtain ⟨hport, hrigs⟩ := hnobody fun j => by rw [hnames]; exact hno j
    exact ⟨hport, (hrigs k).trans hgone, fun j hj => (hrigs j).trans (hrig j hj)⟩
  · obtain ⟨hrigs, -, hbind⟩ := hnamed k hname hother
    rw [hgone] at hbind
    obtain ⟨hport, hk⟩ := hbind rfl hsetup
    exact ⟨hport, hk, fun j hj => (hrigs j hj).trans (hrig j hj)⟩
  · obtain ⟨hrigs, hheld, hbind⟩ := hnamed j hname hother
    rw [hrig j hj] at hheld hbind
    exact ⟨(hrigs k (Ne.symm hj)).trans hgone, hheld, hbind⟩

end Sys2Proof.Machine
end

section
/-!
PROOFS. BIND and UNBIND (R99, R100), as a PROG port asks for them.
-/

namespace Sys2Proof.Machine
set_option Elab.async false

theorem onlyRigs_validFrame (p : DeskPort) (s : State) : OnlyRigs s (validFrame p s) := by apply state_ext <;> simp

theorem rig_validFrame (p : DeskPort) (k : Slot) (s : State) : (validFrame p s).rig k = s.rig k := by simp [State.rig]

theorem rigPort_validFrame (p : DeskPort) (q : RigPort) (s : State) : (validFrame p s).rigPort q = s.rigPort q := by
  simp [State.rigPort]

/-- A desk's frame leaves the quiet of a state. -/
theorem RigsQuiet.validFrame {s : State} (hs : RigsQuiet s) (p : DeskPort) : RigsQuiet (validFrame p s) :=
  hs.congr (onlyRigs_validFrame p s).stops fun hshow k => by
    rw [rig_validFrame]
    exact hs.sound ((onlyRigs_validFrame p s).inShow.symm.trans hshow) k

/-- What a request leaves of a quiet state, once what moved only its rigs has been reviewed. -/
theorem RigsQuiet.reviewed {s v t : State} (hs : RigsQuiet s) (hv : OnlyRigs s v)
    (hsound : s.inShow = true → ∀ k, (v.rig k).state ≠ .fault) (ht : t = { reviewRigs v with desk := t.desk }) :
    t = { s with rigs := t.rigs, resume := { s.resume with restoreSet := t.resume.restoreSet }, desk := t.desk } ∧
    RestoresKept s t ∧ (∀ j, t.rig j = v.rig j) ∧ ∀ q, t.rigPort q = v.rigPort q := by
  obtain ⟨hreview, hkept, hparts⟩ := hs.review hv hsound
  rw [hreview] at ht
  have hrigs : t.rigs = v.rigs := (congrArg State.rigs ht :)
  have hset : t.resume.restoreSet = (keepRestores v).resume.restoreSet := (congrArg (fun t : State => t.resume.restoreSet) ht :)
  have hrig : ∀ j, t.rig j = v.rig j := fun j => by rw [State.rig, hrigs]; rfl
  refine ⟨?_, fun m => ?_, hrig, fun q => by rw [State.rigPort, hrigs]; rfl⟩
  · rw [hrigs, hset]
    refine ht.trans ?_
    rw [hparts]
  · rw [hset, hrig]
    exact hkept m

theorem ownBind_range {b : Nat × Nat} (h : 8 ≤ b.1 ∨ 8 ≤ b.2) (s : State) : ownBind b s = refuse .range s := by
  unfold ownBind
  rcases h with h | h
  · rw [idx?_none h]
  · rw [idx?_none h]
    cases idx? 8 b.1 <;> rfl

theorem ownBind_eq (p : RigPort) (k : Slot) (s : State) :
    ownBind (p.val, k.val) s = if (s.rig k).boundPort.isSome then refuse .held s else
      accept (reviewRigs (bindSlot p k (setRigPort p { (unbindPort p s).rigPort p with duplicate := false } (unbindPort p s)))) := by
  unfold ownBind
  rw [idx?_val, idx?_val]

/-- BIND (R99, R101). -/
theorem bind_answered {r : Req} {a b : Byte} {s : State} (hfree : Free r s) (hrole : FromRole .prog r s) :
    ∃ t, exec (.bind r [a, b]) s = .next t ∧
      ((8 ≤ a.toNat ∨ 8 ≤ b.toNat) → t = { s with desk := t.desk } ∧ Served r .range [] 0 s t) ∧
      (∀ (p : RigPort) (k : Slot), a = byteOf p.val → b = byteOf k.val →
        ((s.rig k).boundPort ≠ none → t = { s with desk := t.desk } ∧ Served r .held [] 0 s t) ∧
        ((s.rig k).boundPort = none → (s.rigPort p).boundSlot = none → RigsQuiet s →
          Replied r .ok [] t ∧
          t = { s with rigs := t.rigs, resume := { s.resume with restoreSet := t.resume.restoreSet }, desk := t.desk } ∧
          RestoresKept s t ∧ (∀ j, j ≠ k → t.rig j = s.rig j) ∧ (∀ q, q ≠ p → t.rigPort q = s.rigPort q) ∧
          let port := { s.rigPort p with boundSlot := some k, duplicate := false }
          let bound := { s.rig k with
            boundPort := some p, state := .ready, applied := none, sustain := .up, held := 0, inFlight := none,
            pendingChange := none, fault := none, presentAt := s.now }
          (s.inShow = false → t.rigPort p = port ∧ t.rig k = bound) ∧
          (∀ patch kind, s.inShow = true → firstOf k s = (patch, kind) →
            t.rigPort p = { port with bit := !(s.rigPort p).bit, lastSelect := some (patch, !(s.rigPort p).bit) } ∧
            t.rig k = bound.sent patch kind (!(s.rigPort p).bit) s.now))) := by
  have hquiet := fun (c : ReplyCode) (ho : ownBind (a.toNat, b.toNat) (validFrame r.port s) = refuse c (validFrame r.port s)) =>
    command_quiet (roles := [.prog]) (decode := payloadBind) (payload := [a, b]) (owner := ownBind) hfree hrole rfl rfl ho
  refine ⟨command r [.prog] payloadBind [a, b] ownBind s, rfl, fun hrange => hquiet .range (ownBind_range hrange _), ?_⟩
  rintro p k rfl rfl
  have howner := ownBind_eq p k (validFrame r.port s)
  rw [rig_validFrame] at howner
  rw [toNat_byteOf_val (by decide), toNat_byteOf_val (by decide)] at hquiet
  refine ⟨fun hheld => hquiet .held (howner.trans (if_pos (Option.isSome_iff_ne_none.mpr hheld))), fun hslot hport hs => ?_⟩
  rw [hslot, unbindPort_of_none ((congrArg _ (rigPort_validFrame ..)).trans hport)] at howner
  have hframe := onlyRigs_validFrame r.port s
  have hvq := hs.validFrame r.port
  have hreply := fun w => command_replied (roles := [.prog]) (decode := payloadBind) (payload := [byteOf p.val, byteOf k.val])
    (owner := ownBind) (code := .ok) (value := []) (u := w) (a := ((byteOf p.val).toNat, (byteOf k.val).toNat)) hfree hrole rfl rfl
  rw [toNat_byteOf_val (by decide), toNat_byteOf_val (by decide)] at hreply
  obtain ⟨hstate, hreplied⟩ := hreply _ howner
  have honly : OnlyRigs s (setRigPort p { (validFrame r.port s).rigPort p with duplicate := false } (validFrame r.port s)) :=
    hframe.trans (onlyRigs_setRigPort ..)
  have hp : (setRigPort p { (validFrame r.port s).rigPort p with duplicate := false } (validFrame r.port s)).rigPort p =
      { s.rigPort p with duplicate := false } := by rw [rigPort_setRigPort_same, rigPort_validFrame]
  have hps : ∀ q, q ≠ p →
      (setRigPort p { (validFrame r.port s).rigPort p with duplicate := false } (validFrame r.port s)).rigPort q = s.rigPort q :=
    fun q hq => by rw [rigPort_setRigPort, if_neg (Ne.symm hq), rigPort_validFrame]
  have hr : ∀ j, (setRigPort p { (validFrame r.port s).rigPort p with duplicate := false } (validFrame r.port s)).rig j = s.rig j :=
    fun j => by rw [rig_setRigPort, rig_validFrame]
  generalize setRigPort p { (validFrame r.port s).rigPort p with duplicate := false } (validFrame r.port s) = u
    at hstate honly hp hps hr
  have hb := bindSlot_binds p k u
  have hv := honly.trans (hb.only (by rw [honly.stops]; exact hs.not_restoring))
  generalize bindSlot p k u = v at hb hv hstate
  generalize command r [.prog] payloadBind [byteOf p.val, byteOf k.val] ownBind s = t at hstate hreplied
  obtain ⟨hparts, hkept, hrig, hrigPort⟩ := hs.reviewed hv (fun hshow j => by
    by_cases hj : j = k
    · rw [hj]
      exact hb.sound
    · rw [hb.rigs j hj, hr]
      exact hs.sound hshow j) hstate
  refine ⟨hreplied, hparts, hkept, fun j hj => ?_, fun q hq => ?_, fun hsetup => ?_, fun patch kind hshow hfirst => ?_⟩
  · rw [hrig, hb.rigs j hj, hr]
  · rw [hrigPort, hb.ports q hq, hps q hq]
  · obtain ⟨-, hk, hport'⟩ := hb.setup (honly.inShow.trans hsetup)
    rw [hp] at hport'
    rw [hr, honly.now] at hk
    exact ⟨(hrigPort p).trans hport', (hrig k).trans hk⟩
  · obtain ⟨-, hk, hport'⟩ := hb.inShow (honly.inShow.trans hshow) patch kind ((honly.firstOf k).trans hfirst)
    rw [hp] at hport' hk
    rw [hr, honly.now] at hk
    exact ⟨(hrigPort p).trans hport', (hrig k).trans hk⟩

/-! ## UNBIND -/

theorem ownUnbind_range {n : Nat} (h : 8 ≤ n) (s : State) : ownUnbind n s = refuse .range s := by
  rw [ownUnbind, idx?_none h]

theorem ownUnbind_eq (k : Slot) (s : State) :
    ownUnbind k.val s = if (s.rig k).state = .absent then accept s else accept (reviewRigs (unbindSlot k s)) := by
  rw [ownUnbind, idx?_val]

/-- A stop source is lowered where no stop record stands: nothing follows. -/
theorem lowerCondition_unstacked {i : StopSource} {s : State} (h : s.stops.stack = []) :
    lowerCondition i s = setRaised i false s := by
  unfold lowerCondition
  split
  · rw [popTest_eq, setRaised_stops, h]
    exact if_pos rfl
  · next hr =>
    have hr := Bool.eq_false_iff.mpr hr
    have hsame : tput s.stops.raised i.index false = s.stops.raised := by
      rw [← hr]
      exact tput_tget ..
    simp only [setRaised, hr, hsame]
    rfl

/-- The states in which a binding's end is followed by the lowering of RIG_FAULT alone. -/
theorem reviewRigs_fault_gone {s : State} (hstack : s.stops.stack = [])
    (hstate : s.stops.state = .clear ∨ s.stops.state = .awaitResume ∨ s.stops.state = .halted)
    (hsound : ∀ j, (s.rig j).state ≠ .fault) : reviewRigs s = setRaised .rigFault false (keepRestores s) := by
  have hnot : s.stops.state ≠ .restoring ∧ s.stops.state ≠ .resumeArmed ∧ s.stops.state ≠ .stopping := by
    rcases hstate with h | h | h <;> rw [h] <;> decide
  have hfollow : followCondition .rigFault (rigFaultNow (keepRestores s)) (keepRestores s) =
      setRaised .rigFault false (keepRestores s) := by
    rw [rigFaultNow_false (s := keepRestores s) fun _ => hsound]
    exact lowerCondition_unstacked hstack
  unfold reviewRigs
  dsimp only
  rw [reviewRestore_elsewhere hnot.1 hnot.2.1, hfollow]
  refine arrive_elsewhere ?_
  rw [setRaised_stops]
  exact hnot.2.2

/-- UNBIND (R100). -/
theorem unbind_answered {r : Req} {a : Byte} {s : State} (hfree : Free r s) (hrole : FromRole .prog r s) :
    ∃ t, exec (.unbind r [a]) s = .next t ∧
      (8 ≤ a.toNat → t = { s with desk := t.desk } ∧ Served r .range [] 0 s t) ∧
      (∀ k : Slot, a = byteOf k.val → (s.rig k).state = .absent →
        t = { s with desk := t.desk } ∧ Served r .ok [] 0 s t) ∧
      (∀ k : Slot, a = byteOf k.val → (s.rig k).state ≠ .absent →
        let gone := { s.rig k with
          boundPort := none, state := .absent, applied := none, inFlight := none, pendingChange := none, fault := none }
        (∀ p : RigPort, BoundPair p k s → RigsQuiet s →
          Replied r .ok [] t ∧
          t = { s with rigs := t.rigs, resume := { s.resume with restoreSet := t.resume.restoreSet }, desk := t.desk } ∧
          RestoresKept s t ∧ t.rigPort p = { s.rigPort p with boundSlot := none } ∧ t.rig k = gone ∧
          (∀ j, j ≠ k → t.rig j = s.rig j) ∧ (∀ q, q ≠ p → t.rigPort q = s.rigPort q)) ∧
        ((s.rig k).state = .fault → (s.rig k).boundPort = none → s.stops.stack = [] →
          (s.stops.state = .clear ∨ s.stops.state = .awaitResume ∨ s.stops.state = .halted) →
          (∀ j, j ≠ k → (s.rig j).state ≠ .fault) →
          Replied r .ok [] t ∧ t.rig k = gone ∧ (∀ j, j ≠ k → t.rig j = s.rig j) ∧
          (∀ q, t.rigPort q = s.rigPort q) ∧ t.stops.isRaised .rigFault = false ∧ t.stops.state = s.stops.state) ∧
        (∀ p : RigPort, BoundPair p k s → Restoring k s →
          t.rig k = gone ∧ RestoresKept s t ∧ ArmedWhenRestored t ∧ t.resume.target = s.resume.target)) := by
  have hquiet := fun (c : ReplyCode) (ho : ownUnbind a.toNat (validFrame r.port s) = refuse c (validFrame r.port s)) =>
    command_quiet (roles := [.prog]) (decode := payload1) (payload := [a]) (owner := ownUnbind) hfree hrole rfl rfl ho
  refine ⟨command r [.prog] payload1 [a] ownUnbind s, rfl, fun hrange => hquiet .range (ownUnbind_range hrange _), ?_, ?_⟩
  · rintro k rfl habsent
    rw [toNat_byteOf_val (by decide)] at hquiet
    exact hquiet .ok ((ownUnbind_eq ..).trans (if_pos (by rw [rig_validFrame]; exact habsent)))
  rintro k rfl hthere gone
  have howner := (ownUnbind_eq k (validFrame r.port s)).trans (if_neg (by rw [rig_validFrame]; exact hthere))
  have hreply := fun w => command_replied (roles := [.prog]) (decode := payload1) (payload := [byteOf k.val])
    (owner := ownUnbind) (code := .ok) (value := []) (u := w) (a := (byteOf k.val).toNat) hfree hrole rfl rfl
  rw [toNat_byteOf_val (by decide)] at hreply
  obtain ⟨hstate, hreplied⟩ := hreply _ howner
  have hv := (onlyRigs_validFrame r.port s).trans (onlyRigs_unbindSlot k (validFrame r.port s))
  have hk : (unbindSlot k (validFrame r.port s)).rig k = gone := by
    rw [rig_unbindSlot, if_pos rfl, rig_validFrame]
    rfl
  have hrigs : ∀ j, j ≠ k → (unbindSlot k (validFrame r.port s)).rig j = s.rig j := fun j hj => by
    rw [rig_unbindSlot, if_neg (Ne.symm hj), rig_validFrame]
  have hports : ∀ q, (unbindSlot k (validFrame r.port s)).rigPort q =
      if (s.rig k).boundPort = some q then { s.rigPort q with boundSlot := none } else s.rigPort q := fun q => by
    rw [rigPort_unbindSlot, rig_validFrame, rigPort_validFrame]
  generalize unbindSlot k (validFrame r.port s) = v at hstate hv hk hrigs hports
  generalize command r [.prog] payload1 [byteOf k.val] ownUnbind s = t at hstate hreplied
  have hsound : (∀ j, j ≠ k → (s.rig j).state ≠ .fault) → ∀ j, (v.rig j).state ≠ .fault := fun hs j => by
    by_cases hj : j = k
    · rw [hj, hk]
      exact RigState.noConfusion
    · rw [hrigs j hj]
      exact hs j hj
  refine ⟨fun p hpair hs => ?_, fun _ hunbound hstack hstop hother => ?_, fun p hpair hr => ?_⟩
  · obtain ⟨hparts, hkept, hrig, hrigPort⟩ := hs.reviewed hv (fun hshow => hsound fun j _ => hs.sound hshow j) hstate
    refine ⟨hreplied, hparts, hkept, ?_, (hrig k).trans hk, fun j hj => (hrig j).trans (hrigs j hj), fun q hq => ?_⟩
    · rw [hrigPort, hports, if_pos hpair.port]
    · rw [hrigPort, hports, hpair.port, if_neg fun h => hq (Option.some.inj h).symm]
  · rw [reviewRigs_fault_gone (by rw [hv.stops]; exact hstack) (by rw [hv.stops]; exact hstop) (hsound hother)] at hstate
    have hsame : t.rigs = v.rigs := (congrArg State.rigs hstate :).trans (by simp)
    have hstops : t.stops = (setRaised .rigFault false (keepRestores v)).stops := (congrArg State.stops hstate :)
    refine ⟨hreplied, ?_, fun j hj => ?_, fun q => ?_, ?_, ?_⟩
    · rw [State.rig, hsame]
      exact hk
    · rw [State.rig, hsame]
      exact hrigs j hj
    · rw [State.rigPort, hsame]
      exact (hports q).trans (by rw [hunbound, if_neg (by simp)])
    · rw [hstops, isRaised_setRaised, if_pos rfl]
    · rw [hstops, setRaised_stops]
      show v.stops.state = _
      rw [hv.stops]
  · obtain ⟨hparts, harmed⟩ := reviewRigs_restoring (hv.nothingRaised hr.quiet) (by rw [hv.stops]; exact hr.state)
      (fun _ j => .inl (hsound hr.sound j)) (fun j x hx => by
        by_cases hj : j = k
        · rw [hj, hk] at hx
          cases hx
        · rw [hrigs j hj] at hx
          exact hr.noSafe j x hx)
    have hsame : t.rigs = v.rigs := (congrArg State.rigs hstate :).trans (congrArg State.rigs hparts :)
    have hset : t.resume.restoreSet = (keepRestores v).resume.restoreSet :=
      (congrArg (fun t : State => t.resume.restoreSet) hstate :).trans (congrArg (fun t : State => t.resume.restoreSet) hparts :)
    refine ⟨?_, restoresKept_of (by rw [hv.resume]) hset hsame, ?_, ?_⟩
    · rw [State.rig, hsame]
      exact hk
    · rw [hstate]
      exact harmed
    · rw [(congrArg (fun t : State => t.resume.target) hstate :), (congrArg (fun t : State => t.resume.target) hparts :)]
      show v.resume.target = _
      rw [hv.resume]

/-- Settles O39: an ANNOUNCE on a free and on a bound port, a BIND and an UNBIND. -/
theorem rigsBoundAndUnbound : Obligations.RigsBoundAndUnbound :=
  ⟨fun _ _ _ hid => ⟨fun hunbound _ => announce_free hid hunbound, fun _ hpair hquiet => announce_bound hid hpair hquiet⟩,
    fun _ _ _ _ hfree hrole => ⟨bind_answered hfree hrole, unbind_answered hfree hrole⟩⟩

end Sys2Proof.Machine
end

section
/-!
PROOFS. The frame events of a camera (R123 to R129): the end of a frame that brings its camera back from LOST can end a stop
run, and the armed cue that is then taken starts the click, whose first beat joins the camera's mark queue.
-/

namespace Sys2Proof.Machine
set_option Elab.async false

/-- A cue that starts the click with no count-in. -/
def startingCue : Cue :=
  { number := 1, label := [], scoreBar := none, tempo := .keep, meter := none, click := .start 0, vamp := none,
    boundary := .nextBar, changes := [], video := none }

/-- A LOST camera one good frame short of OK, its frame being written; the CAMERA_LOST that it holds raised is the one record,
acknowledged, of an advisory run, and a cue is armed with the click IDLE. -/
def recovering : State :=
  let s := State.reset
  let camera := { s.picture.camA with
    enabled := true, state := .lost, frameOpen := true, goodRun := 1
    ring := tput s.picture.camA.ring 0 { tget s.picture.camA.ring 0 with state := .filling } }
  { s with
    picture := s.picture.setCam .a camera
    tables := { s.tables with session := .inShow, cues := [startingCue] }
    pointer := { s.pointer with armed := some startingCue.number }
    stops := { s.stops with
      raised := tput s.stops.raised StopSource.cameraLost.index true, state := .stopped
      stack := [⟨.cameraLost, 5, true⟩], runAdvisory := true } }

/-- The mark queue of camera A after a command. -/
def marksAfter : Result → List MarkEntry
  | .next t => (t.picture.cam .a).marks
  | _ => []

/-- The end of the frame leaves the first beat of the click in a mark queue that stood empty. -/
theorem marksAfter_recovering : marksAfter (exec (.frameEnd .a) recovering) = [⟨4800 * 65536, 4800, true⟩] := by
  decide

/-- Refutes O41: the marks that a frame end leaves are not those of the queue it found, where the camera's return to OK pops
the last record of an advisory run (R130, R175) and an armed cue then starts the click (R83, R126). -/
theorem not_frameEventsTaken : ¬ Obligations.FrameEventsTaken := by
  unfold Obligations.FrameEventsTaken
  intro h
  obtain ⟨-, -, -, hframe⟩ := h .a recovering
  obtain ⟨⟨t, hexec, hfilled, -⟩, -⟩ := hframe rfl rfl
  obtain ⟨-, -, hmarks, -⟩ := hfilled 0 rfl (by decide)
  have hafter := marksAfter_recovering
  rw [hexec] at hafter
  cases hafter.symm.trans hmarks

end Sys2Proof.Machine
end

section
/-!
PROOFS. The loss of a camera and the writes of its enabled item (R122, R128, R130): a camera's record but for its marks, the
condition CAMERA_LOST outside SHOW, and the freeing of a disabled camera's slots.
-/

namespace Sys2Proof.Machine
set_option Elab.async false

/-! ## A camera's record but for its marks -/

/-- The camera's record stands but for its mark queue. -/
def CamStands (k : Camera) (c : CameraRec) (s : State) : Prop := s.picture.cam k = { c with marks := (s.picture.cam k).marks }

theorem CamStands.congr {k : Camera} {c : CameraRec} {s t : State} (h : CamStands k c s) (hp : t.picture = s.picture) :
    CamStands k c t := by
  unfold CamStands
  rw [hp]
  exact h

theorem camStands_untimed (k : Camera) (c : CameraRec) : Untimed (CamStands k c) where
  notify _ _ hs := hs.congr rfl
  time _ _ hs := hs.congr rfl
  pointer _ _ hs := hs.congr rfl
  overlay _ _ hs := hs.congr rfl
  resume _ _ hs := hs.congr rfl
  clicks _ _ _ _ hs := hs.congr rfl
  rigs _ _ _ hs := hs.congr rfl
  picture x s hx hs := by
    show x.cam k = { c with marks := (x.cam k).marks }
    rw [hx.cam k, hs]
  stops _ _ _ hs := hs.congr rfl
  anyTempo _ _ hs := hs.congr rfl
  anyBeats _ _ hs := hs.congr rfl
  noHoldOff _ hs := hs.congr rfl
  anyStops _ _ hs := hs.congr rfl
  session _ _ hs := hs.congr rfl

theorem Untimed.of_followCondition {I : State → Prop} (h : Untimed I) (i : StopSource) (b : Bool) {s : State} (hs : I s) :
    I (followCondition i b s) :=
  ite_keeps (h.keptByCues.of_raiseCondition i hs) (h.of_lowerCondition i hs)

/-! ## The condition outside SHOW -/

/-- A source that is raised already, or lowered already, is set without a change. -/
theorem setRaised_same {i : StopSource} {b : Bool} {s : State} (h : s.stops.isRaised i = b) : setRaised i b s = s := by
  have hsame : tput s.stops.raised i.index b = s.stops.raised := by
    rw [← h]
    exact tput_tget ..
  simp only [setRaised, hsame, h]
  cases b <;> rfl

/-- In SETUP, and without a record to pop, a condition is raised or lowered and nothing follows. -/
theorem followCondition_setup {i : StopSource} {b : Bool} {s : State} (hsetup : s.inShow = false)
    (hstack : b = true ∨ s.stops.stack = []) : followCondition i b s = setRaised i b s := by
  unfold followCondition
  cases b with
  | true =>
    unfold raiseCondition
    rw [if_pos rfl]
    split
    · next h => exact (setRaised_same h).symm
    · unfold afterRaising
      have hstill : (setRaised i true s).inShow = false := by simpa [State.inShow] using hsetup
      rw [hstill]
      rfl
  | false => exact lowerCondition_unstacked (hstack.resolve_left Bool.noConfusion)

theorem setRaised_parts (i : StopSource) (b : Bool) (s : State) :
    setRaised i b s = { s with stops := { s.stops with raised := tput s.stops.raised i.index b }, desk := (setRaised i b s).desk } := by
  apply state_ext <;> simp

/-! ## The expiry (R128) -/

theorem filling_unique {c : CameraRec} {i : Fin 6} (hi : (c.slot i).state = .filling)
    (hother : ∀ j, j ≠ i → (c.slot j).state ≠ .filling) : c.filling = some i := by
  cases hf : c.filling with
  | none => exact absurd hi (filling_none hf i)
  | some j => rw [not_not.mp fun hj => hother j hj (filling_some hf)]

theorem filling_eq_none {c : CameraRec} (h : ∀ i, (c.slot i).state ≠ .filling) : c.filling = none := by
  cases hf : c.filling with
  | none => rfl
  | some j => exact absurd (filling_some hf) (h j)

theorem freeFilling_of_unique {c : CameraRec} {i : Fin 6} (hi : (c.slot i).state = .filling)
    (hother : ∀ j, j ≠ i → (c.slot j).state ≠ .filling) : c.freeFilling = c.setSlot i { c.slot i with state := .free } := by
  rw [CameraRec.freeFilling, filling_unique hi hother]

/-- The freeing of a FILLING slot leaves all of a camera's record but its ring. -/
theorem freeFilling_ring (c : CameraRec) : c.freeFilling = { c with ring := c.freeFilling.ring } := by
  unfold CameraRec.freeFilling
  split <;> rfl

/-- What an expiry leaves of a camera's record. -/
theorem expire_eq (c : CameraRec) :
    c.expire = { c with
      state := .lost, goodRun := 0, frameOpen := false, ring := c.freeFilling.ring
      aborts := if c.filling = none then c.aborts else countUp c.aborts } := by
  unfold CameraRec.expire
  dsimp only
  cases hf : c.filling with
  | none =>
    rw [CameraRec.freeFilling, hf]
    rfl
  | some i =>
    dsimp only
    rw [freeFilling_ring c]
    rfl

theorem expired_iff (c : CameraRec) (rate : VideoRate) (now : Nat) :
    c.expired rate now = true ↔ c.state = .ok ∧ c.lastStart + (match rate with
      | .fps50 => 2880
      | .fps5994 => 2402
      | .fps60 => 2400) ≤ now := by
  unfold CameraRec.expired
  rw [Bool.and_eq_true, beq_iff_eq, decide_eq_true_eq]
  cases rate <;> rfl

theorem anyLost_of_lost {p : Picture} {k : Camera} (he : (p.cam k).enabled = true) (hl : (p.cam k).state = .lost) :
    p.anyLost = true := by
  unfold Picture.anyLost
  cases k
  · rw [show p.camA.enabled = true from he, show p.camA.state = .lost from hl]
    rfl
  · rw [show p.camB.enabled = true from he, show p.camB.state = .lost from hl]
    exact Bool.or_true _

/-- An expiry, where it has come: CAMERA_LOST follows on the state in which the camera is LOST. -/
theorem exec_cameraExpiry {k : Camera} {s : State} (h : (s.picture.cam k).expired s.time.rate s.now = true) :
    exec (.cameraExpiry k) s =
      .next (reviewCameras (notify .camera { s with picture := s.picture.setCam k (s.picture.cam k).expire })) := by
  have hchanged : ((s.picture.cam k).state != (s.picture.cam k).expire.state) = true := by
    rw [((expired_iff _ _ _).mp h).1, expire_eq]
    rfl
  show Host.Outcome.next (if _ then putCamera k (s.picture.cam k).expire s else s) = _
  rw [if_pos h, putCamera, hchanged]
  rfl

/-- An OK camera's expiry (R128, R130). -/
theorem camera_expires {k : Camera} {s : State} (h : (s.picture.cam k).expired s.time.rate s.now = true) :
    let c := s.picture.cam k
    ∃ t, exec (.cameraExpiry k) s = .next t ∧
      (t.picture.cam k).state = .lost ∧ (t.picture.cam k).goodRun = 0 ∧ (t.picture.cam k).frameOpen = false ∧
      (t.picture.cam k).ready = c.ready ∧ (c.enabled = true → t.stops.isRaised .cameraLost = true) ∧
      (s.inShow = false → c.enabled = true → t = { s with
        picture := s.picture.setCam k (t.picture.cam k),
        stops := { s.stops with raised := tput s.stops.raised StopSource.cameraLost.index true }, desk := t.desk }) ∧
      ((∀ i, (c.slot i).state ≠ .filling) → (t.picture.cam k).aborts = c.aborts ∧ (t.picture.cam k).ring = c.ring) ∧
      (∀ i, (c.slot i).state = .filling → (∀ j, j ≠ i → (c.slot j).state ≠ .filling) →
        (t.picture.cam k).aborts = countUp c.aborts ∧
        (t.picture.cam k).ring = tput c.ring i { c.slot i with state := .free }) := by
  intro c
  have hcam : (notify .camera { s with picture := s.picture.setCam k c.expire }).picture.cam k = c.expire := by
    rw [(notify_keeps _ _).2.2.2.2.2.2.2.1, cam_setCam, if_pos rfl]
  have hlost : c.enabled = true → (notify .camera { s with picture := s.picture.setCam k c.expire }).picture.anyLost = true :=
    fun he => anyLost_of_lost (k := k) (by rw [hcam, expire_eq]; exact he) (by rw [hcam, expire_eq])
  have hstands : CamStands k c.expire (notify .camera { s with picture := s.picture.setCam k c.expire }) := by
    rw [CamStands, hcam]
  refine ⟨_, exec_cameraExpiry h, ?_⟩
  have hafter := (camStands_untimed k c.expire).of_followCondition .cameraLost
    (notify .camera { s with picture := s.picture.setCam k c.expire }).picture.anyLost hstands
  have hraised : c.enabled = true → (reviewCameras (notify .camera { s with picture := s.picture.setCam k c.expire })).stops.isRaised
      .cameraLost = true := fun he => by
    rw [reviewCameras, hlost he]
    exact isRaised_raiseCondition rfl _
  have hsetup : s.inShow = false → c.enabled = true →
      reviewCameras (notify .camera { s with picture := s.picture.setCam k c.expire }) =
        setRaised .cameraLost true (notify .camera { s with picture := s.picture.setCam k c.expire }) := fun hs he => by
    rw [reviewCameras, hlost he]
    exact followCondition_setup hs (.inl rfl)
  have hset : s.inShow = false → c.enabled = true →
      (reviewCameras (notify .camera { s with picture := s.picture.setCam k c.expire })).picture.cam k = c.expire := fun hs he => by
    rw [hsetup hs he]
    simp
  show _ ∧ _
  rw [← reviewCameras] at hafter
  generalize reviewCameras (notify .camera { s with picture := s.picture.setCam k c.expire }) = t at hafter hraised hsetup hset
  rw [CamStands, expire_eq] at hafter
  rw [hafter]
  refine ⟨rfl, rfl, rfl, rfl, hraised, fun hs he => ?_, fun hno => ?_, fun i hi hother => ?_⟩
  · rw [← hafter, hset hs he]
    refine (hsetup hs he).trans ?_
    rw [setRaised_parts, ← hsetup hs he]
    rfl
  · dsimp only
    rw [if_pos (filling_eq_none hno), CameraRec.freeFilling, filling_eq_none hno]
    exact ⟨rfl, rfl⟩
  · dsimp only
    rw [if_neg (by rw [filling_unique hi hother]; simp), freeFilling_of_unique hi hother]
    exact ⟨rfl, rfl⟩

/-! ## The enabled item (R122) -/

/-- The kinds that a write of the enabled item makes pending: CAMERA and TABLE, and STOP where CAMERA_LOST changes. -/
def enabledKinds (lost : Bool) (s : State) : BitVec 8 := 0x50 ||| kindIf (s.stops.isRaised .cameraLost != lost) .stop

/-- A camera's record after a write of its enabled item. -/
def CameraRec.enabledAs (c : CameraRec) (b : Bool) : CameraRec := if b then c.enable else c.disable

/-- The byte of a camera names that camera (R206). -/
theorem cameraOfInstance_code (k : Camera) : cameraOfInstance (cameraCode k).toNat = k := by cases k <;> rfl

/-- A camera's enabled item from a PROG port reaches its owner. -/
theorem reaches_cameraEnabled {r : Req} {k : Camera} {rest : List Byte} {s : State} (h : Free r s) (hrole : FromRole .prog r s) :
    Reaches .cameraEnabled .swap r (cameraCode k) rest s :=
  Reaches.swap (l := [.prog]) rfl (by cases k <;> decide) h hrole rfl

/-- A write of the enabled item that changes it, in SETUP, where a condition that it lowers finds no record to pop. -/
theorem cameraEnabled_written {r : Req} {k : Camera} {b : Bool} {s : State} (h : Free r s) (hrole : FromRole .prog r s)
    (hsetup : s.inShow = false) (hne : (s.picture.cam k).enabled ≠ b)
    (hstack : (s.picture.setCam k ((s.picture.cam k).enabledAs b)).anyLost = true ∨ s.stops.stack = []) :
    let t := itemRequest .cameraEnabled .swap r (cameraCode k) (boolByte b) s
    let lost := (s.picture.setCam k ((s.picture.cam k).enabledAs b)).anyLost
    t = { s with
      picture := s.picture.setCam k ((s.picture.cam k).enabledAs b)
      stops := { s.stops with raised := tput s.stops.raised StopSource.cameraLost.index lost }, desk := t.desk } ∧
    Served r .ok (boolByte (s.picture.cam k).enabled) (enabledKinds lost s) s t := by
  intro t lost
  have hreach := reaches_cameraEnabled (k := k) (rest := boolByte b) h hrole
  have hpic : (validFrame r.port s).picture = s.picture := by simp
  have howner : (Item.cameraEnabled).store .swap (cameraCode k).toNat (boolByte b) (validFrame r.port s) =
      accept (setRaised .cameraLost lost (notify .table (notify .camera
        { validFrame r.port s with picture := s.picture.setCam k ((s.picture.cam k).enabledAs b) }))) := by
    show writeCameraEnabled (cameraOfInstance (cameraCode k).toNat) (boolByte b) (validFrame r.port s) = _
    have hbyte : whole rdBool (boolByte b) = some b := by cases b <;> rfl
    rw [cameraOfInstance_code, writeCameraEnabled, unlessShow_setup (by simpa [State.inShow] using hsetup), inRange_some hbyte]
    dsimp only
    rw [hpic, if_neg hne]
    refine congrArg accept ?_
    rw [reviewCameras]
    refine (followCondition_setup ?_ ?_).trans ?_
    · simpa [State.inShow] using hsetup
    · simpa [CameraRec.enabledAs] using hstack
    · simp [CameraRec.enabledAs, lost]
  obtain ⟨hstate, hserved⟩ := write_served (enabledKinds lost s) hreach.free hreach.form hreach.inst hreach.flag hreach.writable
    hreach.may howner (fun q => by
      have hport : (notify .table (notify .camera
          { validFrame r.port s with picture := s.picture.setCam k ((s.picture.cam k).enabledAs b) })).port q =
          ((validFrame r.port s).port q).addKinds 0x50 := by
        rw [port_notify, port_notify, addKinds_addKinds]
        rfl
      refine (port_notifyIf ..).trans ((congrArg (DeskPortRec.addKinds _) hport).trans ?_)
      rw [addKinds_addKinds, enabledKinds]
      simp)
  rw [hreach.value_validFrame, if_pos (.inl rfl), show (Item.cameraEnabled).value (cameraCode k).toNat s = _ from
    congrArg (fun j => boolByte (s.picture.cam j).enabled) (cameraOfInstance_code k)] at hserved
  refine ⟨hstate.trans ?_, hserved⟩
  apply state_ext
  case desk => rfl
  all_goals simp [lost]

/-! ## The slots of a disabled camera (R122) -/

theorem mem_ringIndices (i : Fin 6) : i ∈ ringIndices := by revert i; decide

/-- A slot that a disable frees: READY, with no monitor that holds it. -/
def FrameSlot.Unheld (f : FrameSlot) : Prop := f.state = .ready ∧ f.readers = 0

theorem slot_freeUnheld_ne {c : CameraRec} {i j : Fin 6} (h : i ≠ j) : (c.freeUnheld i).slot j = c.slot j := by
  unfold CameraRec.freeUnheld
  split
  · exact (slot_setSlot ..).trans (if_neg h)
  · rfl

theorem freeUnheld_of_unheld {c : CameraRec} {i : Fin 6} (h : (c.slot i).Unheld) :
    (c.freeUnheld i).slot i = { c.slot i with state := .free } ∧ i ∉ (c.freeUnheld i).ready := by
  have hfree : c.freeUnheld i =
      { c.setSlot i { c.slot i with state := .free } with ready := c.ready.filter fun j => j != i } := if_pos h
  rw [hfree]
  exact ⟨(slot_setSlot ..).trans (if_pos rfl), by simp⟩

theorem freeUnheld_of_held {c : CameraRec} {i : Fin 6} (h : ¬ (c.slot i).Unheld) : c.freeUnheld i = c := if_neg h

/-- The freeing of a slot leaves all but the ring and the ready list, which only loses slots. -/
theorem freeUnheld_parts (c : CameraRec) (i : Fin 6) :
    c.freeUnheld i = { c with ring := (c.freeUnheld i).ring, ready := (c.freeUnheld i).ready } ∧
    ∀ j ∈ (c.freeUnheld i).ready, j ∈ c.ready := by
  unfold CameraRec.freeUnheld
  split
  · exact ⟨rfl, fun j hj => (List.mem_filter.mp hj).1⟩
  · exact ⟨rfl, fun j hj => hj⟩

/-- The freeing of slots leaves all but the ring and the ready list, which only loses slots. -/
theorem foldFree_parts (l : List (Fin 6)) (c : CameraRec) :
    l.foldl CameraRec.freeUnheld c =
      { c with ring := (l.foldl CameraRec.freeUnheld c).ring, ready := (l.foldl CameraRec.freeUnheld c).ready } ∧
    ∀ j ∈ (l.foldl CameraRec.freeUnheld c).ready, j ∈ c.ready := by
  induction l generalizing c with
  | nil => exact ⟨rfl, fun j hj => hj⟩
  | cons i l ih =>
    obtain ⟨hparts, hready⟩ := ih (c.freeUnheld i)
    obtain ⟨hfirst, hsub⟩ := freeUnheld_parts c i
    rw [List.foldl_cons]
    refine ⟨hparts.trans ?_, fun j hj => hsub j (hready j hj)⟩
    rw [hfirst]

/-- A slot that is not to be freed stands. -/
theorem foldFree_held {c : CameraRec} {i : Fin 6} (h : ¬ (c.slot i).Unheld) (l : List (Fin 6)) :
    (l.foldl CameraRec.freeUnheld c).slot i = c.slot i := by
  induction l generalizing c with
  | nil => rfl
  | cons j l ih =>
    have hstep : (c.freeUnheld j).slot i = c.slot i := by
      by_cases hj : j = i
      · rw [hj, freeUnheld_of_held h]
      · exact slot_freeUnheld_ne hj
    rw [List.foldl_cons, ih (by rw [hstep]; exact h), hstep]

/-- A slot that is to be freed is freed, and leaves the ready list. -/
theorem foldFree_unheld {c : CameraRec} {i : Fin 6} (h : (c.slot i).Unheld) {l : List (Fin 6)} (hi : i ∈ l) :
    (l.foldl CameraRec.freeUnheld c).slot i = { c.slot i with state := .free } ∧ i ∉ (l.foldl CameraRec.freeUnheld c).ready := by
  induction l generalizing c with
  | nil => cases hi
  | cons j l ih =>
    rw [List.foldl_cons]
    by_cases hj : j = i
    · obtain ⟨hslot, hready⟩ := freeUnheld_of_unheld h
      rw [hj, foldFree_held (c := c.freeUnheld i) (by rw [hslot]; rintro ⟨hs, -⟩; cases hs)]
      exact ⟨hslot, fun hmem => hready ((foldFree_parts l _).2 i hmem)⟩
    · have hsame : (c.freeUnheld j).slot i = c.slot i := slot_freeUnheld_ne hj
      have hrest := ih (c := c.freeUnheld j) (by rw [hsame]; exact h) ((List.mem_cons.mp hi).resolve_left (Ne.symm hj))
      rwa [hsame] at hrest

/-- A disabled camera, before its slots are freed. -/
def CameraRec.switchedOff (c : CameraRec) : CameraRec :=
  { c.freeFilling with enabled := false, state := .off, frameOpen := false, marks := [] }

theorem disable_eq (c : CameraRec) : c.disable = ringIndices.foldl CameraRec.freeUnheld c.switchedOff := rfl

/-- The freeing of a FILLING slot leaves every slot that is not FILLING. -/
theorem slot_freeFilling {c : CameraRec} {i : Fin 6} (h : (c.slot i).state ≠ .filling) : c.freeFilling.slot i = c.slot i := by
  unfold CameraRec.freeFilling
  split
  · next j hj =>
    refine (slot_setSlot ..).trans (if_neg ?_)
    rintro rfl
    exact h (filling_some hj)
  · rfl

/-- What a disable leaves of a camera's record (R122). -/
theorem disable_spec (c : CameraRec) :
    (c.disable.enabled = false ∧ c.disable.state = .off ∧ c.disable.frameOpen = false ∧ c.disable.marks = []) ∧
    (∀ i, (c.slot i).state = .ready → (c.slot i).readers ≠ 0 → c.disable.slot i = c.slot i) ∧
    (∀ i, (c.slot i).state = .ready → (c.slot i).readers = 0 →
      c.disable.slot i = { c.slot i with state := .free } ∧ i ∉ c.disable.ready) ∧
    (∀ i, (c.slot i).state = .filling → (∀ j, j ≠ i → (c.slot j).state ≠ .filling) →
      c.disable.slot i = { c.slot i with state := .free }) := by
  have hslot : ∀ i, (c.slot i).state = .ready → c.switchedOff.slot i = c.slot i := fun i hi =>
    slot_freeFilling (c := c) (by rw [hi]; decide)
  rw [disable_eq]
  refine ⟨?_, fun i hi hread => ?_, fun i hi hread => ?_, fun i hi hother => ?_⟩
  · rw [(foldFree_parts ringIndices c.switchedOff).1]
    exact ⟨rfl, rfl, rfl, rfl⟩
  · rw [foldFree_held (by rw [hslot i hi]; exact fun h => hread h.2), hslot i hi]
  · have hfree := foldFree_unheld (c := c.switchedOff) (i := i) (by rw [hslot i hi]; exact ⟨hi, hread⟩)
      (mem_ringIndices i)
    rwa [hslot i hi] at hfree
  · have hfreed : c.switchedOff.slot i = { c.slot i with state := .free } := by
      show c.freeFilling.slot i = _
      rw [freeFilling_of_unique hi hother]
      exact (slot_setSlot ..).trans (if_pos rfl)
    rw [foldFree_held (by rw [hfreed]; rintro ⟨h, -⟩; cases h), hfreed]

theorem anyLost_false {p : Picture} (h : ∀ j, (p.cam j).enabled = false ∨ (p.cam j).state ≠ .lost) : p.anyLost = false := by
  have hcam : ∀ j, ((p.cam j).enabled && (p.cam j).state == .lost) = false := fun j => by
    rcases h j with h | h
    · rw [h]
      rfl
    · rw [beq_eq_false_iff_ne.mpr h, Bool.and_false]
  exact Bool.or_eq_false_iff.mpr ⟨hcam .a, hcam .b⟩

/-- Settles O42: a camera's expiry, and the writes of its enabled item. -/
theorem camerasLostAndEnabled : Obligations.CamerasLostAndEnabled := by
  intro k s c after
  refine ⟨fun hnot => ?_, fun hok hdue => camera_expires ((expired_iff ..).mpr ⟨hok, hdue⟩), fun r b hfree hrole => ?_⟩
  · refine congrArg Host.Outcome.next (if_neg fun h => ?_)
    obtain ⟨hok, hdue⟩ := (expired_iff ..).mp h
    rcases hnot with h | h
    · exact h hok
    · exact absurd hdue (Nat.not_le.mpr h)
  · have hreach := reaches_cameraEnabled (k := k) (rest := boolByte b) hfree hrole
    have hstore : ∀ u, (Item.cameraEnabled).store .swap (cameraCode k).toNat (boolByte b) u = writeCameraEnabled k (boolByte b) u :=
      fun u => by rw [← cameraOfInstance_code k]; cases k <;> rfl
    have hvalue : (Item.cameraEnabled).value (cameraCode k).toNat s = boolByte c.enabled :=
      congrArg (fun j => boolByte (s.picture.cam j).enabled) (cameraOfInstance_code k)
    refine ⟨_, rfl, fun hshow => hreach.frozen hshow (hstore _), fun hsetup hsame => ?_, fun hsetup hoff hstate hb => ?_,
      fun hsetup hon hb hstack => ?_⟩
    · have howner : (Item.cameraEnabled).store .swap (cameraCode k).toNat (boolByte b) (validFrame r.port s) =
          accept (validFrame r.port s) := by
        have hbyte : whole rdBool (boolByte b) = some b := by cases b <;> rfl
        rw [hstore, writeCameraEnabled, unlessShow_setup (by simpa [State.inShow] using hsetup), inRange_some hbyte]
        exact if_pos (by simpa using hsame)
      obtain ⟨hstate, hserved⟩ := hreach.accepted_quietly howner rfl
      rw [hvalue, hsame] at hserved
      exact ⟨hstate.trans (validFrame_desk ..), hserved⟩
    · subst hb
      have hlost : (s.picture.setCam k (c.enabledAs true)).anyLost = true :=
        anyLost_of_lost (k := k) (by simp [CameraRec.enabledAs, CameraRec.enable]) (by simp [CameraRec.enabledAs, CameraRec.enable])
      obtain ⟨hstate', hserved⟩ := cameraEnabled_written hfree hrole hsetup (show c.enabled ≠ true by rw [hoff]; decide) (.inl hlost)
      rw [show (s.picture.cam k).enabled = false from hoff] at hserved
      rw [hlost] at hstate' hserved
      refine ⟨hstate', ?_, ?_⟩
      · refine (congrArg (fun t : State => t.stops.isRaised .cameraLost) hstate').trans ?_
        exact tget_tput_same ..
      · have hkinds : enabledKinds true s = if s.stops.isRaised .cameraLost then 0x50 else 0x52 := by
          unfold enabledKinds
          cases s.stops.isRaised .cameraLost <;> rfl
        rw [hkinds] at hserved
        exact hserved
    · subst hb
      obtain ⟨hstate', hserved⟩ := cameraEnabled_written hfree hrole hsetup (show c.enabled ≠ false by rw [hon]; decide) (.inr hstack)
      obtain ⟨⟨h1, h2, h3, h4⟩, hheld, hunheld, hfilled⟩ := disable_spec c
      have hcam : (itemRequest .cameraEnabled .swap r (cameraCode k) (boolByte false) s).picture.cam k = c.disable := by
        refine (congrArg (fun t : State => t.picture.cam k) hstate').trans ?_
        rw [cam_setCam, if_pos rfl]
        rfl
      rw [show (s.picture.cam k).enabled = true from hon] at hserved
      refine ⟨?_, by rw [hcam]; exact h1, by rw [hcam]; exact h2, by rw [hcam]; exact h3, by rw [hcam]; exact h4,
        fun _ hothers => ?_, by rw [hcam]; exact hheld, by rw [hcam]; exact hunheld, by rw [hcam]; exact hfilled⟩
      · rw [Replied, hserved.reply]
        rfl
      · refine (congrArg (fun t : State => t.stops.isRaised .cameraLost) hstate').trans ((tget_tput_same ..).trans ?_)
        refine anyLost_false fun j => ?_
        rw [cam_setCam]
        split
        · exact .inl h1
        · next hj => exact hothers j (Ne.symm hj)

end Sys2Proof.Machine
end

section
/-!
PROOFS. The frame tick (R8, R133 to R136): what the visits of the monitors leave, and what a tick leaves of the state.
-/

namespace Sys2Proof.Machine
set_option Elab.async false

/-! ## The visits (R133) -/

/-- The cameras stand but for the slots and the ready lists of disabled ones. -/
structure SameCams (p q : Picture) : Prop where
  auto : q.auto = p.auto
  state : ∀ k, (q.cam k).state = (p.cam k).state
  enabled : ∀ k, (q.cam k).enabled = (p.cam k).enabled
  ready : ∀ k, (p.cam k).enabled = true → (q.cam k).ready = (p.cam k).ready

theorem SameCams.refl (p : Picture) : SameCams p p := ⟨rfl, fun _ => rfl, fun _ => rfl, fun _ _ => rfl⟩

theorem SameCams.trans {p q r : Picture} (h : SameCams p q) (h' : SameCams q r) : SameCams p r where
  auto := h'.auto.trans h.auto
  state k := (h'.state k).trans (h.state k)
  enabled k := (h'.enabled k).trans (h.enabled k)
  ready k hk := (h'.ready k ((h.enabled k).trans hk)).trans (h.ready k hk)

theorem SameCams.newest {p q : Picture} (h : SameCams p q) {k : Camera} (hk : (p.cam k).enabled = true) :
    (q.cam k).newest = (p.cam k).newest := by
  rw [CameraRec.newest, h.ready k hk]
  rfl

/-- What moves only the slot that one monitor holds, and the slots of the rings. -/
structure Visited (m : Fin 6) (p q : Picture) : Prop extends SameCams p q where
  others : ∀ j, j ≠ m → q.monitor j = p.monitor j
  own : q.monitor m = { p.monitor m with held := (q.monitor m).held }

theorem Visited.refl (m : Fin 6) (p : Picture) : Visited m p p := ⟨.refl p, fun _ _ => rfl, rfl⟩

theorem Visited.trans {m : Fin 6} {p q r : Picture} (h : Visited m p q) (h' : Visited m q r) : Visited m p r where
  toSameCams := h.toSameCams.trans h'.toSameCams
  others j hj := (h'.others j hj).trans (h.others j hj)
  own := by rw [h'.own, h.own]

/-- A camera's record is replaced, its state and enabled flag standing, with the slot that a monitor holds. -/
theorem visited_setCam {m : Fin 6} {p : Picture} {k : Camera} {c : CameraRec} (held : Option SlotId)
    (hstate : c.state = (p.cam k).state) (henabled : c.enabled = (p.cam k).enabled)
    (hready : (p.cam k).enabled = true → c.ready = (p.cam k).ready) :
    Visited m p ((p.setCam k c).setMonitor m { p.monitor m with held := held }) where
  auto := by cases k <;> rfl
  state j := by
    rw [cam_setMonitor, cam_setCam]
    split
    · next hj => rw [← hj, hstate]
    · rfl
  enabled j := by
    rw [cam_setMonitor, cam_setCam]
    split
    · next hj => rw [← hj, henabled]
    · rfl
  ready j hj := by
    rw [cam_setMonitor, cam_setCam]
    split
    · next h => subst h; exact hready hj
    · rfl
  others j hj := by rw [monitor_setMonitor, if_neg (Ne.symm hj), monitor_setCam]
  own := by rw [monitor_setMonitor, if_pos rfl]

theorem visited_releaseSlot (m : Fin 6) (p : Picture) :
    Visited m p (p.releaseSlot m) ∧ ((p.releaseSlot m).monitor m).held = none := by
  unfold Picture.releaseSlot
  split
  · next h => exact ⟨.refl m p, h⟩
  · next id h =>
    refine ⟨visited_setCam none ?_ ?_ ?_, by rw [monitor_setMonitor, if_pos rfl]⟩
    · split
      · rfl
      · rw [(freeUnheld_parts _ _).1]
        rfl
    · split
      · rfl
      · rw [(freeUnheld_parts _ _).1]
        rfl
    · intro henabled
      rw [if_pos (show (CameraRec.setSlot _ _ _).enabled = true from henabled)]
      rfl

theorem visited_holdSlot (m : Fin 6) (id : SlotId) (p : Picture) :
    Visited m p (p.holdSlot m id) ∧ ((p.holdSlot m id).monitor m).held = some id := by
  unfold Picture.holdSlot
  exact ⟨visited_setCam (some id) rfl rfl fun _ => rfl, by rw [monitor_setMonitor, if_pos rfl]⟩

/-- A visit of the monitor's own camera: what it moves, and what the monitor then holds. -/
theorem visited_visitCamera (m : Fin 6) (k : Camera) (p : Picture) :
    Visited m p (p.visitCamera m k) ∧
    (∀ i, (p.cam k).state = .ok → (p.cam k).newest = some i → ((p.visitCamera m k).monitor m).held = some ⟨k, i⟩) ∧
    ((p.cam k).state = .lost → p.visitCamera m k = p) := by
  unfold Picture.visitCamera
  split
  · next h => exact ⟨(visited_releaseSlot m p).1, fun _ hok => (by rw [h] at hok; cases hok), fun hl => absurd (h.symm.trans hl) (by decide)⟩
  · next h => exact ⟨.refl m p, fun _ hok => (by rw [h] at hok; cases hok), fun _ => rfl⟩
  · next h =>
    split
    · next hnone => exact ⟨.refl m p, fun i _ hi => (by rw [hnone] at hi; cases hi), fun hl => absurd (h.symm.trans hl) (by decide)⟩
    · next i hi =>
      dsimp only
      split
      · next hheld =>
        exact ⟨.refl m p, fun j _ hj => by rw [hheld, Option.some.inj (hi.symm.trans hj)], fun hl => absurd (h.symm.trans hl) (by decide)⟩
      · obtain ⟨hhold, hheld⟩ := visited_holdSlot m ⟨k, i⟩ (p.releaseSlot m)
        exact ⟨(visited_releaseSlot m p).1.trans hhold, fun j _ hj => by rw [hheld, Option.some.inj (hi.symm.trans hj)],
          fun hl => absurd (h.symm.trans hl) (by decide)⟩

/-- What a visit leaves, and what its monitor then holds (R133). -/
structure VisitDone (m : Fin 6) (p q : Picture) : Prop extends Visited m p q where
  frozen : (p.monitor m).frozen = true → (q.monitor m).held = (p.monitor m).held
  off : (p.monitor m).frozen = false → (p.monitor m).source = .off → (q.monitor m).held = none
  ok : ∀ k i, (p.monitor m).frozen = false → p.cameraOf (p.monitor m) = some k → (p.cam k).enabled = true →
    (p.cam k).state = .ok → (p.cam k).newest = some i → (q.monitor m).held = some ⟨k, i⟩
  lost : ∀ k i, (p.monitor m).frozen = false → p.cameraOf (p.monitor m) = some k → (p.cam k).state = .lost →
    (p.monitor m).held = some ⟨k, i⟩ → (q.monitor m).held = some ⟨k, i⟩

theorem cameraOf_off {p : Picture} {r : Monitor} (h : r.source = .off) : p.cameraOf r = none := by
  rw [Picture.cameraOf, h]

theorem visit_done (m : Fin 6) (p : Picture) : VisitDone m p (p.visit m) := by
  unfold Picture.visit
  split
  · next hf =>
    have hno : (p.monitor m).frozen = false → False := fun h => by rw [hf] at h; cases h
    exact { toVisited := .refl m p, frozen := fun _ => rfl, off := fun h _ => (hno h).elim
            ok := fun _ _ h => (hno h).elim, lost := fun _ _ h => (hno h).elim }
  · next hf =>
    split
    · next hcam =>
      obtain ⟨hv, hheld⟩ := visited_releaseSlot m p
      exact { toVisited := hv, frozen := fun h => absurd h hf, off := fun _ _ => hheld
              ok := fun k i _ hk => (by rw [hcam] at hk; cases hk), lost := fun k i _ hk => (by rw [hcam] at hk; cases hk) }
    · next k hcam =>
      have hoff : (p.monitor m).source = .off → False := fun h => by rw [cameraOf_off h] at hcam; cases hcam
      have hdirect : VisitDone m p (p.visitCamera m k) := by
        obtain ⟨hv, hok, hlost⟩ := visited_visitCamera m k p
        exact { toVisited := hv, frozen := fun h => absurd h hf, off := fun _ h => (hoff h).elim
                ok := fun j i _ hj _ => by
                  obtain rfl : k = j := Option.some.inj (hcam.symm.trans hj)
                  exact hok i
                lost := fun j i _ hj hl hheld => by
                  obtain rfl : k = j := Option.some.inj (hcam.symm.trans hj)
                  rw [hlost hl, hheld] }
      split
      · next id hid =>
        split
        · exact hdirect
        · next hother =>
          obtain ⟨hrelease, -⟩ := visited_releaseSlot m p
          obtain ⟨hv, hok, -⟩ := visited_visitCamera m k (p.releaseSlot m)
          exact { toVisited := hrelease.trans hv, frozen := fun h => absurd h hf, off := fun _ h => (hoff h).elim
                  ok := fun j i _ hj henabled hstate hnew => by
                    obtain rfl : k = j := Option.some.inj (hcam.symm.trans hj)
                    exact hok i ((hrelease.state k).trans hstate) ((hrelease.newest henabled).trans hnew)
                  lost := fun j i _ hj _ hheld => by
                    obtain rfl : k = j := Option.some.inj (hcam.symm.trans hj)
                    rw [Option.some.inj (hid.symm.trans hheld)] at hother
                    exact absurd rfl hother }
      · exact hdirect

/-- A monitor is visited once, in pictures that agree with those before the tick in what its visit reads. -/
theorem foldVisit_done (m : Fin 6) (l : List (Fin 6)) (hl : l.Nodup) (p : Picture) :
    SameCams p (l.foldl Picture.visit p) ∧
    (m ∉ l → (l.foldl Picture.visit p).monitor m = p.monitor m) ∧
    (m ∈ l → ∃ q, SameCams p q ∧ q.monitor m = p.monitor m ∧
      (l.foldl Picture.visit p).monitor m = (q.visit m).monitor m) := by
  induction l generalizing p with
  | nil => exact ⟨.refl p, fun _ => rfl, fun h => (by cases h)⟩
  | cons j l ih =>
    obtain ⟨hj, hl⟩ := List.nodup_cons.mp hl
    have hv := visit_done j p
    obtain ⟨hsame, hnot, hin⟩ := ih hl (p.visit j)
    rw [List.foldl_cons]
    refine ⟨hv.toSameCams.trans hsame, fun hm => ?_, fun hm => ?_⟩
    · obtain ⟨hmj, hml⟩ := not_or.mp (fun h => hm (List.mem_cons.mpr h))
      rw [hnot hml, hv.others m hmj]
    · by_cases hmj : m = j
      · subst hmj
        exact ⟨p, .refl p, rfl, hnot hj⟩
      · obtain ⟨q, hq, hmon, hdone⟩ := hin ((List.mem_cons.mp hm).resolve_left hmj)
        exact ⟨q, hv.toSameCams.trans hq, hmon.trans (hv.others m hmj), hdone⟩

theorem allMonitors_nodup : allMonitors.Nodup := by decide

/-- What the visits of a tick leave of a monitor. -/
theorem visitAll_monitor (m : Fin 6) (p : Picture) :
    ∃ q, SameCams p q ∧ q.monitor m = p.monitor m ∧ p.visitAll.monitor m = (q.visit m).monitor m :=
  (foldVisit_done m allMonitors allMonitors_nodup p).2.2 (mem_allMonitors m)

theorem visitAll_cams (p : Picture) : SameCams p p.visitAll := (foldVisit_done 0 allMonitors allMonitors_nodup p).1

theorem SameCams.cameraOf {p q : Picture} (h : SameCams p q) (r : Monitor) : q.cameraOf r = p.cameraOf r := by
  unfold Picture.cameraOf
  rw [h.auto]

theorem visitAll_own (m : Fin 6) (p : Picture) :
    p.visitAll.monitor m = { p.monitor m with held := (p.visitAll.monitor m).held } := by
  obtain ⟨q, -, hmon, hdone⟩ := visitAll_monitor m p
  rw [hdone, (visit_done m q).own, hmon]

/-! ## The tick -/

/-- The state of a tick once the accumulator has gone on (R8). -/
def accumulated (s : State) : State := { s with time := { s.time with tickPos := s.time.tickPos + s.time.rate.period } }

/-- The state of a tick once its monitors are visited. -/
def visited (s : State) : State := { s with picture := s.picture.visitAll }

/-- The state of a tick once its overlays are built. -/
def overlaid (s : State) : State := buildOverlays s.picture (visited s)

theorem exec_frameTick_due {s : State} (h : s.time.tickPos / 65536 ≤ s.now) :
    exec .frameTick s = .next (arrive (reportBanner (overlaid (accumulated s)))) := if_pos h

theorem exec_frameTick_early {s : State} (h : s.now < s.time.tickPos / 65536) : exec .frameTick s = .next s :=
  if_neg (Nat.not_le.mpr h)

/-- The Stop Controller's notes of a tick are of its top record alone. -/
theorem reportBanner_eq (s : State) :
    reportBanner s = { s with stops := { s.stops with
      topTicked := (reportBanner s).stops.topTicked, topReported := (reportBanner s).stops.topReported } } := by
  unfold reportBanner
  split <;> rfl

theorem reportBanner_stack {s : State} {x : StopRecord} {rest : List StopRecord} (h : s.stops.stack = x :: rest) :
    reportBanner s = { s with stops := { s.stops with
      topTicked := true, topReported := s.stops.topReported || s.stops.bannerInForce } } := by
  rw [reportBanner, h]

/-- The notes of a tick and the arrival move the stop state and the notes alone. -/
theorem arrive_reportBanner {w t : State} (ht : arrive (reportBanner w) = t) :
    t = { w with
      stops := { w.stops with state := t.stops.state, topTicked := t.stops.topTicked, topReported := t.stops.topReported }
      desk := t.desk } := by
  have harrive := (arrive_eq (reportBanner w)).1
  have hreport := reportBanner_eq w
  rw [ht] at harrive
  generalize reportBanner w = r at harrive hreport
  have htick : t.stops.topTicked = r.stops.topTicked := (congrArg (fun t : State => t.stops.topTicked) harrive :)
  have hrep : t.stops.topReported = r.stops.topReported := (congrArg (fun t : State => t.stops.topReported) harrive :)
  rw [htick, hrep]
  refine harrive.trans ?_
  generalize t.stops.state = x
  generalize t.desk = d
  rw [hreport]

theorem overlaid_parts (s : State) :
    overlaid (accumulated s) = { s with
      time := (accumulated s).time, picture := s.picture.visitAll, overlay := (overlaid (accumulated s)).overlay } := by
  apply state_ext <;> simp [overlaid, visited, accumulated]

/-- What a tick leaves of the state (R133, R139, R148, R173). -/
theorem frameTick_parts {s t : State} (ht : arrive (reportBanner (overlaid (accumulated s))) = t) :
    t = { s with
      time := (accumulated s).time, picture := s.picture.visitAll, overlay := (overlaid (accumulated s)).overlay
      stops := { s.stops with state := t.stops.state, topTicked := t.stops.topTicked, topReported := t.stops.topReported }
      desk := t.desk } := by
  have hw := overlaid_parts s
  generalize hu : overlaid (accumulated s) = w at ht hw
  refine (arrive_reportBanner ht).trans ?_
  rw [hw]

/-- A tick in STOPPING under a profile CONTINUE / NONE meets the arrival test (R173). -/
theorem tick_arrives {w : State} {x : StopRecord} {rest : List StopRecord} (hstate : w.stops.state = .stopping)
    (hstack : w.stops.stack = x :: rest) (hclick : w.stops.effective.click = .continued) (hrigs : w.stops.effective.rigs = .none) :
    (arrive (reportBanner w)).stops.state = .stopped := by
  have hmet : ArrivalMet (reportBanner w) := by
    rw [reportBanner_stack hstack]
    refine ⟨.inr hclick, .inl hrigs, ?_⟩
    dsimp only
    split
    · rfl
    · next hvideo =>
      have hforce : w.stops.bannerInForce = true := by
        rw [Stops.bannerInForce, hstack]
        exact bne_iff_ne.mpr hvideo
      rw [hforce, Bool.or_true]
  have hstill : (reportBanner w).stops.state = .stopping := by
    rw [reportBanner_stack hstack]
    exact hstate
  rw [show arrive (reportBanner w) = setStopState .stopped (reportBanner w) from
    if_pos ⟨hstill, (arrivalMet_iff _).mpr hmet⟩, setStopState_stops]

theorem overlaid_overlay (s : State) :
    (overlaid (accumulated s)).overlay = { s.overlay with
      flashes := (overlaid (accumulated s)).overlay.flashes, records := (overlaid (accumulated s)).overlay.records
      outputs := (overlaid (accumulated s)).overlay.outputs } := by
  simp only [overlaid, buildOverlays, visited, accumulated]

theorem overlaid_record (s : State) (m : Fin 6) :
    tget (overlaid s).overlay.records m = buildRecord (visited s) s.picture m := by
  simp only [overlaid, buildOverlays, tget_tmapIdx]

theorem overlaid_flash (s : State) (m : Fin 6) :
    tget (overlaid s).overlay.flashes m = (flashTick (visited s) s.picture m).2 := by
  simp only [overlaid, buildOverlays, tget_tmapIdx]

theorem overlaid_output (s : State) (m : Fin 6) :
    (tget (overlaid s).overlay.outputs m).picture = (s.picture.visitAll.monitor m).held := by
  simp only [overlaid, buildOverlays, tget_tmapIdx, drawFrame, visited]

/-- A tick that has come (R8, R133 to R136, R173). -/
theorem frameTick_due {s : State} (h : s.time.tickPos / 65536 ≤ s.now) :
    ∃ t, exec .frameTick s = .next t ∧ t.picture = s.picture.visitAll ∧ t.overlay = (overlaid (accumulated s)).overlay ∧
      t = { s with
        time := { s.time with tickPos := s.time.tickPos + (match s.time.rate with
          | .fps50 => 62914560
          | .fps5994 => 52480819
          | .fps60 => 52428800) }
        picture := t.picture
        overlay := { s.overlay with flashes := t.overlay.flashes, records := t.overlay.records, outputs := t.overlay.outputs }
        stops := { s.stops with state := t.stops.state, topTicked := t.stops.topTicked, topReported := t.stops.topReported }
        desk := t.desk } ∧
      (∀ x rest, s.stops.state = .stopping → s.stops.stack = x :: rest → s.stops.effective.click = .continued →
        s.stops.effective.rigs = .none → t.stops.state = .stopped) := by
  have hexec := exec_frameTick_due h
  have hparts := @frameTick_parts s
  have hoverlay := overlaid_overlay s
  have hstops : (overlaid (accumulated s)).stops = s.stops := (congrArg State.stops (overlaid_parts s) :)
  have hstopped := @tick_arrives (overlaid (accumulated s))
  rw [hstops] at hstopped
  generalize overlaid (accumulated s) = w at hparts hexec hstopped hoverlay
  generalize arrive (reportBanner w) = t at hparts hexec hstopped
  have hparts := hparts rfl
  generalize w.overlay = o at hparts hoverlay
  generalize hp : s.picture.visitAll = p at hparts ⊢
  have hpic : t.picture = p := (congrArg State.picture hparts :)
  have hover : t.overlay = o := (congrArg State.overlay hparts :)
  refine ⟨t, hexec, hpic, hover, ?_, fun _ _ => hstopped⟩
  rw [hpic, hover, ← hoverlay]
  refine hparts.trans ?_
  rw [accumulated]
  cases s.time.rate <;> rfl

/-! ## The video rate (R7) -/

theorem ofValue_eq {n : Nat} {rate : VideoRate} : VideoRate.ofValue n = some rate ↔ n = rate.value := by
  unfold VideoRate.ofValue
  constructor
  · intro h
    split at h
    · next hn => rw [← Option.some.inj h]; exact hn
    · split at h
      · next hn => rw [← Option.some.inj h]; exact hn
      · split at h
        · next hn => rw [← Option.some.inj h]; exact hn
        · cases h
  · rintro rfl
    cases rate <;> rfl

/-- A write of the video rate from PROG (R7, R8). -/
theorem videoRate_written {r : Req} {a b : Byte} {s : State} (hfree : Free r s) (hrole : FromRole .prog r s) :
    ∃ t, exec (.videoRateWrite r 0 [a, b]) s = .next t ∧
      (s.inShow = true → t = { s with desk := t.desk } ∧ Served r .frozen [] 0 s t) ∧
      (s.inShow = false → word2 a b ≠ 5000 → word2 a b ≠ 5994 → word2 a b ≠ 6000 →
        t = { s with desk := t.desk } ∧ Served r .range [] 0 s t) ∧
      (∀ rate : VideoRate, s.inShow = false → word2 a b = rate.value →
        Served r .ok (beBytes 2 s.time.rate.value) 0 s t ∧
        (rate = s.time.rate → t = { s with desk := t.desk }) ∧
        (rate ≠ s.time.rate → t = { s with
          time := { s.time with rate := rate, tickPos := 65536 * (s.time.clock + 1) }, desk := t.desk })) := by
  have hreach : Reaches .videoRate .swap r 0 [a, b] s := Reaches.swap (l := [.prog]) rfl (by decide) hfree hrole rfl
  have hstore : ∀ u, (Item.videoRate).store .swap (0 : Byte).toNat [a, b] u = writeVideoRate [a, b] u := fun _ => rfl
  have hsetup : s.inShow = false → (validFrame r.port s).inShow = false := fun h => by simpa [State.inShow] using h
  refine ⟨_, rfl, fun hshow => hreach.frozen hshow (hstore _), fun hs h1 h2 h3 => ?_, fun rate hs hvalue => ?_⟩
  · refine hreach.refused (by decide) ?_
    have hnone : (payload2 [a, b]).bind VideoRate.ofValue = none := by
      cases hv : (payload2 [a, b]).bind VideoRate.ofValue with
      | none => rfl
      | some rate =>
        have hw : word2 a b = rate.value := ofValue_eq.mp hv
        cases rate with
        | fps50 => exact absurd hw h1
        | fps5994 => exact absurd hw h2
        | fps60 => exact absurd hw h3
    rw [hstore, writeVideoRate, unlessShow_setup (hsetup hs), hnone]
    rfl
  · have hsome : (payload2 [a, b]).bind VideoRate.ofValue = some rate := ofValue_eq.mpr hvalue
    have howner : (Item.videoRate).store .swap (0 : Byte).toNat [a, b] (validFrame r.port s) =
        accept { validFrame r.port s with time := s.time.setRate rate } := by
      rw [hstore, writeVideoRate, unlessShow_setup (hsetup hs), inRange_some hsome]
      simp
    obtain ⟨hstate, hserved⟩ := hreach.accepted_quietly howner rfl
    refine ⟨hserved, fun hsame => ?_, fun hne => ?_⟩
    · refine hstate.trans ?_
      rw [Timebase.setRate, if_pos hsame.symm]
      apply state_ext
      case desk => rfl
      all_goals simp
    · refine hstate.trans ?_
      rw [Timebase.setRate, if_neg (Ne.symm hne)]
      apply state_ext
      case desk => rfl
      case time => simp [q16OfSample, q16One, Nat.mul_comm]
      all_goals simp

/-- Settles O12: the writes of the video rate, and the frame tick with its visits. -/
theorem frameTickVisitsMonitors : Obligations.FrameTickVisitsMonitors := by
  refine ⟨fun r a b s hfree hrole => videoRate_written hfree hrole, fun s => ⟨exec_frameTick_early, fun hdue => ?_⟩⟩
  obtain ⟨t, hexec, hpic, hover, hparts, hstopped⟩ := frameTick_due hdue
  refine ⟨t, hexec, hparts, fun m => ?_, fun m hf => ?_, fun m hf => ⟨fun hoff => ?_, fun k i hk he hok hnew => ?_,
    fun k i hk hl hheld => ?_⟩, fun m => ?_, hstopped⟩
  · rw [hpic]
    exact visitAll_own m s.picture
  · obtain ⟨q, -, hmon, hdone⟩ := visitAll_monitor m s.picture
    rw [hpic, hdone, (visit_done m q).frozen (by rw [hmon]; exact hf), hmon]
  · obtain ⟨q, -, hmon, hdone⟩ := visitAll_monitor m s.picture
    rw [hpic, hdone, (visit_done m q).off (by rw [hmon]; exact hf) (by rw [hmon]; exact hoff)]
  · obtain ⟨q, hsame, hmon, hdone⟩ := visitAll_monitor m s.picture
    rw [hpic, hdone]
    exact (visit_done m q).ok k i (by rw [hmon]; exact hf) (by rw [hmon, hsame.cameraOf]; exact hk)
      (by rw [hsame.enabled]; exact he) (by rw [hsame.state]; exact hok) (by rw [hsame.newest he]; exact hnew)
  · obtain ⟨q, hsame, hmon, hdone⟩ := visitAll_monitor m s.picture
    rw [hpic, hdone]
    exact (visit_done m q).lost k i (by rw [hmon]; exact hf) (by rw [hmon, hsame.cameraOf]; exact hk)
      (by rw [hsame.state]; exact hl) (by rw [hmon]; exact hheld)
  · rw [hover, hpic]
    exact overlaid_output (accumulated s) m

end Sys2Proof.Machine
end

section
/-!
PROOFS. The overlay record and the flash of a tick (TABLE 8-1, R139 to R150).
-/

namespace Sys2Proof.Machine
set_option Elab.async false

theorem shows_iff {m : Monitor} {f : BitVec 8} : m.shows f = true ↔ m.fields &&& f ≠ 0 := bne_iff_ne

theorem shows_false {m : Monitor} {f : BitVec 8} (h : ¬ m.fields &&& f ≠ 0) : m.shows f = false :=
  Bool.eq_false_iff.mpr fun hs => h (shows_iff.mp hs)

/-- The state from which the overlays of a tick are built. -/
def overlaySource (s : State) : State := visited (accumulated s)

/-- The overlays of a tick are built from the state at the tick, but for the accumulator and the slots that are held. -/
theorem overlaySource_keeps (s : State) :
    (overlaySource s).now = s.now ∧ (overlaySource s).tempo = s.tempo ∧ (overlaySource s).beats = s.beats ∧
    (overlaySource s).tables = s.tables ∧ (overlaySource s).pointer = s.pointer ∧ (overlaySource s).overlay = s.overlay ∧
    (overlaySource s).stops = s.stops ∧ (overlaySource s).picture = s.picture.visitAll := by
  simp only [overlaySource, visited, accumulated, State.now, and_self]

/-- A monitor as its overlay is built: it may hold another slot. -/
theorem overlaySource_monitor (s : State) (m : Fin 6) :
    (overlaySource s).picture.monitor m = { s.picture.monitor m with held := (s.picture.visitAll.monitor m).held } := by
  obtain ⟨-, -, -, -, -, -, -, hpic⟩ := overlaySource_keeps s
  rw [hpic]
  exact visitAll_own m s.picture

/-- A field of the overlay record is there where its bit is in the field set. -/
def Monitor.field {α : Type} (m : Monitor) (bit : BitVec 8) (a b : α) : α := if m.shows bit then a else b

theorem field_pos {α : Type} {m : Monitor} {bit : BitVec 8} {a b : α} (h : m.fields &&& bit ≠ 0) : m.field bit a b = a :=
  if_pos (shows_iff.mpr h)

theorem field_neg {α : Type} {m : Monitor} {bit : BitVec 8} {a b : α} (h : ¬ m.fields &&& bit ≠ 0) : m.field bit a b = b :=
  if_neg (by rw [shows_false h]; decide)

/-- The no picture field is of a monitor's source and its camera's state (R149). -/
theorem SameCams.noPictureField {p q : Picture} (h : SameCams p q) {a b : Monitor} (hs : a.source = b.source) :
    noPictureField q a = Machine.noPictureField p b := by
  have hcam : q.cameraOf a = p.cameraOf b := by
    unfold Picture.cameraOf
    rw [h.auto, hs]
  unfold Machine.noPictureField
  rw [hcam]
  cases p.cameraOf b with
  | none => rfl
  | some k =>
    dsimp only
    rw [h.state k]

/-- The overlay record of a tick, in terms of the state at the tick. -/
theorem buildRecord_eq (s : State) (m : Fin 6) :
    buildRecord (overlaySource s) s.picture m =
      { position := (s.picture.monitor m).field 0x01
          ((seenBeat s.beats (s.now + (s.picture.monitor m).latency)).map Beat.position) none
        cue := (s.picture.monitor m).field 0x02 (cueField s) none
        tempo := (s.picture.monitor m).field 0x04 (some s.tempo.current) none
        count := (s.picture.monitor m).field 0x08
          (countField (seenBeat s.beats (s.now + (s.picture.monitor m).latency)) s.beats.vamps) .blank
        flash := (flashTick (overlaySource s) s.picture m).1
        banner := (s.picture.monitor m).field 0x20 (bannerField s) none
        noPicture := noPictureField s.picture (s.picture.monitor m)
        showHalted := s.stops.state == .halted } := by
  obtain ⟨hnow, htempo, hbeats, htables, hpointer, hoverlay, hstops, hpic⟩ := overlaySource_keeps s
  have hcue : cueField (overlaySource s) = cueField s := by rw [cueField, hpointer, htables]; rfl
  have hbanner : bannerField (overlaySource s) = bannerField s := by
    have htext : stopBannerText (overlaySource s) = stopBannerText s := by
      have hresume : (overlaySource s).resume = s.resume := by simp only [overlaySource, visited, accumulated]
      rw [stopBannerText, hstops, targetText, hresume]
      rfl
    rw [bannerField, htext, hstops, hoverlay]
    rfl
  have hno : noPictureField (overlaySource s).picture { s.picture.monitor m with held := (s.picture.visitAll.monitor m).held } =
      noPictureField s.picture (s.picture.monitor m) := by
    rw [hpic]
    exact (visitAll_cams s.picture).noPictureField rfl
  unfold buildRecord
  dsimp only
  rw [overlaySource_monitor, hnow, htempo, hbeats, hcue, hbanner, hno, hstops]
  generalize (s.picture.visitAll.monitor m).held = held
  generalize flashTick (overlaySource s) s.picture m = flash
  simp only [Monitor.field, Monitor.shows, fieldBarBeat, fieldCue, fieldTempo, fieldCount, fieldBanner]
  rfl

/-! ## The flash (R144, R145) -/

/-- The flash record of a tick before it is drawn. -/
def startedFlash (s : State) (m : Fin 6) : FlashRec :=
  ((tget s.overlay.flashes m).startClick (s.picture.monitor m) s.now).startImage (s.picture.monitor m)
    (newMark s.picture s.picture.visitAll m)

/-- The flash field and the flash record of a tick, in terms of the state at the tick. -/
theorem flashTick_eq (s : State) (m : Fin 6) :
    flashTick (overlaySource s) s.picture m =
      (if (s.picture.monitor m).shows fieldFlash && s.beats.click != .idle then (startedFlash s m).draw.1 else .none,
        (startedFlash s m).draw.2) := by
  obtain ⟨hnow, -, hbeats, -, -, hoverlay, -, hpic⟩ := overlaySource_keeps s
  unfold flashTick startedFlash
  dsimp only
  rw [overlaySource_monitor, hnow, hbeats, hoverlay, hpic]
  generalize newMark s.picture s.picture.visitAll m = mark
  generalize (s.picture.visitAll.monitor m).held = held
  rfl

theorem startClick_of_not {m : Monitor} {now : Nat} {r : FlashRec}
    (h : m.flashMode = .click → ∀ g, r.target = some g → now + m.latency < g.sample) : r.startClick m now = r := by
  unfold FlashRec.startClick
  split
  · next g hmode htarget => exact if_neg (Nat.not_le.mpr (h hmode g htarget))
  · rfl

theorem startClick_of_due {m : Monitor} {now : Nat} {r : FlashRec} {g : FlashTarget} (hmode : m.flashMode = .click)
    (htarget : r.target = some g) (hdue : g.sample ≤ now + m.latency) :
    r.startClick m now = { target := none, kind := if g.downbeat then .downbeat else .beat, ticks := m.flashLength } := by
  rw [FlashRec.startClick, hmode, htarget]
  exact if_pos hdue

theorem startImage_of_not {m : Monitor} {mark : MarkKind} {r : FlashRec} (h : m.flashMode = .image → mark = .none) :
    r.startImage m mark = r := by
  unfold FlashRec.startImage
  split
  · next hmode => exact if_pos (h hmode)
  · rfl

theorem startImage_of_mark {m : Monitor} {mark : MarkKind} {r : FlashRec} (hmode : m.flashMode = .image) (h : mark ≠ .none) :
    r.startImage m mark = { r with kind := mark, ticks := m.flashLength } := by
  rw [FlashRec.startImage, hmode]
  exact if_neg h

theorem draw_running {x : FlashRec} (h : 0 < x.ticks) : x.draw = (x.kind, { x with ticks := x.ticks - 1 }) := if_pos h

theorem draw_ended {x : FlashRec} (h : x.ticks = 0) : x.draw = (.none, { x with kind := .none }) := if_neg (by omega)

/-- The flash of a tick, from the record that it starts with (R144). -/
theorem flash_drawn {s : State} {m : Fin 6} {x : FlashRec} (hx : startedFlash s m = x) :
    (0 < x.ticks → (flashTick (overlaySource s) s.picture m).2 = { x with ticks := x.ticks - 1 } ∧
      (flashTick (overlaySource s) s.picture m).1 =
        if (s.picture.monitor m).fields &&& 0x10 ≠ 0 ∧ s.beats.click ≠ .idle then x.kind else .none) ∧
    (x.ticks = 0 → (flashTick (overlaySource s) s.picture m).2 = { x with kind := .none } ∧
      (flashTick (overlaySource s) s.picture m).1 = .none) := by
  rw [flashTick_eq, hx]
  refine ⟨fun h => ?_, fun h => ?_⟩
  · rw [draw_running h]
    refine ⟨rfl, if_congr ?_ rfl rfl⟩
    rw [Bool.and_eq_true, shows_iff, bne_iff_ne]
    rfl
  · rw [draw_ended h]
    exact ⟨rfl, ite_self _⟩

theorem newMark_of_same {p q : Picture} {m : Fin 6} (h : (q.monitor m).held = none ∨ (q.monitor m).held = (p.monitor m).held) :
    newMark p q m = .none := by
  unfold newMark
  split
  · next id hid =>
    rcases h with h | h
    · rw [hid] at h
      cases h
    · exact if_pos (h.symm.trans hid)
  · rfl

theorem newMark_of_new {p q : Picture} {m : Fin 6} {id : SlotId} (hid : (q.monitor m).held = some id)
    (h : (p.monitor m).held ≠ some id) : newMark p q m = ((q.cam id.camera).slot id.index).mark := by
  rw [newMark, hid]
  exact if_neg h

/-! ## The texts and counts of the record -/

theorem seenBeat_eq (b : BeatState) (n : Nat) :
    seenBeat b n = match b.next with
      | some x => if x.onset / 65536 ≤ n then some x else b.current
      | none => b.current := rfl

theorem countField_of_music {seen : Option Beat} {vamps : List Vamp} (h : ∀ b, seen = some b → b.countIn = false) :
    countField seen vamps = vampCount vamps := by
  unfold countField
  split
  · next b => exact if_neg (by rw [h b rfl]; decide)
  · rfl

theorem lastShown_iff (v : Vamp) :
    v.lastShown = true ↔ (v.kind = .opened ∧ v.released = true) ∨ (v.kind = .repeated ∧ v.passes = some v.pass) := by
  unfold Vamp.lastShown
  cases hk : v.kind <;> simp

theorem bannerField_stop {s : State} {x : StopRecord} {rest : List StopRecord} (hstate : s.stops.state ≠ .halted)
    (hstack : s.stops.stack = x :: rest) (hvideo : s.stops.effective.video ≠ .none) :
    bannerField s = some x.source.text := by
  have hforce : s.stops.bannerInForce = true := by
    rw [Stops.bannerInForce, hstack]
    exact bne_iff_ne.mpr hvideo
  rw [bannerField, if_neg hstate, if_pos hforce, stopBannerText, hstack]

theorem bannerField_await {s : State} (hstate : s.stops.state = .awaitResume) (hstack : s.stops.stack = []) :
    bannerField s = some (chars "AWAIT RESUME") := by
  have hforce : s.stops.bannerInForce = true := by
    rw [Stops.bannerInForce, hstack]
    dsimp only
    rw [hstate]
    rfl
  rw [bannerField, if_neg (by rw [hstate]; decide), if_pos hforce, stopBannerText, hstack]
  dsimp only
  rw [hstate]

theorem bannerField_cue {s : State} (hstate : s.stops.state = .clear) (hstack : s.stops.stack = []) :
    bannerField s = s.overlay.banner.map (·.text) := by
  have hforce : s.stops.bannerInForce = false := by
    rw [Stops.bannerInForce, hstack]
    dsimp only
    rw [hstate]
    rfl
  rw [bannerField, if_neg (by rw [hstate]; decide), if_neg (by rw [hforce]; decide)]

theorem noPictureField_iff (p : Picture) (m : Monitor) :
    noPictureField p m = true ↔ ∃ k, p.cameraOf m = some k ∧ (p.cam k).state ≠ .ok := by
  unfold noPictureField
  cases p.cameraOf m with
  | none => simp
  | some k => simp

/-- Settles O40: the overlay record and the flash of a tick. -/
theorem overlayBuilt : Obligations.OverlayBuilt := by
  intro m s hdue
  obtain ⟨t, hexec, hpic, hover, -, -⟩ := frameTick_due hdue
  have hrecord : tget t.overlay.records m = buildRecord (overlaySource s) s.picture m := by
    rw [hover]
    exact overlaid_record (accumulated s) m
  have hflash : tget t.overlay.flashes m = (flashTick (overlaySource s) s.picture m).2 := by
    rw [hover]
    exact overlaid_flash (accumulated s) m
  rw [buildRecord_eq] at hrecord
  refine ⟨t, hexec, ?_⟩
  intro o mon has seen
  have hseen : seen = seenBeat s.beats (s.now + mon.latency) := (seenBeat_eq ..).symm
  have ho : o = _ := hrecord
  rw [← hseen] at ho
  have hdraw := @flash_drawn s m
  unfold startedFlash at hdraw
  rw [ho, hflash, hpic]
  generalize flashTick (overlaySource s) s.picture m = ft at hdraw ⊢
  generalize s.picture.visitAll = p at hdraw ⊢
  refine ⟨fun h => field_pos h, fun h => field_neg h, fun h => field_pos h, fun h => field_neg h, fun h hnone => ?_,
    fun n c h hcurrent hfind => ?_, fun b h hb hcount => ?_, fun h hmusic hvamps => ?_, fun v outer h hmusic hvamps => ?_,
    fun h => field_neg h, fun x rest h hstate hstack hvideo => (field_pos h).trans (bannerField_stop hstate hstack hvideo),
    fun h hstate hstack => (field_pos h).trans (bannerField_await hstate hstack),
    fun h hstate hstack => (field_pos h).trans (bannerField_cue hstate hstack), fun h => field_neg h,
    noPictureField_iff .., beq_iff_eq, ?_⟩
  · refine (field_pos h).trans ?_
    rw [cueField, hnone]
    rfl
  · refine (field_pos h).trans ?_
    rw [cueField, hcurrent, Option.map_some, hfind]
    rfl
  · refine (field_pos h).trans ?_
    rw [hb]
    exact if_pos hcount
  · refine (field_pos h).trans ?_
    rw [countField_of_music hmusic, hvamps]
    rfl
  · refine (field_pos h).trans ?_
    rw [countField_of_music hmusic, hvamps]
    exact if_congr (lastShown_iff v) rfl rfl
  · intro r drawn
    have hclickOnly : ∀ {x : FlashRec}, mon.flashMode ≠ .image → r.startClick mon s.now = x → drawn x := fun {x} hmode hx =>
      hdraw (by rw [startImage_of_not (fun h => absurd h hmode)]; exact hx)
    have himageOnly : ∀ {x : FlashRec}, mon.flashMode ≠ .click → r.startImage mon (newMark s.picture p m) = x → drawn x :=
      fun {x} hmode hx => hdraw (by rw [startClick_of_not (fun h => absurd h hmode)]; exact hx)
    refine ⟨fun hoff => ?_, fun hclick htarget => ?_, fun g hclick htarget hdue => ?_, fun himage hheld => ?_,
      fun id himage hheld hnew => ?_⟩
    · exact hclickOnly (by rw [hoff]; decide) (startClick_of_not fun h => absurd (hoff.symm.trans h) (by decide))
    · exact hclickOnly (by rw [hclick]; decide) (startClick_of_not fun _ => htarget)
    · exact hclickOnly (by rw [hclick]; decide) (startClick_of_due hclick htarget hdue)
    · exact himageOnly (by rw [himage]; decide) (startImage_of_not fun _ => newMark_of_same hheld)
    · intro mark
      have hmark : newMark s.picture p m = mark := newMark_of_new hheld hnew
      exact ⟨fun hnone => himageOnly (by rw [himage]; decide) (startImage_of_not fun _ => hmark.trans hnone),
        fun hsome => himageOnly (by rw [himage]; decide) (by
          rw [hmark]
          exact startImage_of_mark himage hsome)⟩

end Sys2Proof.Machine
end

section
/-!
PROOFS. The CUT of the click (R28, R51), and the commands that end a stop run: SHOW RESET (R182), RESUME AT and MD READY
(R178 to R180).
-/

namespace Sys2Proof.Machine
set_option Elab.async false

/-! ## CUT -/

/-- Every lane of a generator is silent, and its start list empty (R51). -/
def ClickGen.Silent (g : ClickGen) : Prop :=
  ∀ l, (g.lane l).starts = [] ∧ (g.lane l).clickVoice = none ∧ (g.lane l).countVoicePlaying = none

theorem silence_silent (g : ClickGen) : g.silence.Silent := fun l => by
  rw [ClickGen.lane, ClickGen.silence, tget_tmap]
  exact ⟨rfl, rfl, rfl⟩

theorem cutClick_clicks (s : State) : (cutClick s).clicks.Silent := by
  have hclicks : (cutClick s).clicks = (cutBeats s).clicks.silence := by simp [cutClick]
  rw [hclicks]
  exact silence_silent _

theorem cutBeats_pointer (s : State) : (cutBeats s).pointer = s.pointer := by
  by_cases hidle : s.beats.click = .idle
  · rw [cutBeats_of_idle hidle]
  · simp [cutBeats_of_not_idle hidle]

theorem cutClick_pointer (s : State) : (cutClick s).pointer = { s.pointer with armed := none } := by
  have hcut : (cutClick s).pointer = { (cutBeats s).pointer with armed := none } := by simp [cutClick, clearArmed]
  rw [hcut, cutBeats_pointer]

theorem discardOpt_monitors (b : Option Beat) (s : State) : (discardOpt b s).picture.monitors = s.picture.monitors := by
  cases b <;> rfl

theorem cutClick_monitors (s : State) : (cutClick s).picture.monitors = s.picture.monitors := by
  have hcut : (cutClick s).picture = (cutBeats s).picture := by simp [cutClick]
  rw [hcut]
  by_cases hidle : s.beats.click = .idle
  · rw [cutBeats_of_idle hidle]
  · simp [cutBeats_of_not_idle hidle, discardOpt_monitors]

theorem cutBeats_click (s : State) : (cutBeats s).beats.click = .idle := by
  rw [cutBeats_beats]
  split
  · assumption
  · rfl

/-! ## SHOW RESET (R182) -/

theorem lowerCommands_of_nothingRaised {s : State} (h : NothingRaised s) : lowerCommands s = s := by
  rw [lowerCommands, setRaised_same (h .smStop), setRaised_same (h .mdStop), setRaised_same (h .fohStop)]

/-- What a SHOW RESET leaves, with nothing raised (R40, R182). -/
theorem resetShow_spec {s : State} (h : NothingRaised s) :
    (resetShow s).stops = { s.stops with stack := [], state := .awaitResume, holdOff := 0, topTicked := false, topReported := false } ∧
    (resetShow s).resume = { s.resume with target := none, mdReady := false, restoreSet := [] } ∧
    (resetShow s).pointer = { s.pointer with armed := none } ∧ (resetShow s).picture.monitors = s.picture.monitors ∧
    (resetShow s).tempo = s.tempo ∧
    (resetShow s).beats = { (cutBeats s).beats with vamps := [], pushes := [], countInLeft := 0 } ∧
    (resetShow s).clicks.Silent := by
  have hlower : lowerCommands (notify .stop { s with stops := { s.stops with stack := [], topTicked := false, topReported := false } }) =
      notify .stop { s with stops := { s.stops with stack := [], topTicked := false, topReported := false } } :=
    lowerCommands_of_nothingRaised h
  unfold resetShow
  dsimp only
  rw [hlower]
  refine ⟨?_, ?_, ?_, ?_, ?_, ?_, ?_⟩
  · simp [cutBeats_stops, dropResume]
  · simp [dropResume]
  · simp [cutClick_pointer]
  · simp [cutClick_monitors]
  · simp
  · simp [cutBeats_beats, clearCountIn]
  · have hclicks : ∀ u, (setStopState .awaitResume (dropResume (clearCountIn (emptyVamps (cutClick u))))).clicks = (cutClick u).clicks :=
      fun u => by simp
    rw [hclicks]
    exact cutClick_clicks _

/-- Settles O50: the refusals of a SHOW RESET in their order, and its effects. -/
theorem showResets : Obligations.ShowResets := by
  intro r s hfree hrole
  have hframe := onlyRigs_validFrame r.port s
  have hquiet := fun (c : ReplyCode) (ho : ownShowReset (validFrame r.port s) = refuse c (validFrame r.port s)) =>
    command_quiet (roles := [.sm]) (decode := payloadNone) (payload := []) (owner := fun _ => ownShowReset) hfree hrole rfl rfl ho
  have hshow := hframe.inShow
  have hstops := hframe.stops
  refine ⟨_, rfl, ?_⟩
  intro refused
  refine ⟨fun hs => hquiet .setup ?_, fun hs hclear => hquiet .noStop ?_, fun hs hstate => hquiet .busy ?_,
    fun hs hstate => ⟨fun hrelay => hquiet .relay ?_, fun hrelay hnothing => ?_⟩⟩
  · simp [ownShowReset, hshow, hs]
  · simp [ownShowReset, hshow, hs, hclear]
  · rcases hstate with h | h | h <;> simp [ownShowReset, hshow, hs, h, StopState.refusesReset]
  · rcases hstate with h | h | h <;> simp [ownShowReset, hshow, hs, h, hrelay, StopState.refusesReset]
  · have howner : ownShowReset (validFrame r.port s) = accept (showReset (validFrame r.port s)) := by
      rcases hstate with h | h | h <;> simp [ownShowReset, hshow, hs, h, hrelay, StopState.refusesReset]
    obtain ⟨h1, h2, h3, h4, h5, h6, h7⟩ := resetShow_spec (hframe.nothingRaised hnothing)
    rw [showReset_eq, sample_of_nothingRaised false ((hframe.nothingRaised hnothing).congr (by rw [h1]))] at howner
    generalize resetShow (validFrame r.port s) = w at howner h1 h2 h3 h4 h5 h6 h7
    obtain ⟨hstate', hreplied⟩ := command_replied (roles := [.sm]) (decode := payloadNone) (payload := [])
      (owner := fun _ => ownShowReset) hfree hrole rfl rfl howner
    have hbeats := (congrArg State.beats hstate' :).trans h6
    have hclicks := (congrArg State.clicks hstate' :)
    refine ⟨hreplied, (congrArg State.stops hstate' :).trans (h1.trans (by rw [hstops])),
      (congrArg State.resume hstate' :).trans (h2.trans (by rw [hframe.resume])),
      (congrArg State.pointer hstate' :).trans (h3.trans (by rw [hframe.pointer])),
      (congrArg (fun t : State => t.picture.monitors) hstate' :).trans (h4.trans (by simp)),
      (congrArg State.tempo hstate' :).trans (h5.trans (by simp)), ?_⟩
    have hcut := cutBeats_beats (validFrame r.port s)
    have hb : (validFrame r.port s).beats = s.beats := by simp
    rw [hb] at hcut
    refine ⟨?_, fun hne => ?_, ?_, ?_, ?_, ?_, ?_, ?_, ?_⟩
    · rw [hbeats]
      exact cutBeats_click _
    · rw [hbeats, hcut, if_neg hne]
      exact ⟨rfl, rfl⟩
    · rw [hbeats]
    · rw [hbeats]
    · rw [hbeats, hcut]
      split <;> rfl
    · rw [hbeats, hcut]
      split <;> rfl
    · rw [hbeats, hcut]
      split <;> rfl
    · rw [hbeats]
    · rw [hclicks]
      exact h7

/-! ## The restores of a resume (R178) -/

theorem rig_placeChange_ne {j k : Slot} (h : j ≠ k) (x : Handed) (s : State) : (placeChange j x s).rig k = s.rig k := by
  have hset : ∀ r u, (setRig j r u).rig k = u.rig k := fun r u => by rw [rig_setRig, if_neg h]
  unfold placeChange
  dsimp only
  split
  · rfl
  · rfl
  · exact hset _ _
  · split
    · rw [rig_sendChange_ne _ _ h, hset]
    · rw [hset, hset]

theorem rigPort_placeChange_ne {j : Slot} {q : RigPort} {x : Handed} {s : State} (h : (s.rig j).boundPort ≠ some q) :
    (placeChange j x s).rigPort q = s.rigPort q := by
  unfold placeChange
  dsimp only
  split
  · rfl
  · rfl
  · exact rigPort_setRig ..
  · split
    · rw [rigPort_sendChange_ne _ _ (by rw [rig_setRig_same, Rig.supersede_boundPort]; exact h), rigPort_setRig]
    · rw [rigPort_setRig, rigPort_setRig]

theorem onlyRigs_placeChange (k : Slot) (x : Handed) (s : State) : OnlyRigs s (placeChange k x s) := by
  apply state_ext <;> simp

/-- The patch of a slot's restore: the chase of the target (R178). -/
def restorePatch (s : State) (k : Slot) : Patch := s.tables.resolve k (s.tables.patchChase (targetChase s) k).1

/-- A slot is handed a restore: it is bound, not in FAULT, and not settled at the target's patch (R178). -/
def RestoreDue (s : State) (k : Slot) : Prop :=
  (s.rig k).boundPort ≠ none ∧ (s.rig k).state ≠ .fault ∧ (s.rig k).settledAt (restorePatch s k) = false

/-- A slot that is due is handed its restore and joins the set; another is left. -/
theorem restoreSlot_eq (k : Slot) (s : State) :
    (RestoreDue s k → restoreSlot s k = { placeChange k (restoreFor k (s.tables.patchChase (targetChase s) k).1 s) s with
      resume := { s.resume with restoreSet := s.resume.restoreSet ++ [(k, restorePatch s k)] } }) ∧
    (¬ RestoreDue s k → restoreSlot s k = s) := by
  unfold restoreSlot
  dsimp only
  refine ⟨fun ⟨hbound, hfault, hsettled⟩ => ?_, fun hnot => ?_⟩
  · have htest : ((s.rig k).boundPort.isNone || (s.rig k).state == .fault) = false := by
      simpa using ⟨Option.isSome_iff_ne_none.mpr hbound, hfault⟩
    rw [htest, if_neg (by decide), if_neg (by rw [show (restoreFor k _ s).patch = restorePatch s k from rfl, hsettled]; decide),
      (onlyRigs_placeChange ..).resume]
    rfl
  · split
    · rfl
    · next htest =>
      refine if_pos (not_not.mp fun hs => hnot ?_)
      obtain ⟨hbound, hfault⟩ : (s.rig k).boundPort ≠ none ∧ (s.rig k).state ≠ .fault := by
        simpa [Option.isSome_iff_ne_none] using htest
      exact ⟨hbound, hfault, Bool.eq_false_iff.mpr hs⟩

/-- What the handing of restores moves, slot by slot: the rigs of the slots visited, and the restore set. -/
structure RestoresHanded (l : List Slot) (s t : State) : Prop where
  parts : t = { s with rigs := t.rigs, resume := { s.resume with restoreSet := t.resume.restoreSet }, desk := t.desk }
  rigs : ∀ j, j ∉ l → t.rig j = s.rig j
  bound : ∀ j, (t.rig j).boundPort = (s.rig j).boundPort
  mem : ∀ k x, (k, x) ∈ t.resume.restoreSet ↔
    (k, x) ∈ s.resume.restoreSet ∨ (k ∈ l ∧ RestoreDue s k ∧ x = restorePatch s k)
  sent : ∀ k p, k ∈ l → (s.rig k).boundPort = some p → (∀ j, j ≠ k → (s.rig j).boundPort ≠ some p) → RestoreDue s k →
    (s.rig k).state = .ready → (s.rig k).pendingChange = none →
    t.rig k = (s.rig k).sent (restorePatch s k) .restore (!(s.rigPort p).bit) s.now

theorem parts_trans {s u t : State}
    (hu : u = { s with rigs := u.rigs, resume := { s.resume with restoreSet := u.resume.restoreSet }, desk := u.desk })
    (ht : t = { u with rigs := t.rigs, resume := { u.resume with restoreSet := t.resume.restoreSet }, desk := t.desk }) :
    t = { s with rigs := t.rigs, resume := { s.resume with restoreSet := t.resume.restoreSet }, desk := t.desk } := by
  refine ht.trans ?_
  generalize t.resume.restoreSet = x
  rw [hu]

/-- The handing of one restore. -/
theorem restoreSlot_handed (k : Slot) (s : State) :
    RestoresHanded [k] s (restoreSlot s k) ∧
    ∀ q, (s.rig k).boundPort ≠ some q → (restoreSlot s k).rigPort q = s.rigPort q := by
  by_cases hdue : RestoreDue s k
  · have honly := onlyRigs_placeChange k (restoreFor k (s.tables.patchChase (targetChase s) k).1 s) s
    have hrigs := fun j (hj : j ≠ k) => rig_placeChange_ne (Ne.symm hj) (restoreFor k (s.tables.patchChase (targetChase s) k).1 s) s
    have hports := fun q => rigPort_placeChange_ne (q := q) (x := restoreFor k (s.tables.patchChase (targetChase s) k).1 s) (s := s)
      (j := k)
    have hbound := (sameBound_steady s).of_placeChange k (restoreFor k (s.tables.patchChase (targetChase s) k).1 s) (.refl s)
    have hsent := fun hready hnone => placeChange_ready (k := k) (s := s)
      (x := restoreFor k (s.tables.patchChase (targetChase s) k).1 s) hready hnone (restoreFor_kind k _ s)
    rw [(restoreSlot_eq k s).1 hdue]
    refine ⟨{ parts := ?_, rigs := fun j hj => hrigs j (by simpa using hj), bound := hbound, mem := fun j x => ?_,
              sent := fun j p hj hport _ _ hready hnone => ?_ }, hports⟩
    · generalize placeChange k (restoreFor k (s.tables.patchChase (targetChase s) k).1 s) s = v at honly
      unfold OnlyRigs at honly
      rw [honly]
    · show _ ∈ s.resume.restoreSet ++ _ ↔ _
      rw [List.mem_append, List.mem_singleton, List.mem_singleton, Prod.mk.injEq]
      refine or_congr_right ⟨?_, ?_⟩
      · rintro ⟨rfl, rfl⟩
        exact ⟨rfl, hdue, rfl⟩
      · rintro ⟨rfl, -, rfl⟩
        exact ⟨rfl, rfl⟩
    · obtain rfl := List.mem_singleton.mp hj
      show (placeChange j _ s).rig j = _
      rw [hsent hready hnone, rig_sendChange _ _ hport]
      rfl
  · rw [(restoreSlot_eq k s).2 hdue]
    refine ⟨{ parts := rfl, rigs := fun _ _ => rfl, bound := fun _ => rfl, mem := fun j x => ?_, sent := fun j p hj _ _ hd => ?_ },
      fun _ _ => rfl⟩
    · rw [List.mem_singleton]
      refine ⟨.inl, fun h => h.resolve_right ?_⟩
      rintro ⟨rfl, hd, -⟩
      exact hdue hd
    · obtain rfl := List.mem_singleton.mp hj
      exact absurd hd hdue

theorem RestoresHanded.patch {l : List Slot} {s t : State} (h : RestoresHanded l s t) (k : Slot) :
    restorePatch t k = restorePatch s k := by
  have htables : t.tables = s.tables := (congrArg State.tables h.parts :)
  have htarget : t.resume.target = s.resume.target := (congrArg (fun t : State => t.resume.target) h.parts :)
  rw [restorePatch, targetChase, htables, htarget]
  rfl

theorem RestoresHanded.due {l : List Slot} {s t : State} (h : RestoresHanded l s t) {k : Slot} (hk : k ∉ l) :
    RestoreDue t k ↔ RestoreDue s k := by
  rw [RestoreDue, RestoreDue, h.patch, h.rigs k hk]

/-- The handing of restores, slot by slot. -/
theorem restoresHanded_fold (l : List Slot) (hl : l.Nodup) (s : State) : RestoresHanded l s (l.foldl restoreSlot s) := by
  induction l generalizing s with
  | nil => exact {
      parts := rfl, rigs := fun _ _ => rfl, bound := fun _ => rfl, mem := fun k x => by simp, sent := fun k p hk => (by cases hk) }
  | cons a l ih =>
    obtain ⟨ha, hl⟩ := List.nodup_cons.mp hl
    obtain ⟨hstep, hports⟩ := restoreSlot_handed a s
    have hrest := ih hl (restoreSlot s a)
    have hsame : ∀ j, j ≠ a → (restoreSlot s a).rig j = s.rig j := fun j hj => hstep.rigs j (by simpa using hj)
    rw [List.foldl_cons]
    exact {
      parts := parts_trans hstep.parts hrest.parts
      rigs := fun j hj => by
        rw [List.mem_cons, not_or] at hj
        rw [hrest.rigs j hj.2, hsame j hj.1]
      bound := fun j => (hrest.bound j).trans (hstep.bound j)
      mem := fun k x => by
        rw [hrest.mem, hstep.mem, hstep.patch, List.mem_singleton, List.mem_cons, or_assoc]
        refine or_congr_right ⟨?_, ?_⟩
        · rintro (⟨rfl, hd⟩ | ⟨hk, hd, hx⟩)
          · exact ⟨.inl rfl, hd⟩
          · have hka : k ∉ [a] := fun h => ha (List.mem_singleton.mp h ▸ hk)
            exact ⟨.inr hk, (hstep.due hka).mp hd, hx⟩
        · rintro ⟨rfl | hk, hd, hx⟩
          · exact .inl ⟨rfl, hd, hx⟩
          · have hka : k ∉ [a] := fun h => ha (List.mem_singleton.mp h ▸ hk)
            exact .inr ⟨hk, (hstep.due hka).mpr hd, hx⟩
      sent := fun k p hk hbound hother hd hready hnone => by
        by_cases hka : k = a
        · subst hka
          rw [hrest.rigs k ha]
          exact hstep.sent k p (List.mem_singleton_self k) hbound hother hd hready hnone
        · have hport : (restoreSlot s a).rigPort p = s.rigPort p := hports p (hother a (Ne.symm hka))
          have hnow : (restoreSlot s a).now = s.now := (congrArg (fun t : State => t.time.clock) hstep.parts :)
          have hsent := hrest.sent k p ((List.mem_cons.mp hk).resolve_left hka) (by rw [hsame k hka]; exact hbound)
            (fun j hj => by rw [hstep.bound]; exact hother j hj) ((hstep.due (by simpa using hka)).mpr hd)
            (by rw [hsame k hka]; exact hready) (by rw [hsame k hka]; exact hnone)
          rw [hsent, hsame k hka, hport, hnow, hstep.patch] }

/-- The restores of a target, handed from a state without a pending SAFE (R178). -/
structure RestoresIssued (s t : State) : Prop where
  parts : t = { s with
    rigs := t.rigs, stops := { s.stops with state := .restoring }
    resume := { s.resume with restoreSet := t.resume.restoreSet }, desk := t.desk }
  mem : ∀ k x, (k, x) ∈ t.resume.restoreSet ↔ RestoreDue s k ∧ x = restorePatch s k
  sent : ∀ k p, BoundPair p k s → RestoreDue s k → (s.rig k).state = .ready → (s.rig k).pendingChange = none →
    t.rig k = (s.rig k).sent (restorePatch s k) .restore (!(s.rigPort p).bit) s.now

theorem issueRestores_issued {s : State} (hsafe : ∀ k x, (s.rig k).pendingChange = some x → x.kind ≠ .safe) :
    RestoresIssued s (issueRestores s) := by
  have hrigs := setStopState_rigs_of_no_safe (x := .restoring) (by decide)
    (s := { s with resume := { s.resume with restoreSet := [] } }) hsafe
  have hstart : setStopState .restoring { s with resume := { s.resume with restoreSet := [] } } =
      { s with
        stops := { s.stops with state := .restoring }, resume := { s.resume with restoreSet := [] }
        desk := (setStopState .restoring { s with resume := { s.resume with restoreSet := [] } }).desk } := by
    apply state_ext <;> simp [hrigs]
  have hfold := restoresHanded_fold allSlots allSlots_nodup
    (setStopState .restoring { s with resume := { s.resume with restoreSet := [] } })
  unfold issueRestores
  generalize setStopState .restoring { s with resume := { s.resume with restoreSet := [] } } = u at hstart hfold
  have hrig : ∀ j, u.rig j = s.rig j := fun j => by rw [hstart]; rfl
  have hpatch : ∀ k, restorePatch u k = restorePatch s k := fun k => by rw [hstart]; rfl
  have hdue : ∀ k, RestoreDue u k ↔ RestoreDue s k := fun k => by rw [RestoreDue, RestoreDue, hrig, hpatch]
  generalize allSlots.foldl restoreSlot u = t at hfold
  exact {
    parts := by
      refine hfold.parts.trans ?_
      generalize t.resume.restoreSet = x
      rw [hstart]
    mem := fun k x => by
      have hempty : u.resume.restoreSet = [] := by rw [hstart]
      rw [hfold.mem, hempty, hdue, hpatch]
      simp [mem_allSlots]
    sent := fun k p hpair hd hready hnone => by
      rw [hfold.sent k p (mem_allSlots k) (by rw [hrig]; exact hpair.port) (fun j hj => by rw [hrig]; exact hpair.slots j hj)
        ((hdue k).mpr hd) (by rw [hrig]; exact hready) (by rw [hrig]; exact hnone), hrig, hpatch, hstart]
      rfl }

end Sys2Proof.Machine
end

section
/-!
PROOFS. The resume is prepared: RESUME AT (R178) and MD READY (R179, R180).
-/

namespace Sys2Proof.Machine
set_option Elab.async false

/-! ## RESUME AT (R178) -/

theorem isSome_find_iff (t : Tables) (n : Nat) : (t.find n).isSome = true ↔ ∃ x ∈ t.cues, x.number = n := by
  simp [Tables.find, List.find?_isSome]

/-- Without a pending SAFE the clearing of md_ready leaves the rigs (R115). -/
theorem clearMdReady_rigs {s : State} (hsafe : ∀ k x, (s.rig k).pendingChange = some x → x.kind ≠ .safe) :
    (clearMdReady s).rigs = s.rigs := by
  unfold clearMdReady
  dsimp only
  split
  · rw [setStopState_rigs_of_no_safe (by decide) fun j y => by rw [rig_notifyIf]; exact hsafe j y]
    simp
  · simp

/-- What a RESUME AT leaves, from a state without a pending SAFE (R178). -/
theorem resumeAt_spec {g : Target} {s : State} (hsafe : ∀ k x, (s.rig k).pendingChange = some x → x.kind ≠ .safe) :
    resumeAt g s = { s with
      stops := { s.stops with state := .restoring }
      resume := { s.resume with target := some g, mdReady := false, restoreSet := (resumeAt g s).resume.restoreSet }
      rigs := (resumeAt g s).rigs, desk := (resumeAt g s).desk } ∧
    ∀ k x, (k, x) ∈ (resumeAt g s).resume.restoreSet ↔
      (s.rig k).boundPort ≠ none ∧ (s.rig k).state ≠ .fault ∧
      x = s.tables.resolve k (s.tables.patchChase (.cue g.cue) k).1 ∧ (s.rig k).settledAt x = false := by
  have htarget : notifyIf (s.resume.target != some g) .stop { s with resume := { s.resume with target := some g } } = { s with
      resume := { s.resume with target := some g }
      desk := (notifyIf (s.resume.target != some g) .stop { s with resume := { s.resume with target := some g } }).desk } := by
    apply state_ext <;> simp
  unfold resumeAt
  dsimp only
  generalize notifyIf (s.resume.target != some g) .stop { s with resume := { s.resume with target := some g } } = u at htarget
  have hrig : ∀ k, u.rig k = s.rig k := fun k => by rw [htarget]; rfl
  have hnoSafe : ∀ k x, (u.rig k).pendingChange = some x → x.kind ≠ .safe := fun k x => by rw [hrig]; exact hsafe k x
  have hclear := clearMdReady_eq u
  rw [clearMdReady_rigs hnoSafe] at hclear
  generalize clearMdReady u = v at hclear
  have hrig' : ∀ k, v.rig k = s.rig k := fun k => by rw [hclear]; exact hrig k
  have hissued := issueRestores_issued (s := v) fun k x => by rw [hrig']; exact hsafe k x
  have hpatch : ∀ k, restorePatch v k = s.tables.resolve k (s.tables.patchChase (.cue g.cue) k).1 := fun k => by
    rw [hclear, htarget]
    rfl
  generalize issueRestores v = t at hissued
  refine ⟨?_, fun k x => ?_⟩
  · refine hissued.parts.trans ?_
    generalize t.resume.restoreSet = y
    rw [hclear, htarget]
  · rw [hissued.mem, RestoreDue, hrig', hpatch]
    refine ⟨?_, ?_⟩
    · rintro ⟨⟨hbound, hfault, hsettled⟩, rfl⟩
      exact ⟨hbound, hfault, rfl, hsettled⟩
    · rintro ⟨hbound, hfault, rfl, hsettled⟩
      exact ⟨⟨hbound, hfault, hsettled⟩, rfl⟩

/-- A RESUME AT is refused or carried out in the order of its tests (R178). -/
theorem resumeAt_answered {r : Req} {a b c d e f : Byte} {s : State} (hfree : Free r s) (hrole : FromRole .sm r s) :
    let n := word4 a b c d
    let off := word2 e f
    ∃ t, exec (.resumeAt r [a, b, c, d, e, f]) s = .next t ∧
    let refused := fun (code : ReplyCode) => t = { s with desk := t.desk } ∧ Served r code [] 0 s t
    (s.inShow = false → refused .setup) ∧
    (s.inShow = true → s.stops.state = .clear → refused .noStop) ∧
    (s.inShow = true → (s.stops.state = .stopping ∨ s.stops.state = .stopped ∨ s.stops.state = .halted) →
      refused .stopped) ∧
    (s.inShow = true → s.stops.state.ofResume = true →
      ((99999 < n ∨ 255 < off) → refused .range) ∧
      (n ≤ 99999 → off ≤ 255 → (∀ x ∈ s.tables.cues, x.number ≠ n) → refused .noCue) ∧
      (n ≤ 99999 → off ≤ 255 → (∃ x ∈ s.tables.cues, x.number = n) →
        (∀ k x, (s.rig k).pendingChange = some x → x.kind ≠ .safe) →
        Replied r .ok [] t ∧
        t = { s with
          stops := { s.stops with state := .restoring }
          resume := { s.resume with target := some ⟨n, off⟩, mdReady := false, restoreSet := t.resume.restoreSet }
          rigs := t.rigs
          desk := t.desk } ∧
        (∀ k x, (k, x) ∈ t.resume.restoreSet ↔
          (s.rig k).boundPort ≠ none ∧ (s.rig k).state ≠ .fault ∧
          x = s.tables.resolve k (s.tables.patchChase (.cue n) k).1 ∧ (s.rig k).settledAt x = false))) := by
  intro n off
  have hframe := onlyRigs_validFrame r.port s
  have hshow := hframe.inShow
  have hstops := hframe.stops
  have htables := hframe.tables
  have hquiet := fun (code : ReplyCode)
      (ho : ownResumeAt (n, off) (validFrame r.port s) = refuse code (validFrame r.port s)) =>
    command_quiet (roles := [.sm]) (decode := payloadResumeAt) (payload := [a, b, c, d, e, f]) (owner := ownResumeAt) hfree hrole
      rfl rfl ho
  refine ⟨_, rfl, ?_⟩
  intro refused
  refine ⟨fun hs => hquiet .setup ?_, fun hs hclear => hquiet .noStop ?_, fun hs hstate => hquiet .stopped ?_,
    fun hs hof => ?_⟩
  · simp [ownResumeAt, hshow, hs]
  · simp [ownResumeAt, hshow, hs, hclear]
  · rcases hstate with h | h | h <;> simp [ownResumeAt, hshow, hs, h, StopState.ofResume]
  · have hclear : s.stops.state ≠ .clear := fun h => by rw [h] at hof; cases hof
    have howner : ownResumeAt (n, off) (validFrame r.port s) =
        if 99999 < n ∨ 255 < off then refuse .range (validFrame r.port s)
        else if (s.tables.find n).isNone then refuse .noCue (validFrame r.port s)
        else accept (resumeAt ⟨n, off⟩ (validFrame r.port s)) := by
      rw [ownResumeAt, hshow, hs, if_neg (by decide), hstops, if_neg hclear, hof, if_neg (by decide), htables]
      rfl
    refine ⟨fun hrange => hquiet .range (by rw [howner, if_pos hrange]), fun hn hoff hnone => hquiet .noCue ?_,
      fun hn hoff hcue hsafe => ?_⟩
    · rw [howner, if_neg (by omega), if_pos]
      rw [Option.isNone_iff_eq_none, ← Option.not_isSome_iff_eq_none, isSome_find_iff]
      rintro ⟨x, hx, hxn⟩
      exact hnone x hx hxn
    · rw [if_neg (by omega), if_neg (by
        rw [Option.isNone_iff_eq_none, ← ne_eq, ← Option.isSome_iff_ne_none]
        exact (isSome_find_iff _ _).mpr hcue)] at howner
      obtain ⟨hparts, hmem⟩ := resumeAt_spec (g := ⟨n, off⟩) (s := validFrame r.port s) fun k x => by
        rw [rig_validFrame]; exact hsafe k x
      generalize resumeAt ⟨n, off⟩ (validFrame r.port s) = w at howner hparts hmem
      obtain ⟨hstate, hreplied⟩ := command_replied (roles := [.sm]) (decode := payloadResumeAt) (payload := [a, b, c, d, e, f])
        (owner := ownResumeAt) hfree hrole rfl rfl howner
      refine ⟨hreplied, ?_, fun k x => ?_⟩
      · have hset := (congrArg (fun t : State => t.resume.restoreSet) hstate :)
        have hrigs := (congrArg State.rigs hstate :)
        rw [hset, hrigs]
        refine hstate.trans ?_
        generalize (command r [.sm] payloadResumeAt [a, b, c, d, e, f] ownResumeAt s).desk = y
        have hw := (congrArg (fun v : State => { v with desk := y }) hparts :)
        refine hw.trans ?_
        rw [hframe]
      · have hset := (congrArg (fun t : State => t.resume.restoreSet) hstate :)
        rw [hset, hmem, rig_validFrame, htables]

/-! ## MD READY (R180) -/

theorem ofResume_iff {x : StopState} : x.ofResume = true ↔ x = .awaitResume ∨ x = .restoring ∨ x = .resumeArmed := by
  cases x <;> decide

/-- The review of a prepared resume: RESTORING with no restore left becomes RESUME_ARMED, and the other states stand. -/
theorem reviewRestore_ready {s : State} (hready : s.resume.mdReady = true)
    (hstate : s.stops.state = .awaitResume ∨ s.stops.state = .restoring ∨
      (s.stops.state = .resumeArmed ∧ s.resume.restoreSet = [])) :
    reviewRestore s =
      if s.stops.state = .restoring ∧ (keepRestores s).resume.restoreSet = [] then
        notify .stop { keepRestores s with stops := { s.stops with state := .resumeArmed } }
      else keepRestores s := by
  have hmd : (keepRestores s).resume.mdReady = true := hready
  have hreview : reviewRestore s =
      if s.stops.state = .restoring ∧ ((keepRestores s).resume.restoreSet.isEmpty && (keepRestores s).resume.mdReady) = true then
        setStopState .resumeArmed (keepRestores s)
      else if s.stops.state = .resumeArmed ∧
          (!((keepRestores s).resume.restoreSet.isEmpty && (keepRestores s).resume.mdReady)) = true then
        setStopState .restoring (keepRestores s)
      else keepRestores s := rfl
  rw [hreview, hmd, Bool.and_true]
  by_cases hnow : s.stops.state = .restoring ∧ (keepRestores s).resume.restoreSet = []
  · have hne : (s.stops.state != .resumeArmed) = true := by rw [hnow.1]; rfl
    rw [if_pos hnow, if_pos ⟨hnow.1, List.isEmpty_iff.mpr hnow.2⟩]
    show notifyIf (s.stops.state != .resumeArmed) .stop { keepRestores s with stops := { s.stops with state := .resumeArmed } } = _
    rw [hne]
    rfl
  · rw [if_neg hnow, if_neg fun h => hnow ⟨h.1, List.isEmpty_iff.mp h.2⟩]
    refine if_neg fun h => ?_
    rcases hstate with hs | hs | ⟨hs, hempty⟩
    · rw [hs] at h
      exact absurd h.1 (by decide)
    · rw [hs] at h
      exact absurd h.1 (by decide)
    · have hkept : (keepRestores s).resume.restoreSet = [] := by simp [keepRestores, hempty]
      rw [hkept] at h
      exact absurd h.2 (by decide)

/-- An MD READY that sets md_ready: the complete restores leave the set, and a resume with none left is armed (R179, R180). -/
structure MdReadied (s t : State) : Prop where
  parts : t = { s with
    stops := { s.stops with state :=
      if s.stops.state = .restoring ∧ (keepRestores s).resume.restoreSet = [] then .resumeArmed else s.stops.state }
    resume := { s.resume with mdReady := true, restoreSet := (keepRestores s).resume.restoreSet }
    desk := t.desk }
  ports : ∀ q, t.port q = (s.port q).addKinds NoticeKind.stop.bit

theorem mdReadied {s : State}
    (hstate : s.stops.state = .awaitResume ∨ s.stops.state = .restoring ∨
      (s.stops.state = .resumeArmed ∧ s.resume.restoreSet = [])) :
    MdReadied s (reviewRestore (notify .stop { s with resume := { s.resume with mdReady := true } })) := by
  have hkept : keepRestores (notify .stop { s with resume := { s.resume with mdReady := true } }) =
      notify .stop { keepRestores s with resume := { (keepRestores s).resume with mdReady := true } } := rfl
  have hreview := reviewRestore_ready (s := notify .stop { s with resume := { s.resume with mdReady := true } }) rfl hstate
  rw [hkept] at hreview
  generalize reviewRestore (notify .stop { s with resume := { s.resume with mdReady := true } }) = t at hreview
  by_cases hnow : s.stops.state = .restoring ∧ (keepRestores s).resume.restoreSet = []
  · have ht := hreview.trans (if_pos hnow)
    refine ⟨?_, fun q => ?_⟩
    · rw [if_pos hnow, ht]
      rfl
    · rw [ht, port_notify]
      refine (congrArg (DeskPortRec.addKinds NoticeKind.stop.bit) (port_notify ..)).trans ?_
      exact (addKinds_addKinds ..).trans (by rw [BitVec.or_self]; rfl)
  · have ht := hreview.trans (if_neg hnow)
    refine ⟨?_, fun q => ?_⟩
    · rw [if_neg hnow, ht]
      rfl
    · rw [ht]
      exact port_notify ..

/-- An MD READY is refused or carried out by the stop state and md_ready (R180). -/
theorem mdReady_answered {r : Req} {s : State} (hfree : Free r s) (hrole : FromRole .md r s) :
    ∃ t, exec (.mdReady r []) s = .next t ∧
      ((s.inShow = false ∨ s.stops.state.ofResume = false) → t = { s with desk := t.desk } ∧ Served r .noStop [] 0 s t) ∧
      (s.inShow = true → s.stops.state.ofResume = true → s.resume.mdReady = true →
        t = { s with desk := t.desk } ∧ Served r .ok [] 0 s t) ∧
      (s.inShow = true → s.stops.state.ofResume = true → s.resume.mdReady = false → s.resume.restoreSet = [] →
        t = { s with
          stops := { s.stops with
            state := if s.stops.state = .restoring then .resumeArmed else s.stops.state }
          resume := { s.resume with mdReady := true }
          desk := t.desk } ∧ Served r .ok [] 0x02 s t) ∧
      (s.inShow = true → (s.stops.state = .awaitResume ∨ s.stops.state = .restoring) → s.resume.mdReady = false →
        t = { s with
          stops := { s.stops with state := t.stops.state }
          resume := { s.resume with mdReady := true, restoreSet := t.resume.restoreSet }
          desk := t.desk } ∧ Served r .ok [] 0x02 s t ∧ RestoresKept s t ∧
        (s.stops.state = .awaitResume → t.stops.state = .awaitResume) ∧
        (s.stops.state = .restoring → ArmedWhenRestored t)) := by
  have hframe := onlyRigs_validFrame r.port s
  have hshow := hframe.inShow
  have hstops := hframe.stops
  have hresume := hframe.resume
  have hquiet := fun (code : ReplyCode) (ho : ownMdReady (validFrame r.port s) = ⟨⟨code, []⟩, validFrame r.port s⟩) =>
    command_quiet (roles := [.md]) (decode := payloadNone) (payload := []) (owner := fun _ => ownMdReady) hfree hrole rfl rfl ho
  have hset : s.inShow = true → s.stops.state.ofResume = true → s.resume.mdReady = false →
      (s.stops.state = .awaitResume ∨ s.stops.state = .restoring ∨
        (s.stops.state = .resumeArmed ∧ s.resume.restoreSet = [])) →
      let t := command r [.md] payloadNone [] (fun _ => ownMdReady) s
      t = { s with
        stops := { s.stops with state :=
          if s.stops.state = .restoring ∧ (keepRestores s).resume.restoreSet = [] then .resumeArmed else s.stops.state }
        resume := { s.resume with mdReady := true, restoreSet := (keepRestores s).resume.restoreSet }
        desk := t.desk } ∧ Served r .ok [] 0x02 s t := fun hs hof hmd hstate => by
    intro t
    have howner : ownMdReady (validFrame r.port s) = accept (reviewRestore (notify .stop { validFrame r.port s with
        resume := { (validFrame r.port s).resume with mdReady := true } })) := by
      simp [ownMdReady, hshow, hs, hof, hmd]
    obtain ⟨hparts, hports⟩ := mdReadied (s := validFrame r.port s) hstate
    generalize reviewRestore (notify .stop { validFrame r.port s with
        resume := { (validFrame r.port s).resume with mdReady := true } }) = w at howner hparts hports
    obtain ⟨hnext, hserved⟩ := command_served (roles := [.md]) (decode := payloadNone) (payload := []) (owner := fun _ => ownMdReady)
      NoticeKind.stop.bit hfree hrole rfl rfl howner hports
    refine ⟨hnext.trans ?_, hserved⟩
    generalize t.desk = y
    exact (congrArg (fun v : State => { v with desk := y }) hparts :)
  refine ⟨_, rfl, fun h => hquiet .noStop ?_, fun hs hof hmd => hquiet .ok ?_, fun hs hof hmd hempty => ?_,
    fun hs hstate hmd => ?_⟩
  · rcases h with h | h <;> simp [ownMdReady, hshow, h, refuse]
  · simp [ownMdReady, hshow, hs, hof, hmd, accept]
  · have hkept : (keepRestores s).resume.restoreSet = [] := by simp [keepRestores, hempty]
    obtain ⟨hnext, hserved⟩ := hset hs hof hmd (by
      rcases ofResume_iff.mp hof with h | h | h
      · exact .inl h
      · exact .inr (.inl h)
      · exact .inr (.inr ⟨h, hempty⟩))
    rw [hkept] at hnext
    simp only [and_true] at hnext
    rw [← hempty] at hnext
    exact ⟨hnext, hserved⟩
  · obtain ⟨hnext, hserved⟩ := hset hs (by rcases hstate with h | h <;> rw [h] <;> rfl) hmd (hstate.imp_right .inl)
    have hstate' := (congrArg (fun t : State => t.stops.state) hnext :)
    have hset' := (congrArg (fun t : State => t.resume.restoreSet) hnext :)
    have hrigs := (congrArg State.rigs hnext :)
    have hmd' := (congrArg (fun t : State => t.resume.mdReady) hnext :)
    refine ⟨?_, hserved, restoresKept_of rfl hset' hrigs, fun h => ?_, fun h => ?_⟩
    · rw [hstate', hset']
      exact hnext
    · rw [hstate']
      simp [h]
    · unfold ArmedWhenRestored
      rw [hstate', hset', hmd']
      simp [h]

/-- Settles O48: the refusals of RESUME AT and of MD READY, and their effects. -/
theorem resumePrepared : Obligations.ResumePrepared := fun _ _ hfree =>
  ⟨fun _ _ _ _ _ _ hrole => resumeAt_answered hfree hrole, fun hrole => mdReady_answered hfree hrole⟩

end Sys2Proof.Machine
end

section
/-!
PROOFS. The take of a cue (R86 to R91): what each of its parts writes, and the first beat of a START (R25, R31).
-/

namespace Sys2Proof.Machine
set_option Elab.async false

/-! ## The parts of a take -/

/-- The state in which a taken cue's click action is carried out: the pointer, the tempo, the meter and the bar have been taken
(R86, R87). -/
def calledCue (c : Cue) (s : State) : State :=
  takeMeterAndBar c (setTempoState (s.tempo.apply c.tempo) (takePointer c s))

/-- The pointer that a take leaves, but for chase-pending (R86). -/
def takenPointer (c : Cue) (s : State) : Pointer :=
  { s.pointer with current := some c.number, standing := s.tables.standingAfter c.number, armed := none }

theorem calledCue_parts (c : Cue) (s : State) :
    calledCue c s = { s with
      pointer := takenPointer c s
      tempo := s.tempo.apply c.tempo
      beats := { s.beats with
        pendingMeter := c.meter <|> s.beats.pendingMeter, pendingBar := c.scoreBar <|> s.beats.pendingBar }
      desk := (calledCue c s).desk } := by
  apply state_ext <;> simp [calledCue, takeMeterAndBar, setTempoState, takePointer, setPointer, takenPointer]

/-- The banner of a cue's video action, where it has one (R146). -/
def takenBanner (c : Cue) (now : Nat) (old : Option CueBanner) : Option CueBanner :=
  ((c.video.bind (·.banner)).map fun b => ⟨b.text, b.duration, now⟩) <|> old

theorem takeVideo_parts (c : Cue) (s : State) :
    takeVideo c s = { s with
      picture := { s.picture with auto := (c.video.bind (·.camera)).getD s.picture.auto }
      overlay := { s.overlay with banner := takenBanner c s.now s.overlay.banner }
      desk := (takeVideo c s).desk } := by
  unfold takeVideo takenBanner
  cases c.video with
  | none => rfl
  | some v =>
    obtain ⟨camera, banner⟩ := v
    cases camera <;> cases banner <;> apply state_ext <;> simp [setAuto]

theorem takeChanges_parts (c : Cue) (s : State) :
    takeChanges c s = { s with
      pointer := { s.pointer with chasePending := false }
      rigs := (takeChanges c s).rigs, desk := (takeChanges c s).desk } := by
  have hpointer : (takeChanges c s).pointer = { s.pointer with chasePending := false } := by
    unfold takeChanges
    split
    · simp [setPointer]
    · next h =>
      rw [keep_foldl (fun t : State => t.pointer) handEntry _ _ fun t e => by simp]
      have hclear : s.pointer.chasePending = false := by simpa using h
      calc s.pointer = { s.pointer with chasePending := s.pointer.chasePending } := rfl
        _ = { s.pointer with chasePending := false } := by rw [hclear]
  apply state_ext <;> simp [hpointer]

theorem takeVamp_parts (c : Cue) (b : Option Nat) (s : State) :
    takeVamp c b s = { s with beats := (takeVamp c b s).beats, desk := (takeVamp c b s).desk } := by
  apply state_ext <;> simp

/-- A take is its click action, with the pointer moved on before it, and the vamp, the changes and the video action after it. -/
theorem takeCue_parts {c : Cue} {s u t : State} (hu : calledCue c s = u) (ht : takeClick c.click u = t) :
    takeCue c s = { t with
      beats := (takeVamp c (startedBar c u t) t).beats
      pointer := { t.pointer with chasePending := false }
      picture := { t.picture with auto := (c.video.bind (·.camera)).getD t.picture.auto }
      overlay := { t.overlay with banner := takenBanner c t.now t.overlay.banner }
      rigs := (takeCue c s).rigs
      desk := (takeCue c s).desk } := by
  have hcue : takeCue c s = takeVideo c (takeChanges c (takeVamp c (startedBar c u t) t)) := by rw [← ht, ← hu]; rfl
  have hvamp := takeVamp_parts c (startedBar c u t) t
  generalize takeVamp c (startedBar c u t) t = v at hcue hvamp ⊢
  have hchanges := takeChanges_parts c v
  generalize takeChanges c v = w at hcue hchanges
  have hvideo := takeVideo_parts c w
  rw [← hcue] at hvideo
  generalize takeCue c s = x at hvideo
  have hrigs : x.rigs = w.rigs := by rw [hvideo]
  rw [hrigs]
  refine hvideo.trans ?_
  generalize x.desk = d
  generalize w.rigs = r at hchanges ⊢
  generalize v.beats = b at hvamp ⊢
  rw [hchanges, hvamp]
  rfl

/-! ## The first beat of a START (R25, R31) -/

/-- The beat state after the commit of a run's first bar, with no push pending (R29, R31). -/
def BeatState.firstCommitted (b : BeatState) (o tempo : Nat) : BeatState :=
  { b with
    click := if b.countInLeft = 0 ∧ b.click = .countIn then .running else b.click
    next := some
      { onset := o, period := 18874368000000 / tempo, tempo := tempo,
        bar := if b.countInLeft = 0 then ((b.pendingBar.getD b.startBar : Nat) : Int) else -(b.countInLeft : Int),
        beat := 1, downbeat := true, countIn := decide (b.countInLeft ≠ 0), vampLoop := false, lastPass := false }
    nextOnset := some (o + 18874368000000 / tempo)
    countInLeft := b.countInLeft - 1
    firstBarDue := decide (b.countInLeft ≠ 0)
    lastBarToBegin := false
    meter := b.pendingMeter.getD b.meter, pendingMeter := none
    pendingBar := if b.countInLeft = 0 then none else b.pendingBar }

theorem fixBeat_first {o : Nat} {s : State} (hnext : s.beats.next = none) (hcurrent : s.beats.current = none)
    (hfirst : s.beats.firstBarDue = true) (hpushes : s.beats.pushes = []) :
    (fixBeat o s).2.beats = s.beats.firstCommitted o (committedTempo s.tempo) := by
  have hlatest : s.beats.latest = none := by rw [BeatState.latest, hnext, hcurrent]; rfl
  have hstart := barStartNext_of_none hlatest
  have hat : s.beats.atBarStart = { s.beats with meter := s.beats.pendingMeter.getD s.beats.meter, pendingMeter := none } := by
    unfold BeatState.atBarStart
    dsimp only
    rw [hnext, hcurrent]
    rfl
  obtain ⟨u, -, hbeats, hbar⟩ := barOfCommit_start hstart
  rw [hfirst, if_pos rfl] at hbar
  have hfixed : (fixBeat o s).2.beats = { (barOfCommit s).2.beats with
      next := some (committedBeat o s), nextOnset := some (o + (committedBeat o s).period), lastBarToBegin := false } := by
    rw [fixBeat_eq]
    simp [hstart]
  by_cases hleft : s.beats.countInLeft = 0
  · rw [hleft, if_neg (by decide)] at hbar
    obtain ⟨w, -, hwbeats, hbegun⟩ := beginFirstBar_eq u
    have hbarEq := hbar.trans hbegun
    rw [hbeats, hat] at hbarEq hwbeats
    have hpushed : (barOfCommit s).2.beats = w.beats.pushedAt (s.beats.pendingBar.getD s.beats.startBar) := by
      rw [hbarEq]
      exact pushAll_beats ..
    rw [hfixed, hpushed, committedBeat_of_bar hstart hbarEq, hwbeats]
    simp [BeatState.firstCommitted, BeatState.pushedAt, hleft, hpushes]
  · rw [if_pos (by omega)] at hbar
    rw [hfixed, committedBeat_of_bar hstart hbar, hbar]
    simp [BeatState.firstCommitted, beginCountInBar, hbeats, hat, hleft, hfirst]

/-- The beat state in which a START commits its first beat (R25). -/
def BeatState.startedAt (b : BeatState) (now countIn startBar : Nat) : BeatState :=
  { b with
    click := if countIn = 0 then .running else .countIn
    nextOnset := some ((now + 4800) * 65536), countInLeft := countIn, countInLength := countIn, firstBarDue := true
    startBar := startBar, lastBarToBegin := false }

theorem started_parts (n b : Nat) (s : State) :
    started n b s = { s with beats := s.beats.startedAt s.now n b, clicks := (started n b s).clicks, desk := (started n b s).desk } := by
  apply state_ext <;> simp [started, BeatState.startedAt, q16OfSample, q16One, Config.horizon]

/-- What a START of an IDLE click leaves, with nothing raised and no beat or push standing (R25, R31). -/
structure ClickStarted (n b : Nat) (s t : State) : Prop where
  beats : t.beats = (s.beats.startedAt s.now n b).firstCommitted ((s.now + 4800) * 65536) (committedTempo s.tempo)
  tempo : t.tempo = tempoAfterCommit s.tempo
  pointer : t.pointer = s.pointer
  tables : t.tables = s.tables
  stops : t.stops = { s.stops with holdOff := s.stops.holdOff - 1 }
  resume : t.resume = s.resume
  time : t.time = s.time

theorem startClick_started {c : Bool} {n b : Nat} {s : State} (hidle : s.beats.click = .idle) (hnext : s.beats.next = none)
    (hcurrent : s.beats.current = none) (hpushes : s.beats.pushes = []) (hquiet : NothingRaised s) :
    ClickStarted n b s (startClick c n b s) := by
  rw [startClick_of_idle hidle]
  have hparts := started_parts n b s
  generalize started n b s = u at hparts
  have hbeats : u.beats = s.beats.startedAt s.now n b := by rw [hparts]
  have hstops : u.stops = s.stops := by rw [hparts]
  have htempo : u.tempo = s.tempo := by rw [hparts]
  have honset : u.beats.nextOnset = some ((s.now + 4800) * 65536) := by rw [hbeats]; rfl
  have hquiet' : NothingRaised u := hquiet.congr (by rw [hstops])
  have hannounced := commitBeat_announced honset hquiet' c
  exact {
    beats := by
      rw [commitBeat_beats honset hquiet', fixBeat_first (by rw [hbeats]; exact hnext) (by rw [hbeats]; exact hcurrent)
        (by rw [hbeats]; rfl) (by rw [hbeats]; exact hpushes), hbeats, htempo]
    tempo := by rw [hannounced.tempo, htempo]
    pointer := by rw [hannounced.pointer, hparts]
    tables := by rw [hannounced.tables, hparts]
    stops := by rw [hannounced.stops, hstops]
    resume := by rw [hannounced.resume, hparts]
    time := by rw [hannounced.time, hparts] }

end Sys2Proof.Machine
end

section
/-!
PROOFS. The changes that a take hands to the rigs (R90, R104), and GO (R80, R81, R85 to R87, R91).
-/

namespace Sys2Proof.Machine
set_option Elab.async false

/-! ## Rounds of changes -/

/-- A change that is due at once finds its slot READY with nothing pending, and is sent (R104). -/
theorem placeChange_sends {k : Slot} {x : Handed} {s : State} (hready : (s.rig k).state = .ready)
    (hnone : (s.rig k).pendingChange = none) (hsends : sendsNow x (s.rig k) s = true) :
    placeChange k x s = sendChange k x.patch x.kind s := by
  have hsuper : (s.rig k).supersede = s.rig k := by rw [Rig.supersede, hnone]
  unfold placeChange
  dsimp only
  rw [hready]
  dsimp only
  rw [hsuper, setRig_same, if_pos hsends]

/-- A slot that is ABSENT or in FAULT takes no change (R104). -/
theorem placeChange_idle {k : Slot} {x : Handed} {s : State} (h : (s.rig k).state = .absent ∨ (s.rig k).state = .fault) :
    placeChange k x s = s := by
  unfold placeChange
  dsimp only
  rcases h with h | h <;> rw [h]

/-- What the handing of changes to other slots leaves of the part. -/
def HandedElsewhere (s u : State) : Prop := SameBound s u ∧ OnlyRigs s u

theorem HandedElsewhere.refl (s : State) : HandedElsewhere s s := ⟨.refl s, rfl⟩

theorem HandedElsewhere.place {s u : State} (h : HandedElsewhere s u) (j : Slot) (x : Handed) :
    HandedElsewhere s (placeChange j x u) :=
  ⟨(sameBound_steady s).of_placeChange j x h.1, h.2.trans (onlyRigs_placeChange j x u)⟩

section Rounds

/-- A slot's part of a round, where it has a bound rig. -/
def handBound (x : Slot → State → Handed) (u : State) (j : Slot) : State :=
  if (u.rig j).boundPort.isSome then placeChange j (x j u) u else u

theorem forBound_eq (x : Slot → State → Handed) (s : State) :
    forBound (fun j v => placeChange j (x j v) v) s = allSlots.foldl (handBound x) s := rfl

theorem HandedElsewhere.hand {s u : State} (h : HandedElsewhere s u) (x : Slot → State → Handed) (j : Slot) :
    HandedElsewhere s (handBound x u j) := by
  unfold handBound
  split
  · exact h.place j _
  · exact h

theorem rig_handBound_ne {x : Slot → State → Handed} {u : State} {j k : Slot} (hj : j ≠ k) :
    (handBound x u j).rig k = u.rig k := by
  unfold handBound
  split
  · exact rig_placeChange_ne hj ..
  · rfl

theorem rigPort_handBound_ne {x : Slot → State → Handed} {u : State} {j : Slot} {p : RigPort}
    (hp : (u.rig j).boundPort ≠ some p) : (handBound x u j).rigPort p = u.rigPort p := by
  unfold handBound
  split
  · exact rigPort_placeChange_ne hp
  · rfl

variable {x : Slot → State → Handed} {s : State}

/-- A round leaves of a slot what its own handing does (R77, R90, R164). -/
theorem forBound_visit (x : Slot → State → Handed) {k : Slot} {p : RigPort} {s : State}
    (hothers : ∀ j, j ≠ k → (s.rig j).boundPort ≠ some p) :
    ∃ u, HandedElsewhere s u ∧ u.rig k = s.rig k ∧ u.rigPort p = s.rigPort p ∧
      (forBound (fun j v => placeChange j (x j v) v) s).rig k = (handBound x u k).rig k := by
  obtain ⟨u, hu, hsame, hvisited⟩ := foldl_visit (I := HandedElsewhere s) (g := fun u => (u.rig k, u.rigPort p)) (k := k)
    (f := handBound x) (fun u j hu => hu.hand x j)
    (fun u j hj hu => Prod.ext (rig_handBound_ne hj) (rigPort_handBound_ne (by rw [hu.1 j]; exact hothers j hj)))
    allSlots (mem_allSlots k) allSlots_nodup (.refl s)
  obtain ⟨hrig, hport⟩ := Prod.ext_iff.mp hsame
  rw [forBound_eq]
  exact ⟨u, hu, hrig, hport, (Prod.ext_iff.mp hvisited).1⟩

/-- A round sends its change to a bound slot that is READY with nothing pending (R104). -/
theorem forBound_sent (hx : ∀ j u, OnlyRigs s u → x j u = x j s) {k : Slot} {p : RigPort} (hkind : (x k s).kind ≠ .cue)
    (hbound : (s.rig k).boundPort = some p) (hothers : ∀ j, j ≠ k → (s.rig j).boundPort ≠ some p)
    (hready : (s.rig k).state = .ready) (hnone : (s.rig k).pendingChange = none) :
    (forBound (fun j v => placeChange j (x j v) v) s).rig k =
      (s.rig k).sent (x k s).patch (x k s).kind (!(s.rigPort p).bit) s.now := by
  obtain ⟨u, hu, hrig, hport, hvisited⟩ := forBound_visit x hothers
  rw [hvisited, handBound, hx k u hu.2, if_pos (by rw [hrig, hbound]; rfl),
    placeChange_ready (by rw [hrig]; exact hready) (by rw [hrig]; exact hnone) hkind,
    rig_sendChange _ _ (by rw [hrig]; exact hbound), hrig, hport, hu.2.now]

/-- A round leaves a slot without a bound port, or one that takes no change. -/
theorem forBound_left {k : Slot} (h : (s.rig k).boundPort = none ∨ (s.rig k).state = .absent ∨ (s.rig k).state = .fault) :
    (forBound (fun j v => placeChange j (x j v) v) s).rig k = s.rig k := by
  obtain ⟨u, -, hsame, hvisited⟩ := foldl_visit (I := fun _ => True) (g := fun u => u.rig k) (f := handBound x)
    (fun _ _ _ => trivial) (fun u j hj _ => rig_handBound_ne hj) allSlots (mem_allSlots k) allSlots_nodup (s := s) trivial
  have hsame : u.rig k = s.rig k := hsame
  rw [forBound_eq]
  refine hvisited.trans (Eq.trans ?_ hsame)
  show (handBound x u k).rig k = u.rig k
  unfold handBound
  split
  · next hbound =>
    rw [hsame] at hbound
    rcases h with h | h
    · rw [h] at hbound
      cases hbound
    · rw [placeChange_idle (by rw [hsame]; exact h)]
  · rfl

end Rounds

/-! ## The changes of a cue (R90) -/

/-- The handing of an entry to another slot. -/
theorem handEntry_elsewhere {e : ChangeEntry} {k : Slot} {p : RigPort} {s u : State} (hu : HandedElsewhere s u)
    (he : e.slot ≠ k.val) (hothers : ∀ j, j ≠ k → (s.rig j).boundPort ≠ some p) :
    HandedElsewhere s (handEntry u e) ∧ (handEntry u e).rig k = u.rig k ∧ (handEntry u e).rigPort p = u.rigPort p := by
  unfold handEntry
  split
  · next j hj =>
    have hjk : j ≠ k := by
      rintro rfl
      unfold idx? at hj
      split at hj
      · exact he (Fin.ext_iff.mp (Option.some.inj hj))
      · cases hj
    exact ⟨hu.place j _, rig_placeChange_ne hjk .., rigPort_placeChange_ne (by rw [hu.1 j]; exact hothers j hjk)⟩
  · exact ⟨hu, rfl, rfl⟩

theorem handEntries_elsewhere (l : List ChangeEntry) {k : Slot} {p : RigPort} {s u : State} (hu : HandedElsewhere s u)
    (hl : ∀ e ∈ l, e.slot ≠ k.val) (hothers : ∀ j, j ≠ k → (s.rig j).boundPort ≠ some p) :
    HandedElsewhere s (l.foldl handEntry u) ∧ (l.foldl handEntry u).rig k = u.rig k ∧
      (l.foldl handEntry u).rigPort p = u.rigPort p := by
  induction l generalizing u with
  | nil => exact ⟨hu, rfl, rfl⟩
  | cons e l ih =>
    obtain ⟨hstep, hrig, hport⟩ := handEntry_elsewhere hu (hl e List.mem_cons_self) hothers
    obtain ⟨hrest, hrig', hport'⟩ := ih hstep fun f hf => hl f (List.mem_cons_of_mem e hf)
    exact ⟨hrest, hrig'.trans hrig, hport'.trans hport⟩

/-- The one entry of a cue for a READY slot with nothing pending is sent where it is due at once (R90, R104). -/
theorem handEntries_sent {before after : List ChangeEntry} {e : ChangeEntry} {k : Slot} {p : RigPort} {s : State}
    (he : e.slot = k.val) (hl : ∀ f ∈ before ++ after, f.slot ≠ k.val) (hclear : s.stops.state = .clear)
    (hready : (s.rig k).state = .ready) (hnone : (s.rig k).pendingChange = none) (hbound : (s.rig k).boundPort = some p)
    (hothers : ∀ j, j ≠ k → (s.rig j).boundPort ≠ some p) (hnow : e.transition = .cut ∨ (s.rig k).sustain = .up) :
    ((before ++ e :: after).foldl handEntry s).rig k =
      (s.rig k).sent (s.tables.resolve k e.pair) .cue (!(s.rigPort p).bit) s.now := by
  rw [List.foldl_append, List.foldl_cons]
  obtain ⟨hu, hrig, hport⟩ := handEntries_elsewhere before (.refl s) (fun f hf => hl f (List.mem_append_left _ hf)) hothers
  generalize before.foldl handEntry s = u at hu hrig hport
  have hk : idx? 8 e.slot = some k := by rw [he, idx?_val]
  have hcue : cueFor k e u = cueFor k e s := by unfold cueFor; rw [hu.2.tables]
  have hplaced : handEntry u e = sendChange k (s.tables.resolve k e.pair) .cue u := by
    unfold handEntry
    rw [hk]
    dsimp only
    rw [hcue]
    refine placeChange_sends (by rw [hrig]; exact hready) (by rw [hrig]; exact hnone) ?_
    have hisClear : u.isClear = true := by rw [State.isClear, hu.2.stops, hclear]; rfl
    have hdue : (cueFor k e s).due (u.rig k).sustain = .now := by
      unfold Handed.due cueFor
      rw [hrig]
      rcases hnow with h | h <;> rw [h] <;> simp
    show (u.isClear && (cueFor k e s).due (u.rig k).sustain == .now) = true
    rw [hisClear, hdue]
    rfl
  have hstep : HandedElsewhere s (handEntry u e) := by
    unfold handEntry
    rw [hk]
    exact hu.place k _
  obtain ⟨-, hrig', -⟩ := handEntries_elsewhere after (k := k) (p := p) hstep (fun f hf => hl f (List.mem_append_right _ hf)) hothers
  rw [hrig', hplaced, rig_sendChange _ _ (by rw [hrig]; exact hbound), hrig, hport, hu.2.now]

/-- Entries for slots that take no change leave the rigs. -/
theorem handEntries_left {l : List ChangeEntry} {s : State}
    (h : ∀ e ∈ l, e.slot < 8 → ∀ k : Slot, e.slot = k.val → (s.rig k).state = .absent ∨ (s.rig k).state = .fault) :
    l.foldl handEntry s = s := by
  induction l with
  | nil => rfl
  | cons e l ih =>
    have hstep : handEntry s e = s := by
      unfold handEntry
      split
      · next k hk =>
        unfold idx? at hk
        split at hk
        · next hlt =>
          obtain rfl := Option.some.inj hk
          exact placeChange_idle (h e List.mem_cons_self hlt ⟨e.slot, hlt⟩ rfl)
        · cases hk
      · rfl
    rw [List.foldl_cons, hstep]
    exact ih fun f hf => h f (List.mem_cons_of_mem e hf)

/-! ## GO (R80, R81, R85) -/

theorem armedCue_some {n : Nat} {s : State} (h : s.pointer.armed = some n) : armedCue s = s.tables.find n := by
  rw [armedCue, h]
  rfl

/-- A GO takes the cue that is armed, and one that it calls with its boundary IMMEDIATE or the click IDLE (R81, R85). -/
theorem ownGo_takes {c : Cue} {s : State} (hshow : s.inShow = true) (hclear : s.stops.state = .clear)
    (hfind : s.tables.find c.number = some c)
    (hcall : s.pointer.armed = some c.number ∨ (s.pointer.armed = none ∧ s.pointer.standing = .cue c.number ∧
      (c.boundary = .immediate ∨ s.beats.click = .idle))) : ownGo s = accept (takeCue c s) := by
  unfold ownGo
  rw [hshow, if_neg (by decide), if_neg (not_not.mpr hclear)]
  rcases hcall with harmed | ⟨hnone, hstanding, hnow⟩
  · rw [armedCue_some harmed, hfind]
  · rw [armedCue_none hnone]
    dsimp only
    unfold callStanding
    rw [hstanding]
    dsimp only
    rw [hfind]
    dsimp only
    rw [callCue, if_pos hnow]

/-- The GO that calls no cue, and the one that arms it (R80, R81). -/
theorem go_answered {r : Req} {s : State} (hfree : Free r s) (hrole : FromRole .sm r s) :
    ∃ t, exec (.go r []) s = .next t ∧
      (s.inShow = false → t = { s with desk := t.desk } ∧ Served r .setup [] 0 s t) ∧
      (s.inShow = true → s.stops.state ≠ .clear → t = { s with desk := t.desk } ∧ Served r .stopped [] 0 s t) ∧
      (s.inShow = true → s.stops.state = .clear → s.pointer.armed = none → s.pointer.standing = .ended →
        t = { s with desk := t.desk } ∧ Served r .ended [] 0 s t) ∧
      (∀ n c, s.inShow = true → s.stops.state = .clear → s.pointer.armed = none → s.pointer.standing = .cue n →
        s.tables.find n = some c → c.boundary ≠ .immediate → s.beats.click ≠ .idle →
        t = { s with pointer := { s.pointer with armed := some n }, desk := t.desk } ∧ Served r .ok [] 0x01 s t) := by
  have hframe := onlyRigs_validFrame r.port s
  have hshow := hframe.inShow
  have hstops := hframe.stops
  have hpointer := hframe.pointer
  have htables := hframe.tables
  have hbeats := hframe.beats
  have hquiet := fun (code : ReplyCode) (ho : ownGo (validFrame r.port s) = refuse code (validFrame r.port s)) =>
    command_quiet (roles := [.sm]) (decode := payloadNone) (payload := []) (owner := fun _ => ownGo) hfree hrole rfl rfl ho
  refine ⟨_, rfl, fun hs => hquiet .setup ?_, fun hs hclear => hquiet .stopped ?_, fun hs hclear hnone hended => hquiet .ended ?_,
    fun n c hs hclear hnone hstanding hfind hboundary hclick => ?_⟩
  · simp [ownGo, hshow, hs]
  · simp [ownGo, hshow, hs, hclear]
  · rw [ownGo, hshow, hs, if_neg (by decide), hstops, if_neg (not_not.mpr hclear), armedCue_none (by rw [hpointer, hnone])]
    dsimp only
    rw [callStanding, hpointer, hended]
  · have hnumber : c.number = n := by simpa using List.find?_some hfind
    have howner : ownGo (validFrame r.port s) = accept (setPointer { s.pointer with armed := some n } (validFrame r.port s)) := by
      rw [ownGo, hshow, hs, if_neg (by decide), hstops, if_neg (not_not.mpr hclear), armedCue_none (by rw [hpointer, hnone])]
      dsimp only
      rw [callStanding, hpointer, hstanding]
      dsimp only
      rw [htables, hfind]
      dsimp only
      rw [callCue, if_neg (by rw [hbeats]; exact not_or.mpr ⟨hboundary, hclick⟩), hnumber, ← hstanding]
      rfl
    obtain ⟨hnext, hserved⟩ := command_setPointer_served (role := .sm) (decode := payloadNone) (payload := [])
      (owner := fun _ => ownGo) hfree hrole rfl howner
    have hchanged : (s.pointer != { s.pointer with armed := some n }) = true := by
      rw [bne_iff_ne]
      intro h
      have harmed := congrArg Pointer.armed h
      rw [hnone] at harmed
      cases harmed
    rw [hchanged] at hserved
    exact ⟨hnext, hserved⟩

/-- The rigs that a take leaves are those of its changes. -/
theorem takeCue_rigs (c : Cue) (s : State) :
    (takeCue c s).rigs = (takeChanges c (takeVamp c (startedBar c (calledCue c s) (takeClick c.click (calledCue c s)))
      (takeClick c.click (calledCue c s)))).rigs := by
  show (takeVideo c _).rigs = _
  simp only [takeVideo_keeps]
  rfl

/-- What the changes of a cue leave of the rigs (R90). -/
structure ChangesHanded (c : Cue) (s t : State) : Prop where
  entry : ∀ (before after : List ChangeEntry) (e : ChangeEntry) (k : Slot) (port : RigPort),
    s.pointer.chasePending = false → c.changes = before ++ e :: after → e.slot = k.val → (∀ f ∈ before ++ after, f.slot ≠ k.val) →
    (s.rig k).state = .ready → (s.rig k).pendingChange = none → (s.rig k).boundPort = some port →
    (∀ j, j ≠ k → (s.rig j).boundPort ≠ some port) → (e.transition = .cut ∨ (s.rig k).sustain = .up) →
    t.rig k = (s.rig k).sent (s.tables.resolve k e.pair) .cue (!(s.rigPort port).bit) s.now
  left : s.pointer.chasePending = false →
    (∀ e ∈ c.changes, e.slot < 8 → ∀ k : Slot, e.slot = k.val → (s.rig k).state = .absent ∨ (s.rig k).state = .fault) →
    t.rigs = s.rigs
  chase : ∀ (k : Slot) (port : RigPort), s.pointer.chasePending = true → (s.rig k).state = .ready →
    (s.rig k).pendingChange = none → (s.rig k).boundPort = some port → (∀ j, j ≠ k → (s.rig j).boundPort ≠ some port) →
    t.rig k = (s.rig k).sent (s.tables.resolve k (s.tables.patchChase (.cue c.number) k).1) .restore
      (!(s.rigPort port).bit) s.now
  unchased : ∀ k : Slot, s.pointer.chasePending = true →
    ((s.rig k).boundPort = none ∨ (s.rig k).state = .absent ∨ (s.rig k).state = .fault) → t.rig k = s.rig k

theorem takeChanges_handed {c : Cue} {s : State} (hclear : s.stops.state = .clear) : ChangesHanded c s (takeChanges c s) := by
  have hentries : s.pointer.chasePending = false → takeChanges c s = c.changes.foldl handEntry s := fun h => by
    rw [takeChanges, h]
    rfl
  have hchase : s.pointer.chasePending = true → ∀ k, (takeChanges c s).rig k = (handChase (.cue c.number) s).rig k := fun h k => by
    rw [takeChanges, h, if_pos rfl]
    simp [State.rig]
  refine { entry := fun before after e k port hchase hl he hothers hready hnone hbound hport hnow => ?_,
           left := fun hchase h => ?_, chase := fun k port h hready hnone hbound hport => ?_, unchased := fun k h hleft => ?_ }
  · rw [hentries hchase, hl]
    exact handEntries_sent he hothers hclear hready hnone hbound hport hnow
  · rw [hentries hchase, handEntries_left h]
  · rw [hchase h]
    exact forBound_sent (x := fun j u => restoreFor j (u.tables.patchChase (.cue c.number) j).1 u)
      (fun j u hu => by
        rw [hu.tables, restoreFor, restoreFor, hu.tables]) (restoreFor_kind k _ s) hbound hport hready hnone
  · rw [hchase h]
    exact forBound_left hleft

theorem ChangesHanded.congr {c : Cue} {s s' t t' : State} (h : ChangesHanded c s t)
    (hpending : s.pointer.chasePending = s'.pointer.chasePending) (hrigs : s.rigs = s'.rigs) (htables : s.tables = s'.tables)
    (hnow : s.now = s'.now) (ht : t'.rigs = t.rigs) : ChangesHanded c s' t' := by
  have hrig : ∀ k, s.rig k = s'.rig k := fun k => by rw [State.rig, hrigs]; rfl
  have hport : ∀ p, s.rigPort p = s'.rigPort p := fun p => by rw [State.rigPort, hrigs]; rfl
  have htrig : ∀ k, t'.rig k = t.rig k := fun k => by rw [State.rig, ht]; rfl
  refine { entry := ?_, left := ?_, chase := ?_, unchased := ?_ }
  · simpa only [hpending, hrig, hport, htables, hnow, htrig] using h.entry
  · simpa only [hpending, hrig, ht, hrigs] using h.left
  · simpa only [hpending, hrig, hport, htables, hnow, htrig] using h.chase
  · simpa only [hpending, hrig, htrig] using h.unchased

/-- A cue of click action KEEP and no vamp, taken by GO (R81, R85 to R87, R90, R91). -/
theorem go_keeps {r : Req} {c : Cue} {s : State} (hfree : Free r s) (hrole : FromRole .sm r s) (hshow : s.inShow = true)
    (hclear : s.stops.state = .clear) (hfind : s.tables.find c.number = some c)
    (hcall : s.pointer.armed = some c.number ∨ (s.pointer.armed = none ∧ s.pointer.standing = .cue c.number ∧
      (c.boundary = .immediate ∨ s.beats.click = .idle))) (hkeep : c.click = .keep) (hvamp : c.vamp = none) :
    ∃ t, exec (.go r []) s = .next t ∧ Replied r .ok [] t ∧
      t = { s with
        pointer := { s.pointer with
          current := some c.number, armed := none, chasePending := false,
          standing := match s.tables.after c.number with
            | some d => .cue d.number
            | none => .ended }
        tempo := match c.tempo with
          | .keep => s.tempo
          | .fixed v => { s.tempo with mode := .fixed, current := v, ramp := none }
          | .live => { s.tempo with mode := .live, current := s.tempo.live, ramp := none }
          | .ramp v n => { s.tempo with
              mode := .ramp, ramp := some { t0 := s.tempo.current, t1 := v, length := n, done := 0 } }
        beats := { s.beats with
          pendingMeter := c.meter <|> s.beats.pendingMeter, pendingBar := c.scoreBar <|> s.beats.pendingBar }
        picture := { s.picture with auto := (c.video.bind (·.camera)).getD s.picture.auto }
        overlay := { s.overlay with
          banner := ((c.video.bind (·.banner)).map fun b => ⟨b.text, b.duration, s.now⟩) <|> s.overlay.banner }
        rigs := t.rigs
        desk := t.desk } ∧ ChangesHanded c s t := by
  have hframe := onlyRigs_validFrame r.port s
  have howner := ownGo_takes (s := validFrame r.port s) (c := c) (hframe.inShow.trans hshow) hclear hfind hcall
  have hcalled := calledCue_parts c (validFrame r.port s)
  have hrigs := takeCue_rigs c (validFrame r.port s)
  have htake := takeCue_parts (c := c) (s := validFrame r.port s) rfl (congrArg (takeClick · _) hkeep)
  have hvamped : ∀ b u, takeVamp c b u = u := fun b u => by rw [takeVamp, hvamp]
  rw [hkeep, hvamped] at hrigs
  rw [hvamped] at htake
  have hhanded := takeChanges_handed (c := c) (s := calledCue c (validFrame r.port s)) (by rw [hcalled]; exact hclear)
  have hhanded' : ChangesHanded c s (takeCue c (validFrame r.port s)) :=
    hhanded.congr (congrArg (fun t : State => t.pointer.chasePending) hcalled :) ((congrArg State.rigs hcalled :).trans (by simp))
      (congrArg State.tables hcalled :) (congrArg (fun t : State => t.time.clock) hcalled :) hrigs
  generalize takeCue c (validFrame r.port s) = w at howner htake hhanded'
  obtain ⟨hnext, hreplied⟩ := command_replied (roles := [.sm]) (decode := payloadNone) (payload := []) (owner := fun _ => ownGo)
    hfree hrole rfl rfl howner
  have hwrigs := (congrArg State.rigs hnext :)
  refine ⟨_, rfl, hreplied, ?_, hhanded'.congr rfl rfl rfl rfl hwrigs⟩
  change command r [.sm] payloadNone [] (fun _ => ownGo) s = _
  rw [hwrigs]
  refine hnext.trans ?_
  generalize (command r [.sm] payloadNone [] (fun _ => ownGo) s).desk = d
  generalize w.rigs = y at htake
  generalize calledCue c (validFrame r.port s) = u at hcalled htake
  rw [htake, show takeClick .keep u = u from rfl, hcalled, hframe]
  rfl

/-- Settles O31: GO that calls no cue, and the take of a cue that it calls. -/
theorem goCallsTheCue : Obligations.GoCallsTheCue := by
  refine ⟨fun r s hfree hrole => go_answered hfree hrole, fun r c s hfree hrole hshow hclear hfind hcall hkeep hvamp => ?_⟩
  obtain ⟨t, hexec, hreplied, hstate, hhanded⟩ := go_keeps hfree hrole hshow hclear hfind hcall hkeep hvamp
  refine ⟨t, hexec, hreplied, hstate, fun before after e k port hchase hl he hothers hready hnone hbound hport hnow => ?_, hhanded.left,
    hhanded.chase, hhanded.unchased⟩
  rw [hhanded.entry before after e k port hchase hl he hothers hready hnone hbound hport hnow, Rig.sent, ← hnone]
  simp only [Tables.resolve]

end Sys2Proof.Machine
end

section
/-!
PROOFS. What a taken cue does to the click, with nothing raised (R25 to R28, R81 to R83, R88, R89).
-/

namespace Sys2Proof.Machine
set_option Elab.async false

/-! ## The click action with nothing raised -/

/-- What a START of an IDLE click leaves beside the beats, with nothing raised. -/
structure StartParts (s t : State) : Prop where
  tempo : t.tempo = tempoAfterCommit s.tempo
  pointer : t.pointer = s.pointer
  stops : t.stops = { s.stops with holdOff := s.stops.holdOff - 1 }

theorem startClick_parts {c : Bool} {n b : Nat} {s : State} (hidle : s.beats.click = .idle) (hquiet : NothingRaised s) :
    StartParts s (startClick c n b s) := by
  rw [startClick_of_idle hidle]
  have hparts := started_parts n b s
  generalize started n b s = u at hparts
  have hstops : u.stops = s.stops := by rw [hparts]
  have honset : u.beats.nextOnset = some ((s.now + 4800) * 65536) := by rw [hparts]; rfl
  have hannounced := commitBeat_announced honset (hquiet.congr (by rw [hstops])) c
  exact ⟨by rw [hannounced.tempo, hparts], by rw [hannounced.pointer, hparts], by rw [hannounced.stops, hstops]⟩

theorem takeClick_start_idle {n : Nat} {s : State} (hidle : s.beats.click = .idle) :
    takeClick (.start n) s = startClick true n 1 s := by
  show (if s.beats.click = .finishing then startIgnored s else startClick true n 1 s) = _
  rw [if_neg (by rw [hidle]; decide)]

/-- A START of a click that runs changes no click, and sets START_IGNORED in FINISHING (R25, R88). -/
theorem takeClick_start_running {n : Nat} {s : State} (hidle : s.beats.click ≠ .idle) :
    takeClick (.start n) s = { s with
      pointer := { s.pointer with startIgnored := s.pointer.startIgnored || decide (s.beats.click = .finishing) }
      desk := (takeClick (.start n) s).desk } := by
  have hstart : takeClick (.start n) s = if s.beats.click = .finishing then startIgnored s else startClick true n 1 s := rfl
  rw [hstart]
  by_cases hf : s.beats.click = .finishing
  · rw [if_pos hf]
    apply state_ext <;> simp [startIgnored, hf]
  · rw [if_neg hf, startClick_of_not_idle hidle]
    simp [hf]

theorem takeClick_cut {s : State} (hquiet : NothingRaised s) : takeClick .cut s = cutClick s := by
  have hcut : NothingRaised (cutClick s) := fun i => (isRaised_cutClick s i).trans (hquiet i)
  show cueCut s = _
  unfold cueCut
  dsimp only
  rw [sample_of_nothingRaised false hcut, ite_self]

/-- A click action leaves the stops but for the hold-off count, and the pointer of an unarmed show but for START_IGNORED. -/
theorem takeClick_quiet (a : ClickAction) {s : State} (hquiet : NothingRaised s) (harmed : s.pointer.armed = none) :
    (∃ h, (takeClick a s).stops = { s.stops with holdOff := h }) ∧
    (∃ b, (takeClick a s).pointer = { s.pointer with startIgnored := b }) ∧
    ((∀ n, a ≠ .start n) → (takeClick a s).pointer = s.pointer ∧ (takeClick a s).tempo = s.tempo) := by
  cases a with
  | keep => exact ⟨⟨s.stops.holdOff, rfl⟩, ⟨s.pointer.startIgnored, rfl⟩, fun _ => ⟨rfl, rfl⟩⟩
  | start n =>
    refine ⟨?_, ?_, fun h => absurd rfl (h n)⟩
    · by_cases hidle : s.beats.click = .idle
      · rw [takeClick_start_idle hidle]
        exact ⟨_, (startClick_parts hidle hquiet).stops⟩
      · exact ⟨s.stops.holdOff, (congrArg State.stops (takeClick_start_running hidle) :)⟩
    · by_cases hidle : s.beats.click = .idle
      · rw [takeClick_start_idle hidle, (startClick_parts hidle hquiet).pointer]
        exact ⟨s.pointer.startIgnored, rfl⟩
      · exact ⟨_, (congrArg State.pointer (takeClick_start_running hidle) :)⟩
  | stop =>
    have hstop : takeClick .stop s = finishClick s := rfl
    rw [hstop]
    exact ⟨⟨s.stops.holdOff, by simp⟩, ⟨s.pointer.startIgnored, by simp⟩, fun _ => ⟨by simp, by simp⟩⟩
  | cut =>
    have hpointer : (cutClick s).pointer = s.pointer := by rw [cutClick_pointer, ← harmed]
    rw [takeClick_cut hquiet, hpointer]
    refine ⟨?_, ⟨s.pointer.startIgnored, rfl⟩, fun _ => ⟨rfl, by simp⟩⟩
    rw [cutClick_stops, cutBeats_stops]
    split
    · exact ⟨s.stops.holdOff, rfl⟩
    · exact ⟨0, rfl⟩

/-! ## The take with nothing raised -/

/-- What a take leaves of the stops and of the pointer, with nothing raised (R86). -/
structure CueTaken (c : Cue) (s t : State) : Prop where
  stops : ∃ h, t.stops = { s.stops with holdOff := h }
  pointer : ∃ b, t.pointer = { s.pointer with
    current := some c.number, standing := s.tables.standingAfter c.number, armed := none, chasePending := false, startIgnored := b }
  unstarted : (∀ n, c.click ≠ .start n) → t.pointer = { s.pointer with
      current := some c.number, standing := s.tables.standingAfter c.number, armed := none, chasePending := false } ∧
    t.tempo = s.tempo.apply c.tempo
  tables : t.tables = s.tables
  time : t.time = s.time

theorem CueTaken.quiet {c : Cue} {s t : State} (h : CueTaken c s t) (hquiet : NothingRaised s) : NothingRaised t := by
  obtain ⟨x, hstops⟩ := h.stops
  exact hquiet.congr (by rw [hstops])

theorem takeCue_taken (c : Cue) {s : State} (hquiet : NothingRaised s) : CueTaken c s (takeCue c s) := by
  have hu := calledCue_parts c s
  have htables : (takeCue c s).tables = s.tables := (takeCue_keeps c s).2.1
  have htime : (takeCue c s).time = s.time := (takeCue_keeps c s).1
  have hparts := takeCue_parts (c := c) (s := s) rfl rfl
  generalize takeCue c s = w at hparts htables htime
  generalize calledCue c s = u at hu hparts
  have hstops : u.stops = s.stops := by rw [hu]
  have hpointer : u.pointer = takenPointer c s := by rw [hu]
  have htempo : u.tempo = s.tempo.apply c.tempo := by rw [hu]
  obtain ⟨⟨h, hh⟩, ⟨b, hb⟩, hnot⟩ := takeClick_quiet c.click (s := u) (hquiet.congr (by rw [hstops])) (by rw [hpointer]; rfl)
  generalize takeClick c.click u = t at hparts hh hb hnot
  exact {
    stops := ⟨h, (congrArg State.stops hparts :).trans (hh.trans (by rw [hstops]))⟩
    pointer := by
      refine ⟨b, (congrArg State.pointer hparts :).trans ?_⟩
      dsimp only
      rw [hb, hpointer]
      rfl
    unstarted := fun hstart => by
      obtain ⟨hp, ht⟩ := hnot hstart
      refine ⟨(congrArg State.pointer hparts :).trans ?_, (congrArg State.tempo hparts :).trans (ht.trans htempo)⟩
      dsimp only
      rw [hp, hpointer]
      rfl
    tables := htables
    time := htime }

/-! ## The beats that a take leaves -/

theorem takeVamp_of_none {c : Cue} (h : c.vamp = none) (b : Option Nat) (s : State) : takeVamp c b s = s := by
  rw [takeVamp, h]

/-- A vamp that waits joins the pending push list while there is room (R34, R89). -/
theorem takeVamp_added {c : Cue} {s : State} (h : s.beats.pushes.length < 4) :
    (takeVamp c none s).beats = { s.beats with pushes := s.beats.pushes ++ c.vamp.toList } := by
  unfold takeVamp
  cases c.vamp with
  | none => simp
  | some v =>
    have hroom : addPush v s = { s with beats := { s.beats with pushes := s.beats.pushes ++ [v] } } := if_pos h
    simp [hroom]

/-- A vamp moves no more of the beats than the stack, the pending push list and VAMP_OVERFLOW (R34). -/
theorem takeVamp_beats (c : Cue) (b : Option Nat) (s : State) :
    (takeVamp c b s).beats = { s.beats with
      vamps := (takeVamp c b s).beats.vamps, pushes := (takeVamp c b s).beats.pushes,
      overflow := (takeVamp c b s).beats.overflow } := by
  unfold takeVamp
  split
  · rfl
  · split
    · rw [pushVamp_beats_eq]
      split <;> rfl
    · unfold addPush
      split
      · rfl
      · simp [vampOverflow]

/-- The bar of a START alone is one at which its own vamp is pushed (R34). -/
theorem startedBar_none {c : Cue} {s t : State} (h : c.click ≠ .start 0) : startedBar c s t = none :=
  if_neg fun h' => h h'.1

theorem takeCue_beats (c : Cue) (s : State) :
    (takeCue c s).beats = (takeVamp c (startedBar c (calledCue c s) (takeClick c.click (calledCue c s)))
      (takeClick c.click (calledCue c s))).beats :=
  (congrArg State.beats (takeCue_parts (c := c) (s := s) rfl rfl) :)

theorem takeCue_clicks (c : Cue) (s : State) : (takeCue c s).clicks = (takeClick c.click (calledCue c s)).clicks :=
  (congrArg State.clicks (takeCue_parts (c := c) (s := s) rfl rfl) :)

theorem takeCue_flashes (c : Cue) (s : State) :
    (takeCue c s).overlay.flashes = (takeClick c.click (calledCue c s)).overlay.flashes :=
  (congrArg (fun t : State => t.overlay.flashes) (takeCue_parts (c := c) (s := s) rfl rfl) :)

theorem takeCue_tempo (c : Cue) (s : State) : (takeCue c s).tempo = (takeClick c.click (calledCue c s)).tempo :=
  (congrArg State.tempo (takeCue_parts (c := c) (s := s) rfl rfl) :)

/-- The beat state in which a taken cue's click action is carried out (R87). -/
def BeatState.called (c : Cue) (b : BeatState) : BeatState :=
  { b with pendingMeter := c.meter <|> b.pendingMeter, pendingBar := c.scoreBar <|> b.pendingBar }

theorem calledCue_beats (c : Cue) (s : State) : (calledCue c s).beats = s.beats.called c :=
  (congrArg State.beats (calledCue_parts c s) :)

theorem calledCue_now (c : Cue) (s : State) : (calledCue c s).now = s.now :=
  (congrArg (fun t : State => t.time.clock) (calledCue_parts c s) :)

theorem calledCue_tempo (c : Cue) (s : State) : (calledCue c s).tempo = s.tempo.apply c.tempo :=
  (congrArg State.tempo (calledCue_parts c s) :)

theorem calledCue_quiet (c : Cue) {s : State} (h : NothingRaised s) : NothingRaised (calledCue c s) :=
  h.congr (congrArg (fun t : State => t.stops.raised) (calledCue_parts c s) :)

/-! ## START by GO (R25, R88) -/

/-- A START taken of an IDLE click on which no beat and no push stands. -/
theorem takeCue_start_idle {c : Cue} {n v : Nat} {s : State} (hquiet : NothingRaised s) (hclick : c.click = .start n)
    (htempo : c.tempo = .fixed v) (hidle : s.beats.click = .idle) (hnext : s.beats.next = none)
    (hcurrent : s.beats.current = none) (hpushes : s.beats.pushes = []) :
    (takeClick c.click (calledCue c s)).beats =
      ((s.beats.called c).startedAt s.now n 1).firstCommitted ((s.now + 4800) * 65536) v := by
  have hbeats := calledCue_beats c s
  have hidle' : (calledCue c s).beats.click = .idle := by rw [hbeats]; exact hidle
  have hstarted := startClick_started (c := true) (n := n) (b := 1) hidle' (by rw [hbeats]; exact hnext)
    (by rw [hbeats]; exact hcurrent) (by rw [hbeats]; exact hpushes) (calledCue_quiet c hquiet)
  rw [hclick, takeClick_start_idle hidle', hstarted.beats, hbeats, calledCue_now, calledCue_tempo, htempo]
  rfl

/-- What a START taken by GO leaves (R25, R88). -/
theorem takeCue_start {c : Cue} {n v : Nat} {s : State} (hquiet : NothingRaised s) (hclick : c.click = .start n)
    (htempo : c.tempo = .fixed v) (hvamp : c.vamp = none) :
    (takeCue c s).pointer.current = some c.number ∧ (takeCue c s).pointer.armed = none ∧ (takeCue c s).tempo.current = v ∧
    (takeCue c s).tempo.mode = .fixed ∧
    (s.beats.click = .idle → (takeCue c s).pointer.startIgnored = s.pointer.startIgnored) ∧
    (s.beats.click = .idle → s.beats.next = none → s.beats.current = none → s.beats.pushes = [] →
      (takeCue c s).beats = ((s.beats.called c).startedAt s.now n 1).firstCommitted ((s.now + 4800) * 65536) v) ∧
    (s.beats.click ≠ .idle →
      (takeCue c s).pointer.startIgnored = (s.pointer.startIgnored || decide (s.beats.click = .finishing)) ∧
      (takeCue c s).beats = s.beats.called c ∧ (takeCue c s).clicks = s.clicks) := by
  have htaken := takeCue_taken c hquiet
  obtain ⟨b, hpointer⟩ := htaken.pointer
  have hbeats := takeCue_beats c s
  rw [takeVamp_of_none hvamp] at hbeats
  have hignored : (takeCue c s).pointer.startIgnored = (takeClick c.click (calledCue c s)).pointer.startIgnored :=
    (congrArg (fun t : State => t.pointer.startIgnored) (takeCue_parts (c := c) (s := s) rfl rfl) :)
  have hcalled := calledCue_beats c s
  have hpointer' : (calledCue c s).pointer.startIgnored = s.pointer.startIgnored :=
    (congrArg (fun t : State => t.pointer.startIgnored) (calledCue_parts c s) :)
  have hkept : (takeClick c.click (calledCue c s)).tempo = s.tempo.apply c.tempo := by
    rw [hclick]
    by_cases hidle : s.beats.click = .idle
    · have hidle' : (calledCue c s).beats.click = .idle := by rw [hcalled]; exact hidle
      rw [takeClick_start_idle hidle', (startClick_parts hidle' (calledCue_quiet c hquiet)).tempo, calledCue_tempo, htempo]
      rfl
    · have hidle' : (calledCue c s).beats.click ≠ .idle := by rw [hcalled]; exact hidle
      exact (congrArg State.tempo (takeClick_start_running (n := n) hidle') :).trans (calledCue_tempo c s)
  refine ⟨by rw [hpointer], by rw [hpointer], by rw [takeCue_tempo, hkept, htempo]; rfl, by rw [takeCue_tempo, hkept, htempo]; rfl,
    fun hidle => ?_, fun hidle hnext hcurrent hpushes => ?_, fun hidle => ?_⟩
  · have hidle' : (calledCue c s).beats.click = .idle := by rw [hcalled]; exact hidle
    rw [hignored, hclick, takeClick_start_idle hidle', (startClick_parts hidle' (calledCue_quiet c hquiet)).pointer, hpointer']
  · rw [hbeats]
    exact takeCue_start_idle hquiet hclick htempo hidle hnext hcurrent hpushes
  · have hidle' : (calledCue c s).beats.click ≠ .idle := by rw [hcalled]; exact hidle
    have hrunning := takeClick_start_running (n := n) hidle'
    rw [hignored, hbeats, takeCue_clicks, hclick]
    refine ⟨(congrArg (fun t : State => t.pointer.startIgnored) hrunning :).trans ?_, (congrArg State.beats hrunning :).trans hcalled,
      (congrArg State.clicks hrunning :).trans (congrArg State.clicks (calledCue_parts c s) :)⟩
    rw [hpointer', hcalled]
    rfl

/-! ## STOP and CUT by GO (R26, R28, R88) -/

theorem takeClick_stop {c : Cue} {s : State} (hclick : c.click = .stop) (hruns : s.beats.click = .countIn ∨ s.beats.click = .running) :
    (takeClick c.click (calledCue c s)).beats = { s.beats.called c with
      click := .finishing, lastBarToBegin := s.commitDue && s.beats.barStartNext } := by
  have hcalled := calledCue_beats c s
  have hdue : (calledCue c s).commitDue = s.commitDue := by
    unfold State.commitDue
    rw [hcalled, calledCue_now]
    rfl
  rw [hclick]
  show (finishClick (calledCue c s)).beats = _
  rw [finishClick_beats, hdue, hcalled, if_pos (show (s.beats.called c).click = _ ∨ (s.beats.called c).click = _ from hruns)]
  rfl

theorem takeCue_stop {c : Cue} {s : State} (hclick : c.click = .stop) (hruns : s.beats.click = .countIn ∨ s.beats.click = .running)
    (hroom : s.beats.pushes.length < 4) :
    (takeCue c s).beats = { s.beats with
      click := .finishing, lastBarToBegin := s.commitDue && s.beats.barStartNext
      pendingMeter := c.meter <|> s.beats.pendingMeter, pendingBar := c.scoreBar <|> s.beats.pendingBar
      pushes := s.beats.pushes ++ c.vamp.toList } := by
  have hfinished := takeClick_stop hclick hruns
  rw [takeCue_beats, startedBar_none (by rw [hclick]; exact ClickAction.noConfusion), takeVamp_added (by rw [hfinished]; exact hroom),
    hfinished]
  rfl

/-- The voices, the start lists and the flashes that a CUT leaves (R51, R144). -/
theorem cutClick_flashes (s : State) (m : Fin 6) : tget (cutClick s).overlay.flashes m = FlashRec.reset := by
  have hcut : (cutClick s).overlay.flashes = tmap (fun _ => FlashRec.reset) (cutBeats s).overlay.flashes := by
    simp [cutClick, clearArmed, cutFlashes]
  rw [hcut, tget_tmap]

theorem takeCue_cut {c : Cue} {s : State} (hquiet : NothingRaised s) (hclick : c.click = .cut) (hruns : s.beats.click ≠ .idle) :
    (takeCue c s).beats = { s.beats with
      click := .idle, current := none, next := none, nextOnset := none, countInLeft := 0, firstBarDue := false,
      lastBarToBegin := false, vamps := []
      pendingMeter := c.meter <|> s.beats.pendingMeter, pendingBar := c.scoreBar <|> s.beats.pendingBar
      pushes := c.vamp.toList } ∧
    (takeCue c s).stops.holdOff = 0 ∧ (∀ m, tget (takeCue c s).overlay.flashes m = FlashRec.reset) ∧
    (takeCue c s).clicks.Silent := by
  have hcalled := calledCue_beats c s
  have hcut : takeClick c.click (calledCue c s) = cutClick (calledCue c s) := by rw [hclick, takeClick_cut (calledCue_quiet c hquiet)]
  have hidled : (cutClick (calledCue c s)).beats = { (s.beats.called c).idled with countInLeft := 0 } := by
    rw [cutClick_beats, cutBeats_beats, hcalled, if_neg (show (s.beats.called c).click ≠ .idle from hruns)]
  refine ⟨?_, ?_, fun m => ?_, ?_⟩
  · rw [takeCue_beats, startedBar_none (by rw [hclick]; exact ClickAction.noConfusion), hcut,
      takeVamp_added (by rw [hidled]; exact Nat.zero_lt_succ 3), hidled]
    rfl
  · have hstops := (congrArg (fun t : State => t.stops.holdOff) (takeCue_parts (c := c) (s := s) rfl rfl) :)
    refine hstops.trans ?_
    rw [hcut, cutClick_stops, cutBeats_stops, hcalled, if_neg (show (s.beats.called c).click ≠ .idle from hruns)]
  · rw [takeCue_flashes, hcut, cutClick_flashes]
  · rw [takeCue_clicks, hcut]
    exact cutClick_clicks _

/-! ## A commit after the take (R22, R23, R82) -/

/-- The meter at a bar start is the pending one, where there is one; the click moves from COUNT_IN alone (R29, R31). -/
theorem barOfCommit_meter {s : State} (hstart : s.beats.barStartNext = true) :
    (barOfCommit s).2.beats.meter = s.beats.pendingMeter.getD s.beats.meter ∧
    (s.beats.click ≠ .countIn → (barOfCommit s).2.beats.click = s.beats.click) := by
  obtain ⟨u, -, hbeats, hbar⟩ := barOfCommit_start hstart
  have hmeter : u.beats.meter = s.beats.pendingMeter.getD s.beats.meter := by rw [hbeats]; rfl
  have hclick : u.beats.click = s.beats.click := by rw [hbeats]; rfl
  rw [hbar]
  split
  · split
    · exact ⟨hmeter, fun _ => hclick⟩
    · obtain ⟨w, -, hw, hfirst⟩ := beginFirstBar_eq u
      rw [hfirst]
      dsimp only
      rw [pushAll_beats, hw]
      refine ⟨hmeter, fun h => ?_⟩
      show (if u.beats.click = .countIn then ClickState.running else u.beats.click) = _
      rw [if_neg (by rw [hclick]; exact h), hclick]
  · obtain ⟨w, -, hw, hmusic⟩ := beginMusicBar_eq ((s.beats.latest.map fun b => b.bar.toNat).getD 0) u
    rw [hmusic]
    dsimp only
    rw [pushAll_beats, hw]
    exact ⟨hmeter, fun _ => hclick⟩

theorem barOfCommit_inside {s : State} (hstart : s.beats.barStartNext = false) :
    (barOfCommit s).2.beats = s.beats.takeOnset := by
  unfold barOfCommit
  dsimp only
  rw [if_neg (by rw [hstart]; decide)]
  simp

/-- What a commit fixes (R22, R29, R30). -/
structure BeatFixed (o : Nat) (s : State) (b : BeatState) : Prop where
  next : b.next = some (committedBeat o s)
  onset : b.nextOnset = some (o + (committedBeat o s).period)
  meter : s.beats.barStartNext = true → b.meter = s.beats.pendingMeter.getD s.beats.meter
  click : s.beats.click ≠ .countIn → b.click = s.beats.click
  last : b.lastBarToBegin = (s.beats.lastBarToBegin && !s.beats.barStartNext)

theorem beatFixed (o : Nat) (s : State) : BeatFixed o s (fixBeat o s).2.beats := by
  rw [fixBeat_eq]
  cases hstart : s.beats.barStartNext with
  | true =>
    obtain ⟨hmeter, hclick⟩ := barOfCommit_meter hstart
    exact ⟨rfl, rfl, fun _ => hmeter, hclick, by simp [hstart]⟩
  | false =>
    have hbeats := barOfCommit_inside hstart
    refine ⟨rfl, rfl, fun h => absurd (hstart.symm.trans h) Bool.false_ne_true, fun _ => ?_, ?_⟩
    · dsimp only
      rw [hbeats, takeOnset_eq]
    · dsimp only
      rw [hbeats, takeOnset_eq]
      simp [hstart]

/-- A commit at which an armed cue is or is not taken (R82). -/
theorem beatCommit_armed {o : Nat} {c : Cue} {s : State} (honset : s.beats.nextOnset = some o) (hdue : o / 65536 ≤ s.now + 4800)
    (hd : s.beats.discardsNext = false) (harmed : s.pointer.armed = some c.number) (hfind : s.tables.find c.number = some c) :
    beatCommit s = commitBeat true (if s.stops.state = .clear ∧ c.boundary.metBy s.beats.barStartNext = true then takeCue c s else s) := by
  have hcommit : s.commitDue = true := s.commitDue_iff.mpr ⟨o, honset, hdue⟩
  have hcue : armedCue s = some c := (armedCue_some harmed).trans hfind
  rw [beatCommit, if_pos hcommit, if_neg (by rw [hd]; decide), takeArmedAtCommit, hcue]

end Sys2Proof.Machine
end

section
/-!
PROOFS. The takes of O32: START, STOP and CUT by GO, the take of an armed cue at a commit (R82), and at the end of FINISHING
(R83).
-/

namespace Sys2Proof.Machine
set_option Elab.async false

/-! ## By GO -/

/-- A GO that takes a cue leaves what the take leaves, but for the reply. -/
theorem exec_go_takes {r : Req} {c : Cue} {s : State} (hfree : Free r s) (hrole : FromRole .sm r s) (hshow : s.inShow = true)
    (hclear : s.stops.state = .clear) (hfind : s.tables.find c.number = some c)
    (hcall : s.pointer.armed = some c.number ∨ (s.pointer.armed = none ∧ s.pointer.standing = .cue c.number ∧
      (c.boundary = .immediate ∨ s.beats.click = .idle))) :
    ∃ t, exec (.go r []) s = .next t ∧ Replied r .ok [] t ∧ t = { takeCue c (validFrame r.port s) with desk := t.desk } := by
  have howner := ownGo_takes (s := validFrame r.port s) (c := c) ((onlyRigs_validFrame r.port s).inShow.trans hshow) hclear hfind hcall
  obtain ⟨hnext, hreplied⟩ := command_replied (roles := [.sm]) (decode := payloadNone) (payload := []) (owner := fun _ => ownGo)
    hfree hrole rfl rfl howner
  exact ⟨_, rfl, hreplied, hnext⟩

theorem go_starts {r : Req} {c : Cue} {v n : Nat} {s : State} (hfree : Free r s) (hrole : FromRole .sm r s)
    (hshow : s.inShow = true) (hclear : s.stops.state = .clear) (hfind : s.tables.find c.number = some c)
    (hcall : s.pointer.armed = some c.number ∨ (s.pointer.armed = none ∧ s.pointer.standing = .cue c.number ∧
      (c.boundary = .immediate ∨ s.beats.click = .idle)))
    (htempo : c.tempo = .fixed v) (hclick : c.click = .start n) (hvamp : c.vamp = none) (hquiet : NothingRaised s) :
    ∃ t, exec (.go r []) s = .next t ∧ Replied r .ok [] t ∧ t.pointer.current = some c.number ∧
      t.pointer.armed = none ∧ t.tempo.current = v ∧ t.tempo.mode = .fixed ∧
      (s.beats.click = .idle → s.beats.next = none → s.beats.current = none → s.beats.pushes = [] →
        let o := (s.now + 4800) * 65536
        let P := 18874368000000 / v
        t.pointer.startIgnored = s.pointer.startIgnored ∧
        t.beats = { s.beats with
          click := if n = 0 then .running else .countIn
          next := some
            { onset := o, period := P, tempo := v,
              bar := if n = 0 then (((c.scoreBar <|> s.beats.pendingBar).getD 1 : Nat) : Int) else -(n : Int),
              beat := 1, downbeat := true, countIn := decide (n ≠ 0), vampLoop := false, lastPass := false }
          nextOnset := some (o + P), countInLeft := n - 1, countInLength := n, firstBarDue := decide (n ≠ 0),
          startBar := 1, lastBarToBegin := false
          meter := (c.meter <|> s.beats.pendingMeter).getD s.beats.meter, pendingMeter := none
          pendingBar := if n = 0 then none else c.scoreBar <|> s.beats.pendingBar }) ∧
      (s.beats.click ≠ .idle →
        t.pointer.startIgnored = (s.pointer.startIgnored || decide (s.beats.click = .finishing)) ∧
        t.beats = { s.beats with
          pendingMeter := c.meter <|> s.beats.pendingMeter, pendingBar := c.scoreBar <|> s.beats.pendingBar } ∧
        t.clicks = s.clicks) := by
  obtain ⟨t, hexec, hreplied, hparts⟩ := exec_go_takes hfree hrole hshow hclear hfind hcall
  have hframe := onlyRigs_validFrame r.port s
  obtain ⟨hcurrent, harmed, hv, hmode, hignored, hidle, hruns⟩ :=
    takeCue_start (s := validFrame r.port s) (hframe.nothingRaised hquiet) hclick htempo hvamp
  generalize takeCue c (validFrame r.port s) = w at hparts hcurrent harmed hv hmode hignored hidle hruns
  have hpointer := (congrArg State.pointer hparts :)
  have hwtempo := (congrArg State.tempo hparts :)
  have hwbeats := (congrArg State.beats hparts :)
  have hwclicks := (congrArg State.clicks hparts :)
  refine ⟨t, hexec, hreplied, by rw [hpointer]; exact hcurrent, by rw [hpointer]; exact harmed, by rw [hwtempo]; exact hv,
    by rw [hwtempo]; exact hmode, fun hi hnext hcur hpushes => ?_, fun hi => ?_⟩
  · refine ⟨by rw [hpointer]; exact hignored hi, ?_⟩
    refine hwbeats.trans ((hidle hi hnext hcur hpushes).trans ?_)
    rw [hframe.beats, hframe.now]
    by_cases hn : n = 0
    · subst hn
      rfl
    · simp [BeatState.firstCommitted, BeatState.startedAt, BeatState.called, hn]
  · obtain ⟨h1, h2, h3⟩ := hruns hi
    rw [hpointer, hwbeats, hwclicks]
    refine ⟨h1, h2.trans ?_, h3.trans (by simp)⟩
    rw [hframe.beats]
    rfl

theorem go_ends_run {r : Req} {c : Cue} {s : State} (hfree : Free r s) (hrole : FromRole .sm r s) (hshow : s.inShow = true)
    (hclear : s.stops.state = .clear) (hfind : s.tables.find c.number = some c)
    (hcall : s.pointer.armed = some c.number ∨ (s.pointer.armed = none ∧ s.pointer.standing = .cue c.number ∧
      c.boundary = .immediate)) (hquiet : NothingRaised s) (hruns : s.beats.click = .countIn ∨ s.beats.click = .running)
    (hroom : s.beats.pushes.length < 4) :
    ∃ t, exec (.go r []) s = .next t ∧ Replied r .ok [] t ∧ t.pointer.current = some c.number ∧
      (c.click = .stop → s.commitDue = false →
        t.beats = { s.beats with
          click := .finishing, lastBarToBegin := false
          pendingMeter := c.meter <|> s.beats.pendingMeter, pendingBar := c.scoreBar <|> s.beats.pendingBar
          pushes := s.beats.pushes ++ c.vamp.toList }) ∧
      (c.click = .cut →
        t.beats = { s.beats with
          click := .idle, current := none, next := none, nextOnset := none, countInLeft := 0, firstBarDue := false,
          lastBarToBegin := false, vamps := []
          pendingMeter := c.meter <|> s.beats.pendingMeter, pendingBar := c.scoreBar <|> s.beats.pendingBar
          pushes := c.vamp.toList } ∧
        t.stops.holdOff = 0 ∧
        (∀ m, (tget t.overlay.flashes m).target = none ∧ (tget t.overlay.flashes m).ticks = 0) ∧
        (∀ i, (t.clicks.lane i).starts = [] ∧ (t.clicks.lane i).clickVoice = none ∧
          (t.clicks.lane i).countVoicePlaying = none)) := by
  obtain ⟨t, hexec, hreplied, hparts⟩ := exec_go_takes hfree hrole hshow hclear hfind
    (hcall.imp_right fun ⟨h1, h2, h3⟩ => ⟨h1, h2, .inl h3⟩)
  have hframe := onlyRigs_validFrame r.port s
  obtain ⟨b, hpointer⟩ := (takeCue_taken c (hframe.nothingRaised hquiet)).pointer
  have hcommit : (validFrame r.port s).commitDue = s.commitDue := by
    unfold State.commitDue
    rw [hframe.beats, hframe.now]
  refine ⟨t, hexec, hreplied, by rw [hparts]; exact (congrArg Pointer.current hpointer :), fun hstop hnot => ?_, fun hcut => ?_⟩
  · refine (congrArg State.beats hparts :).trans ((takeCue_stop (s := validFrame r.port s) hstop hruns hroom).trans ?_)
    rw [hcommit, hnot, hframe.beats]
    rfl
  · have hne : (validFrame r.port s).beats.click ≠ .idle := by
      rw [hframe.beats]
      rcases hruns with h | h <;> rw [h] <;> decide
    obtain ⟨h1, h2, h3, h4⟩ := takeCue_cut (hframe.nothingRaised hquiet) hcut hne
    generalize takeCue c (validFrame r.port s) = w at hparts h1 h2 h3 h4
    refine ⟨(congrArg State.beats hparts :).trans (h1.trans (by rw [hframe.beats])),
      (congrArg (fun t : State => t.stops.holdOff) hparts :).trans h2, fun m => ?_, fun i => ?_⟩
    · rw [(congrArg (fun t : State => t.overlay.flashes) hparts :), h3]
      exact ⟨rfl, rfl⟩
    · rw [(congrArg State.clicks hparts :)]
      exact h4 i

/-! ## At a commit (R82) -/

/-- The beats on which the commit after a take of KEEP or STOP is fixed. -/
theorem takeCue_beats_kept {c : Cue} {s : State} (hstart : ∀ n, c.click ≠ .start n) (hcut : c.click ≠ .cut) :
    (takeCue c s).beats.latest = s.beats.latest ∧ (takeCue c s).beats.nextOnset = s.beats.nextOnset ∧
    (takeCue c s).beats.meter = s.beats.meter ∧ (takeCue c s).beats.pendingMeter = (c.meter <|> s.beats.pendingMeter) := by
  have hkept : ∀ u, (takeClick c.click u).beats = { u.beats with
      click := (takeClick c.click u).beats.click, lastBarToBegin := (takeClick c.click u).beats.lastBarToBegin } := fun u => by
    cases hc : c.click with
    | keep => rfl
    | start n => exact absurd hc (hstart n)
    | stop =>
      show (finishClick u).beats = _
      rw [show takeClick .stop u = finishClick u from rfl, finishClick_beats]
      split <;> rfl
    | cut => exact absurd hc hcut
  rw [takeCue_beats, takeVamp_beats, hkept, calledCue_beats]
  exact ⟨rfl, rfl, rfl, rfl⟩

theorem takeCue_stop_click {c : Cue} {s : State} (hstop : c.click = .stop)
    (hruns : s.beats.click = .countIn ∨ s.beats.click = .running) :
    (takeCue c s).beats.click = .finishing ∧ (takeCue c s).beats.lastBarToBegin = (s.commitDue && s.beats.barStartNext) := by
  rw [takeCue_beats, takeVamp_beats, takeClick_stop hstop hruns]
  exact ⟨rfl, rfl⟩

/-- The commit of the sample at which an armed cue is taken, or left armed (R82). -/
theorem commit_armed {o : Nat} {c : Cue} {s : State} (honset : s.beats.nextOnset = some o) (hdue : o / 65536 ≤ s.now + 4800)
    (hd : s.beats.discardsNext = false) (harmed : s.pointer.armed = some c.number) (hfind : s.tables.find c.number = some c)
    (hquiet : NothingRaised s) :
    ∃ t, exec .beatCommit s = .next t ∧
      (s.stops.state ≠ .clear ∨ (c.boundary = .nextBar ∧ s.beats.barStartNext = false) →
        t.pointer = s.pointer ∧ ∃ b, t.beats.next = some b ∧ b.onset = o) ∧
      (s.stops.state = .clear → (c.boundary = .nextBar → s.beats.barStartNext = true) → (∀ n, c.click ≠ .start n) →
        t.pointer = { s.pointer with
          current := some c.number, armed := none, chasePending := false,
          standing := match s.tables.after c.number with
            | some d => .cue d.number
            | none => .ended } ∧
        (c.click ≠ .cut → ∃ b, t.beats.next = some b ∧ b.onset = o ∧ t.beats.nextOnset = some (o + b.period) ∧
          b.period = 18874368000000 / b.tempo ∧ (∀ v, c.tempo = .fixed v → b.tempo = v) ∧
          (s.beats.barStartNext = true → b.beat = 1 ∧
            t.beats.meter = (c.meter <|> s.beats.pendingMeter).getD s.beats.meter)) ∧
        (c.click = .stop → (s.beats.click = .countIn ∨ s.beats.click = .running) →
          t.beats.click = .finishing ∧ t.beats.lastBarToBegin = false) ∧
        (c.click = .cut → s.beats.click ≠ .idle →
          t.beats.click = .idle ∧ t.beats.current = none ∧ t.beats.next = none ∧ t.beats.nextOnset = none)) := by
  have hcommit := beatCommit_armed honset hdue hd harmed hfind
  refine ⟨beatCommit s, rfl, fun hnot => ?_, fun hclear hmet hstart => ?_⟩
  · have hleft : beatCommit s = commitBeat true s := by
      rw [hcommit, if_neg]
      rintro ⟨hclear, hmet⟩
      rcases hnot with h | ⟨hb, hinside⟩
      · exact h hclear
      · rw [hb, hinside] at hmet
        cases hmet
    rw [hleft]
    refine ⟨(commitBeat_announced honset hquiet true).pointer, committedBeat o s, ?_, rfl⟩
    rw [commitBeat_beats honset hquiet]
    exact (beatFixed o s).next
  · have htakes : c.boundary.metBy s.beats.barStartNext = true := by
      cases hb : c.boundary with
      | nextBar => exact hmet hb
      | immediate => rfl
      | nextBeat => rfl
    rw [if_pos ⟨hclear, htakes⟩] at hcommit
    have htaken := takeCue_taken c hquiet
    obtain ⟨hpointer, htempo⟩ := htaken.unstarted hstart
    have hquiet' := htaken.quiet hquiet
    by_cases hcut : c.click = .cut
    · by_cases hidle : s.beats.click = .idle
      · have hkept : (commitBeat true (takeCue c s)).pointer = (takeCue c s).pointer := by
          cases hnext : (takeCue c s).beats.nextOnset with
          | none => rw [commitBeat_of_none hnext]
          | some o => exact (commitBeat_announced hnext hquiet' true).pointer
        rw [hcommit]
        exact ⟨hkept.trans hpointer, fun h => absurd hcut h, fun h => absurd (h.symm.trans hcut) ClickAction.noConfusion,
          fun _ h => absurd hidle h⟩
      · have hbeats := (takeCue_cut hquiet hcut hidle).1
        rw [hcommit, commitBeat_of_none (by rw [hbeats])]
        refine ⟨hpointer, fun h => absurd hcut h, fun h => absurd (h.symm.trans hcut) ClickAction.noConfusion, fun _ _ => ?_⟩
        rw [hbeats]
        exact ⟨rfl, rfl, rfl, rfl⟩
    · obtain ⟨hlatest, hnext, hmeter, hpending⟩ := takeCue_beats_kept hstart hcut
      have honset' : (takeCue c s).beats.nextOnset = some o := hnext.trans honset
      have hbar : (takeCue c s).beats.barStartNext = s.beats.barStartNext := by
        unfold BeatState.barStartNext
        rw [hlatest, hmeter]
      have hstop := fun h => takeCue_stop_click (c := c) (s := s) h
      generalize takeCue c s = w at hcommit hpointer htempo hquiet' hmeter hpending honset' hbar hstop
      have hfixed := beatFixed o w
      rw [hcommit]
      rw [← commitBeat_beats honset' hquiet' true] at hfixed
      refine ⟨((commitBeat_announced honset' hquiet' true).pointer).trans hpointer, fun _ => ⟨committedBeat o w, hfixed.next, rfl,
        hfixed.onset, rfl, fun v hv => ?_, fun hs => ⟨?_, ?_⟩⟩, fun hs hruns => ?_, fun h => absurd h hcut⟩
      · show (w.tempo.commit).1 = v
        rw [commit_eq, htempo, hv]
        rfl
      · exact if_pos (hbar.trans hs)
      · rw [hfixed.meter (hbar.trans hs), hpending, hmeter]
      · obtain ⟨hclick, hlast⟩ := hstop hs hruns
        have hcommitDue : s.commitDue = true := s.commitDue_iff.mpr ⟨o, honset, hdue⟩
        rw [hfixed.click (by rw [hclick]; decide), hfixed.last, hlast, hcommitDue, hbar, Bool.true_and, Bool.and_not_self]
        exact ⟨hclick, rfl⟩

/-! ## At the end of FINISHING (R83) -/

theorem finishingEnd_armed {c : Cue} {last : Beat} {s : State} (hclear : s.stops.state = .clear)
    (hclick : s.beats.click = .finishing) (honset : s.beats.nextOnset = none) (hcurrent : s.beats.current = some last)
    (hdue : (last.onset + last.period) / 65536 ≤ s.now) (hquiet : NothingRaised s) (harmed : s.pointer.armed = some c.number)
    (hfind : s.tables.find c.number = some c) :
    finishingEnd s = takeCue c (enterIdle s) := by
  have hidle : NothingRaised (enterIdle s) := hquiet.congr (by simp)
  have hcue : armedCue (enterIdle s) = some c := (armedCue_some (by rw [enterIdle_pointer]; exact harmed)).trans (by simpa using hfind)
  have htakes : takeArmedIfIdle (enterIdle s) = takeCue c (enterIdle s) := by
    unfold takeArmedIfIdle
    rw [if_pos ⟨by rw [enterIdle_beats]; rfl, by rw [enterIdle_stops]; exact hclear⟩, hcue]
  obtain ⟨h, hstops⟩ := (takeCue_taken c hidle).stops
  have hnot : (takeCue c (enterIdle s)).stops.state ≠ .stopping := by
    rw [hstops, enterIdle_stops]
    show s.stops.state ≠ _
    rw [hclear]
    decide
  unfold finishingEnd
  rw [hclick, honset, hcurrent]
  dsimp only
  refine (if_pos hdue).trans ?_
  rw [sample_of_nothingRaised false hidle, htakes, arrive_elsewhere hnot]

/-- A cue that does not start an IDLE click on which no beat stands leaves it so. -/
theorem takeCue_idle {c : Cue} {s : State} (hquiet : NothingRaised s) (hstart : ∀ n, c.click ≠ .start n)
    (hidle : s.beats.click = .idle) (hnext : s.beats.next = none) :
    (takeCue c s).beats.click = .idle ∧ (takeCue c s).beats.next = none := by
  have hcalled := calledCue_beats c s
  have hkept : (takeClick c.click (calledCue c s)).beats = s.beats.called c := by
    cases hc : c.click with
    | keep => exact hcalled
    | start n => exact absurd hc (hstart n)
    | stop =>
      show (finishClick (calledCue c s)).beats = _
      rw [finishClick_beats, hcalled, if_neg]
      show ¬ (s.beats.click = _ ∨ s.beats.click = _)
      rw [hidle]
      decide
    | cut =>
      rw [takeClick_cut (calledCue_quiet c hquiet), cutClick_beats, cutBeats_beats, hcalled, if_pos (show (s.beats.called c).click = _ from hidle)]
  rw [takeCue_beats, takeVamp_beats, hkept]
  exact ⟨hidle, hnext⟩

/-- A cue that starts an IDLE click commits its first beat at once, whatever its vamp. -/
theorem takeCue_starts {c : Cue} {n v : Nat} {s : State} (hquiet : NothingRaised s) (hclick : c.click = .start n)
    (htempo : c.tempo = .fixed v) (hidle : s.beats.click = .idle) (hnext : s.beats.next = none)
    (hcurrent : s.beats.current = none) (hpushes : s.beats.pushes = []) :
    (takeCue c s).beats.click = (if n = 0 then .running else .countIn) ∧
      ∃ b, (takeCue c s).beats.next = some b ∧ b.onset = (s.now + 4800) * 65536 ∧ b.tempo = v := by
  rw [takeCue_beats, takeVamp_beats, takeCue_start_idle hquiet hclick htempo hidle hnext hcurrent hpushes]
  refine ⟨?_, _, rfl, rfl, rfl⟩
  by_cases hn : n = 0
  · subst hn
    rfl
  · simp [BeatState.firstCommitted, BeatState.startedAt, hn]

/-- Settles O32: the click actions of a cue taken by GO, at a commit and at the end of FINISHING. -/
theorem cueMovesTheClick : Obligations.CueMovesTheClick := by
  refine ⟨fun r c v n s hfree hrole hshow hclear hfind hcall htempo hclick hvamp hquiet =>
      go_starts hfree hrole hshow hclear hfind hcall htempo hclick hvamp hquiet,
    fun r c s hfree hrole hshow hclear hfind hcall hquiet hruns hroom =>
      go_ends_run hfree hrole hshow hclear hfind hcall hquiet hruns hroom,
    fun o c s honset hdue hd harmed hfind hquiet => commit_armed honset hdue hd harmed hfind hquiet,
    fun c last s hclear hclick honset hcurrent hdue hquiet harmed hfind => ⟨finishingEnd s, rfl, ?_⟩⟩
  have hidle : NothingRaised (enterIdle s) := hquiet.congr (by simp)
  have hbeats := enterIdle_beats s
  rw [finishingEnd_armed hclear hclick honset hcurrent hdue hquiet harmed hfind]
  obtain ⟨b, hpointer⟩ := (takeCue_taken c hidle).pointer
  refine ⟨by rw [hpointer], by rw [hpointer], fun hstart => ?_, fun n v hs ht => ?_⟩
  · exact takeCue_idle hidle hstart (by rw [hbeats]; rfl) (by rw [hbeats]; rfl)
  · have hstarts := takeCue_starts hidle hs ht (by rw [hbeats]; rfl) (by rw [hbeats]; rfl) (by rw [hbeats]; rfl) (by rw [hbeats]; rfl)
    rwa [show (enterIdle s).now = s.now by simp] at hstarts

end Sys2Proof.Machine
end

section
/-!
PROOFS. The pop test and the end of a stop run with nothing raised (R83, R175, R176), ACK and ACK OVERRIDE (R174).
-/

namespace Sys2Proof.Machine
set_option Elab.async false

/-! ## The pop test with nothing raised -/

/-- With nothing raised every acknowledged record at the top leaves (R175). -/
theorem popped_quiet {s : State} (h : NothingRaised s) (l : List StopRecord) : popped s.stops l = l.dropWhile (·.acked) := by
  induction l with
  | nil => rfl
  | cons r l ih =>
    rw [popped, h r.source, List.dropWhile_cons, ih]
    cases r.acked <;> rfl

/-- The state in which the records of a sample have left the stack (R175). -/
def poppedTo (l : List StopRecord) (s : State) : State :=
  notify .stop { s with stops := { s.stops with stack := l, topTicked := false, topReported := false } }

theorem afterPops_eq (s : State) :
    afterPops s = if (popped s.stops s.stops.stack).isEmpty then endRun (poppedTo (popped s.stops s.stops.stack) s)
      else poppedTo (popped s.stops s.stops.stack) s := rfl

theorem endRun_quiet {s : State} (h : NothingRaised s) : NothingRaised (endRun s) := fun i => (isRaised_endRun s).trans (h i)

/-- The pops of a sample where the top record is acknowledged and nothing is raised. -/
theorem popTest_quiet {x : StopRecord} {rest : List StopRecord} {s : State} (hquiet : NothingRaised s)
    (hstack : s.stops.stack = x :: rest) (hacked : x.acked = true) :
    (rest.dropWhile (·.acked) = [] → popTest s = takeArmedIfIdle (endRun (poppedTo [] s))) ∧
    (rest.dropWhile (·.acked) ≠ [] → popTest s = poppedTo (rest.dropWhile (·.acked)) s) := by
  have hpopped : popped s.stops s.stops.stack = rest.dropWhile (·.acked) := by
    rw [hstack, popped_quiet hquiet, List.dropWhile_cons, if_pos hacked]
  have hlength : (rest.dropWhile (·.acked)).length ≠ s.stops.stack.length := by
    have hsub := (List.dropWhile_sublist (l := rest) (p := (·.acked))).length_le
    rw [hstack, List.length_cons]
    omega
  have hpops := afterPops_eq s
  rw [popTest_eq, hpopped, if_neg hlength]
  rw [hpopped] at hpops
  have hleft : ∀ l, NothingRaised (poppedTo l s) := fun l => hquiet
  refine ⟨fun hnil => ?_, fun hne => ?_⟩
  · rw [hnil] at hpops ⊢
    rw [hpops]
    exact congrArg takeArmedIfIdle (sample_of_nothingRaised false (endRun_quiet (hleft [])))
  · have hempty : ¬ (rest.dropWhile (·.acked)).isEmpty = true := fun h => hne (List.isEmpty_iff.mp h)
    rw [if_neg hempty] at hpops ⊢
    rw [hpops, sample_of_nothingRaised false (hleft _)]

/-! ## The end of a run (R83, R176) -/

theorem takeArmedIfIdle_of_not_clear {s : State} (h : s.stops.state ≠ .clear) : takeArmedIfIdle s = s := if_neg fun h' => h h'.2

theorem takeArmedIfIdle_of_running {s : State} (h : s.beats.click ≠ .idle) : takeArmedIfIdle s = s := if_neg fun h' => h h'.1

theorem takeArmedIfIdle_takes {c : Cue} {s : State} (hidle : s.beats.click = .idle) (hclear : s.stops.state = .clear)
    (harmed : s.pointer.armed = some c.number) (hfind : s.tables.find c.number = some c) : takeArmedIfIdle s = takeCue c s := by
  unfold takeArmedIfIdle
  rw [if_pos ⟨hidle, hclear⟩, armedCue_some harmed, hfind]

theorem unfrozen (s : State) (m : Fin 6) : ((setFrozen false s).picture.monitor m).frozen = false := by
  have hpicture : (setFrozen false s).picture = s.picture.freezeAll false := by simp [setFrozen]
  rw [hpicture]
  simp [Picture.freezeAll, Picture.monitor]

/-- A show that returns to CLEAR after an advisory run (R176). -/
def clearedRun (s : State) : State := setStopState .clear (setFrozen false s)

theorem clearedRun_parts (s : State) :
    (clearedRun s).stops = { s.stops with state := .clear } ∧ (clearedRun s).beats = s.beats ∧ (clearedRun s).pointer = s.pointer ∧
    (clearedRun s).tables = s.tables ∧ ∀ m, ((clearedRun s).picture.monitor m).frozen = false := by
  have hpicture : (clearedRun s).picture = (setFrozen false s).picture := by simp [clearedRun]
  refine ⟨by simp [clearedRun], by simp [clearedRun], by simp [clearedRun], by simp [clearedRun], fun m => ?_⟩
  rw [hpicture]
  exact unfrozen s m

/-- What the pops of a sample leave, by what stands on the stack after them (R175, R176). -/
structure PopsMade (rest : List StopRecord) (s t : State) : Prop where
  stack : t.stops.stack = rest.dropWhile (·.acked)
  left : rest.dropWhile (·.acked) ≠ [] →
    t.stops.state = s.stops.state ∧ t.beats = s.beats ∧ t.pointer = s.pointer ∧ t.rigs = s.rigs
  resumes : rest.dropWhile (·.acked) = [] → s.resume.target ≠ none → t = issueRestores (poppedTo [] s)
  awaits : rest.dropWhile (·.acked) = [] → s.resume.target = none → s.stops.runAdvisory = false →
    t.stops.state = .awaitResume ∧ t.picture = s.picture ∧ t.beats = s.beats ∧ t.pointer = s.pointer
  clears : rest.dropWhile (·.acked) = [] → s.resume.target = none → s.stops.runAdvisory = true →
    (s.beats.click ≠ .idle ∨ s.pointer.armed = none) →
    t.stops.state = .clear ∧ (∀ m, (t.picture.monitor m).frozen = false) ∧ t.beats = s.beats ∧ t.pointer = s.pointer
  takes : ∀ c, rest.dropWhile (·.acked) = [] → s.resume.target = none → s.stops.runAdvisory = true →
    s.beats.click = .idle → s.pointer.armed = some c.number → s.tables.find c.number = some c →
    t.stops.state = .clear ∧ t.pointer.current = some c.number ∧ t.pointer.armed = none

/-- The end of a run with the stack empty, by the target and the run-advisory flag (R176). -/
theorem endRun_resumes {s : State} (h : s.resume.target ≠ none) : takeArmedIfIdle (endRun s) = issueRestores s := by
  have hend : endRun s = issueRestores s := by
    unfold endRun
    split
    · rfl
    · next hnone => exact absurd hnone h
  rw [hend]
  exact takeArmedIfIdle_of_not_clear (by rw [issueRestores_stops]; exact StopState.noConfusion)

theorem endRun_awaits {s : State} (h : s.resume.target = none) (ha : s.stops.runAdvisory = false) :
    takeArmedIfIdle (endRun s) = setStopState .awaitResume s := by
  have hend : endRun s = setStopState .awaitResume s := by
    unfold endRun
    rw [h, ha]
    rfl
  rw [hend]
  exact takeArmedIfIdle_of_not_clear (by rw [setStopState_stops]; exact StopState.noConfusion)

theorem endRun_clears {s : State} (h : s.resume.target = none) (ha : s.stops.runAdvisory = true) : endRun s = clearedRun s := by
  unfold endRun
  rw [h, ha]
  rfl

/-- The stack is empty after the end of its run, whatever an armed cue's take does. -/
theorem endRun_stack {s : State} (hquiet : NothingRaised s) : (takeArmedIfIdle (endRun s)).stops.stack = s.stops.stack := by
  obtain ⟨x, -, hstops⟩ := endRun_stops s
  have hstack : (endRun s).stops.stack = s.stops.stack := by rw [hstops]
  unfold takeArmedIfIdle
  split
  · split
    · next c _ =>
      obtain ⟨h, htaken⟩ := (takeCue_taken c (endRun_quiet hquiet)).stops
      rw [htaken]
      exact hstack
    · exact hstack
  · exact hstack

theorem popTest_made {x : StopRecord} {rest : List StopRecord} {s : State} (hquiet : NothingRaised s)
    (hstack : s.stops.stack = x :: rest) (hacked : x.acked = true) : PopsMade rest s (popTest s) := by
  obtain ⟨hends, hstays⟩ := popTest_quiet hquiet hstack hacked
  have hquiet' : NothingRaised (poppedTo [] s) := hquiet
  refine { stack := ?_, left := fun hne => ?_, resumes := fun hnil htarget => ?_, awaits := fun hnil htarget ha => ?_,
           clears := fun hnil htarget ha hno => ?_, takes := fun c hnil htarget ha hidle harmed hfind => ?_ }
  · by_cases hnil : rest.dropWhile (·.acked) = []
    · rw [hends hnil, endRun_stack hquiet', hnil]
      rfl
    · rw [hstays hnil]
      rfl
  · rw [hstays hne]
    exact ⟨rfl, rfl, rfl, rfl⟩
  · rw [hends hnil, endRun_resumes (s := poppedTo [] s) htarget]
  · rw [hends hnil, endRun_awaits (s := poppedTo [] s) htarget ha]
    simp [poppedTo]
  · obtain ⟨h1, h2, h3, -, h5⟩ := clearedRun_parts (poppedTo [] s)
    have hunarmed : takeArmedIfIdle (clearedRun (poppedTo [] s)) = clearedRun (poppedTo [] s) := by
      rcases hno with h | h
      · exact takeArmedIfIdle_of_running (by rw [h2]; exact h)
      · exact takeArmedIfIdle_of_unarmed (by rw [h3]; exact h)
    rw [hends hnil, endRun_clears (s := poppedTo [] s) htarget ha, hunarmed]
    exact ⟨by rw [h1], h5, h2, h3⟩
  · obtain ⟨h1, h2, h3, h4, -⟩ := clearedRun_parts (poppedTo [] s)
    have hclear : NothingRaised (clearedRun (poppedTo [] s)) := hquiet'.congr (by rw [h1])
    rw [hends hnil, endRun_clears (s := poppedTo [] s) htarget ha, takeArmedIfIdle_takes (c := c) (by rw [h2]; exact hidle)
      (by rw [h1]) (by rw [h3]; exact harmed) (by rw [h4]; exact hfind)]
    have htaken := takeCue_taken c hclear
    obtain ⟨h, hstops⟩ := htaken.stops
    obtain ⟨b, hpointer⟩ := htaken.pointer
    rw [hstops, hpointer, h1]
    exact ⟨rfl, rfl, rfl⟩

/-! ## ACK and ACK OVERRIDE (R174) -/

theorem holderOf_isSome_iff (role : Role) (s : State) : (holderOf role s).isSome = true ↔ ∃ p, (s.port p).role = some role := by
  have hall : ∀ p : DeskPort, p ∈ allDeskPorts := by decide
  simp [holderOf, List.find?_isSome, hall]

/-- The state in which the top record has been acknowledged (R174). -/
def ackTop (x : StopRecord) (rest : List StopRecord) (s : State) : State :=
  notify .stop { s with stops := { s.stops with stack := { x with acked := true } :: rest } }

/-- What an acknowledgement is answered with, whoever sends it (R174). -/
structure Acknowledged (r : Req) (s t : State) : Prop where
  refused : s.stops.state ≠ .stopped ∨ s.stops.stack = [] → t = { s with desk := t.desk } ∧ Served r .noStop [] 0 s t
  again : ∀ x rest, s.stops.stack = x :: rest → x.acked = true → t = { s with desk := t.desk } ∧ Served r .noStop [] 0 s t
  raised : ∀ x rest, s.stops.state = .stopped → s.stops.stack = x :: rest → x.acked = false → s.stops.isRaised x.source = true →
    t = { s with stops := { s.stops with stack := { x with acked := true } :: rest }, desk := t.desk } ∧ Served r .ok [] 0x02 s t
  popped : ∀ x rest, s.stops.state = .stopped → s.stops.stack = x :: rest → x.acked = false → NothingRaised s →
    Replied r .ok [] t ∧
      ∃ w, PopsMade rest (ackTop x rest (validFrame r.port s)) w ∧ t = { w with desk := t.desk }

theorem ownAcknowledge_refused {s : State} (h : s.stops.state ≠ .stopped ∨ s.stops.stack = [] ∨
    ∃ x rest, s.stops.stack = x :: rest ∧ x.acked = true) : ownAcknowledge s = refuse .noStop s := by
  unfold ownAcknowledge
  split
  · next x rest hstate hstack =>
    rcases h with h | h | ⟨y, l, hl, hacked⟩
    · exact absurd hstate h
    · rw [h] at hstack
      cases hstack
    · obtain ⟨rfl, rfl⟩ := List.cons.inj (hstack.symm.trans hl)
      rw [hacked]
      rfl
  · rfl

theorem ownAcknowledge_accepted {x : StopRecord} {rest : List StopRecord} {s : State} (hstate : s.stops.state = .stopped)
    (hstack : s.stops.stack = x :: rest) (hacked : x.acked = false) : ownAcknowledge s = accept (popTest (ackTop x rest s)) := by
  unfold ownAcknowledge
  rw [hstate, hstack]
  dsimp only
  rw [hacked]
  rfl

/-- A record whose source stays raised stays on the stack (R175). -/
theorem popTest_stays {x : StopRecord} {rest : List StopRecord} {s : State} (hstack : s.stops.stack = x :: rest)
    (hraised : s.stops.isRaised x.source = true) : popTest s = s := by
  have hpopped : popped s.stops s.stops.stack = s.stops.stack := by
    rw [hstack, popped, hraised]
    simp
  rw [popTest_eq, hpopped, if_pos rfl]

section Command

variable {r : Req} {roles : List Role} {role : Role} {owner : Unit → State → Answer} {s : State} (hfree : Free r s)
  (hrole : FromRole role r s) (hr : roles.contains role = true)
  (howner : owner () (validFrame r.port s) = ownAcknowledge (validFrame r.port s))
include hfree hrole hr howner

theorem acknowledged : Acknowledged r s (command r roles payloadNone [] owner s) := by
  have hframe := onlyRigs_validFrame r.port s
  have hquiet := fun ho : ownAcknowledge (validFrame r.port s) = refuse .noStop (validFrame r.port s) =>
    command_quiet (decode := payloadNone) (payload := []) (owner := owner) hfree hrole hr rfl (howner.trans ho)
  refine { refused := fun h => hquiet ?_, again := fun x rest hstack hacked => hquiet ?_,
           raised := fun x rest hstate hstack hacked hraised => ?_, popped := fun x rest hstate hstack hacked hnothing => ?_ }
  · refine ownAcknowledge_refused ?_
    rw [hframe.stops]
    exact h.imp_right .inl
  · refine ownAcknowledge_refused (.inr (.inr ⟨x, rest, ?_, hacked⟩))
    rw [hframe.stops]
    exact hstack
  · have hstays := popTest_stays (s := ackTop x rest (validFrame r.port s)) (x := { x with acked := true }) (rest := rest) rfl hraised
    have ho := (howner.trans (ownAcknowledge_accepted hstate hstack hacked)).trans (congrArg accept hstays)
    obtain ⟨hnext, hserved⟩ := command_notified (decode := payloadNone) (payload := []) (owner := owner) hfree hrole hr rfl ho rfl
    exact ⟨hnext.trans (by simp [validFrame, State.setPort]), hserved⟩
  · have ho := howner.trans (ownAcknowledge_accepted hstate hstack hacked)
    obtain ⟨hnext, hreplied⟩ := command_replied (decode := payloadNone) (payload := []) (owner := owner) hfree hrole hr rfl ho
    have hquiet' : NothingRaised (ackTop x rest (validFrame r.port s)) := hnothing
    exact ⟨hreplied, _, popTest_made (x := { x with acked := true }) hquiet' rfl rfl, hnext⟩

end Command

/-- The restores of a target that stands, as the state before them shows them (R176, R178). -/
theorem RestoresIssued.resumed {target : Target} {s v t : State} (h : RestoresIssued v t) (hrigs : v.rigs = s.rigs)
    (htables : v.tables = s.tables) (hnow : v.now = s.now) (hresume : v.resume = s.resume) (htarget : s.resume.target = some target) :
    (∀ k x, (k, x) ∈ t.resume.restoreSet ↔
      (s.rig k).boundPort ≠ none ∧ (s.rig k).state ≠ .fault ∧
      x = s.tables.resolve k (s.tables.patchChase (.cue target.cue) k).1 ∧ (s.rig k).settledAt x = false) ∧
    (∀ k p x, BoundPair p k s → (k, x) ∈ t.resume.restoreSet → (s.rig k).state = .ready → (s.rig k).pendingChange = none →
      t.rig k = (s.rig k).sent x .restore (!(s.rigPort p).bit) s.now) := by
  have hrig : ∀ k, v.rig k = s.rig k := fun k => by rw [State.rig, hrigs]; rfl
  have hport : ∀ p, v.rigPort p = s.rigPort p := fun p => by rw [State.rigPort, hrigs]; rfl
  have hpatch : ∀ k, restorePatch v k = s.tables.resolve k (s.tables.patchChase (.cue target.cue) k).1 := fun k => by
    rw [restorePatch, targetChase, hresume, htarget, htables]
  refine ⟨fun k x => ?_, fun k p x hpair hmem hready hnone => ?_⟩
  · rw [h.mem, RestoreDue, hrig, hpatch]
    refine ⟨?_, ?_⟩
    · rintro ⟨⟨hbound, hfault, hsettled⟩, rfl⟩
      exact ⟨hbound, hfault, rfl, hsettled⟩
    · rintro ⟨hbound, hfault, rfl, hsettled⟩
      exact ⟨⟨hbound, hfault, hsettled⟩, rfl⟩
  · obtain ⟨hdue, rfl⟩ := (h.mem k x).mp hmem
    have hpair' : BoundPair p k v :=
      { slot := by rw [hport]; exact hpair.slot, port := by rw [hrig]; exact hpair.port
        ports := fun q hq => by rw [hport]; exact hpair.ports q hq, slots := fun j hj => by rw [hrig]; exact hpair.slots j hj }
    rw [h.sent k p hpair' hdue (by rw [hrig]; exact hready) (by rw [hrig]; exact hnone), hrig, hport, hnow]

/-- What an acknowledgement leads to in each case of the stack (R174 to R176). -/
theorem Acknowledged.outcome {r : Req} {s t : State} (h : Acknowledged r s t) :
    (s.stops.state ≠ .stopped ∨ s.stops.stack = [] → t = { s with desk := t.desk } ∧ Served r .noStop [] 0 s t) ∧
    (∀ x rest, s.stops.state = .stopped → s.stops.stack = x :: rest →
      (x.acked = true → t = { s with desk := t.desk } ∧ Served r .noStop [] 0 s t) ∧
      (x.acked = false → s.stops.isRaised x.source = true →
        t = { s with stops := { s.stops with stack := { x with acked := true } :: rest }, desk := t.desk } ∧
        Served r .ok [] 0x02 s t) ∧
      (x.acked = false → NothingRaised s →
        Replied r .ok [] t ∧
        (∀ y l, rest = y :: l → y.acked = false → t.stops.stack = rest ∧ t.stops.state = .stopped ∧
          t.beats = s.beats ∧ t.pointer = s.pointer ∧ t.rigs = s.rigs) ∧
        (rest = [] → s.resume.target = none → s.stops.runAdvisory = false →
          t.stops.stack = [] ∧ t.stops.state = .awaitResume ∧ t.picture = s.picture ∧ t.beats = s.beats ∧
          t.pointer = s.pointer) ∧
        (rest = [] → s.resume.target = none → s.stops.runAdvisory = true →
          (s.beats.click ≠ .idle ∨ s.pointer.armed = none) →
          t.stops.stack = [] ∧ t.stops.state = .clear ∧ (∀ m, (t.picture.monitor m).frozen = false) ∧
          t.beats = s.beats ∧ t.pointer = s.pointer) ∧
        (∀ c, rest = [] → s.resume.target = none → s.stops.runAdvisory = true → s.beats.click = .idle →
          s.pointer.armed = some c.number → s.tables.find c.number = some c →
          t.stops.stack = [] ∧ t.stops.state = .clear ∧ t.pointer.current = some c.number ∧ t.pointer.armed = none) ∧
        (∀ target, rest = [] → s.resume.target = some target →
          (∀ k x, (s.rig k).pendingChange = some x → x.kind ≠ .safe) →
          t.stops.stack = [] ∧ t.stops.state = .restoring ∧ t.beats = s.beats ∧ t.pointer = s.pointer ∧
          t.resume = { s.resume with restoreSet := t.resume.restoreSet } ∧
          (∀ k x, (k, x) ∈ t.resume.restoreSet ↔
            (s.rig k).boundPort ≠ none ∧ (s.rig k).state ≠ .fault ∧
            x = s.tables.resolve k (s.tables.patchChase (.cue target.cue) k).1 ∧ (s.rig k).settledAt x = false) ∧
          (∀ k p x, BoundPair p k s → (k, x) ∈ t.resume.restoreSet → (s.rig k).state = .ready →
            (s.rig k).pendingChange = none →
            t.rig k = (s.rig k).sent x .restore (!(s.rigPort p).bit) s.now)))) := by
  have hframe := onlyRigs_validFrame r.port s
  refine ⟨h.refused, fun x rest hstate hstack => ⟨h.again x rest hstack, h.raised x rest hstate hstack, fun hacked hnothing => ?_⟩⟩
  obtain ⟨hreplied, w, hmade, ht⟩ := h.popped x rest hstate hstack hacked hnothing
  have hbeats : (ackTop x rest (validFrame r.port s)).beats = s.beats := hframe.beats
  have hpointer : (ackTop x rest (validFrame r.port s)).pointer = s.pointer := hframe.pointer
  have hpicture : (ackTop x rest (validFrame r.port s)).picture = s.picture := by simp [ackTop]
  have hrigs : (ackTop x rest (validFrame r.port s)).rigs = s.rigs := by simp [ackTop]
  have hresume : (ackTop x rest (validFrame r.port s)).resume = s.resume := hframe.resume
  have hempty : rest = [] → rest.dropWhile (·.acked) = [] := fun hnil => by rw [hnil]; rfl
  have hstack' : rest = [] → w.stops.stack = [] := fun hnil => hmade.stack.trans (hempty hnil)
  rw [ht]
  rw [ht] at hreplied
  refine ⟨hreplied, fun y l hrest hy => ?_, fun hnil htarget ha => ?_, fun hnil htarget ha hno => ?_,
    fun c hnil htarget ha hidle harmed hfind => ?_, fun target hnil htarget hsafe => ?_⟩
  · have hdrop : rest.dropWhile (·.acked) = rest := by rw [hrest, List.dropWhile_cons, hy]; rfl
    obtain ⟨h1, h2, h3, h4⟩ := hmade.left (by rw [hdrop, hrest]; exact List.cons_ne_nil _ _)
    exact ⟨hmade.stack.trans hdrop, h1.trans hstate, h2.trans hbeats, h3.trans hpointer, h4.trans hrigs⟩
  · obtain ⟨h1, h2, h3, h4⟩ := hmade.awaits (hempty hnil) htarget ha
    exact ⟨hstack' hnil, h1, h2.trans hpicture, h3.trans hbeats, h4.trans hpointer⟩
  · obtain ⟨h1, h2, h3, h4⟩ := hmade.clears (hempty hnil) htarget ha hno
    exact ⟨hstack' hnil, h1, h2, h3.trans hbeats, h4.trans hpointer⟩
  · exact ⟨hstack' hnil, hmade.takes c (hempty hnil) htarget ha hidle harmed hfind⟩
  · have hresumed := hmade.resumes (hempty hnil) (by rw [hresume, htarget]; exact Option.some_ne_none _)
    have hissued := issueRestores_issued (s := poppedTo [] (ackTop x rest (validFrame r.port s))) fun k y => by
      show ((validFrame r.port s).rig k).pendingChange = some y → _
      rw [rig_validFrame]
      exact hsafe k y
    rw [← hresumed] at hissued
    have hparts := hissued.parts
    obtain ⟨hmem, hsent⟩ := hissued.resumed (s := s) (target := target) hrigs hframe.tables hframe.now hframe.resume htarget
    refine ⟨hstack' hnil, (congrArg (fun t : State => t.stops.state) hparts :), (congrArg State.beats hparts :).trans hbeats,
      (congrArg State.pointer hparts :).trans hpointer, ?_, hmem, hsent⟩
    have hpoppedResume : (poppedTo [] (ackTop x rest (validFrame r.port s))).resume = s.resume := hresume
    refine (congrArg State.resume hparts :).trans ?_
    rw [hpoppedResume]

/-- Settles O47: ACK and ACK OVERRIDE, and what the pops that follow them leave. -/
theorem stopsAcknowledged : Obligations.StopsAcknowledged := by
  intro r override s hfree hmd hsm
  have hholder : (holderOf .md (validFrame r.port s)).isSome = true ↔ ∃ p, (s.port p).role = some .md := by
    rw [holderOf_isSome_iff]
    simp only [validFrame_role]
  cases override with
  | false =>
    refine ⟨_, rfl, fun h => (by cases h), fun _ => Acknowledged.outcome ?_⟩
    exact acknowledged (roles := [.md]) (role := .md) (owner := fun _ => ownAcknowledge) hfree (hmd rfl) rfl rfl
  | true =>
    refine ⟨_, rfl, fun _ hheld => ?_, fun hnone => Acknowledged.outcome ?_⟩
    · exact command_quiet (roles := [.sm]) (decode := payloadNone) (payload := []) (owner := fun _ => ownAckOverride) hfree (hsm rfl) rfl rfl
        (if_pos (hholder.mpr hheld))
    · refine acknowledged (roles := [.sm]) (role := .sm) (owner := fun _ => ownAckOverride) hfree (hsm rfl) rfl ?_
      refine if_neg fun h => ?_
      obtain ⟨p, hp⟩ := hholder.mp h
      exact hnone rfl p hp

end Sys2Proof.Machine
end

section
/-!
PROOFS. The relay (R155): what a sampling and a pop test leave of the relay's state, and the outcomes of its changes.
-/

namespace Sys2Proof.Machine
set_option Elab.async false

/-! ## The relay's own state

The relay state and the run of its input are written by the relay's events alone (R155). -/

/-- The relay state, and the run of samples at the other level. -/
def State.relay (s : State) : Bool × Option Nat := (s.stops.relayAsserted, s.stops.relayRun)

@[simp] theorem relay_setRaised (i : StopSource) (b : Bool) (s : State) : (setRaised i b s).relay = s.relay := by
  simp [State.relay]

@[simp] theorem relay_setHoldOff (n : Nat) (s : State) : (setHoldOff n s).relay = s.relay := by simp [State.relay]

@[simp] theorem relay_setStopState (x : StopState) (s : State) : (setStopState x s).relay = s.relay := by simp [State.relay]

@[simp] theorem relay_cutClick (s : State) : (cutClick s).relay = s.relay := by
  rw [State.relay, cutClick_stops, cutBeats_stops]
  split <;> rfl

@[simp] theorem relay_handSafes (s : State) : (handSafes s).relay = s.relay := by simp [State.relay]

@[simp] theorem relay_setFrozen (b : Bool) (s : State) : (setFrozen b s).relay = s.relay := by simp [State.relay]

@[simp] theorem relay_finishClick (s : State) : (finishClick s).relay = s.relay := by simp [State.relay]

@[simp] theorem relay_handProfile (x y : Profile) (s : State) : (handProfile x y s).relay = s.relay := by
  unfold handProfile
  split <;> split <;> split <;> simp <;> split <;> simp

theorem relay_pushed (i : StopSource) (s : State) : (pushed i s).relay = s.relay := by
  unfold pushed
  dsimp only
  rw [relay_setStopState, relay_setHoldOff]
  split
  · rw [relay_setRaised]
    simp [State.relay, Stops.push]
  · simp [State.relay, Stops.push]

@[simp] theorem relay_takeStop (i : StopSource) (s : State) : (takeStop i s).relay = s.relay := by
  rw [takeStop_eq, relay_handProfile, relay_pushed]

@[simp] theorem relay_sampleOnce (c : Bool) (s : State) : (sampleOnce c s).relay = s.relay := by
  unfold sampleOnce
  split
  · split
    · exact relay_takeStop _ s
    · rfl
  · rfl

@[simp] theorem relay_sample (c : Bool) (s : State) : (sample c s).relay = s.relay := by
  unfold sample
  dsimp only
  split <;> simp

@[simp] theorem relay_halt (i : StopSource) (s : State) : (halt i s).relay = s.relay := by
  have hrest : ∀ u : State, (setFrozen true (handSafes u)).relay = u.relay := fun u => by simp [State.relay]
  unfold halt lowerCommands
  dsimp only
  rw [relay_setStopState, hrest, relay_cutClick, relay_setHoldOff, relay_setRaised, relay_setRaised, relay_setRaised]
  rfl

theorem relay_raiseCondition (i : StopSource) (s : State) : (raiseCondition i s).relay = s.relay := by
  unfold raiseCondition afterRaising
  split
  · rfl
  · split
    · exact relay_setRaised ..
    · split <;> simp

theorem relay_announceBeat (c : Bool) (b : Beat) (s : State) : (announceBeat c b s).relay = s.relay := by
  have hcount : (if (announceOutputs b s).stops.holdOff = 0 then announceOutputs b s
      else setHoldOff ((announceOutputs b s).stops.holdOff - 1) (announceOutputs b s)).relay = s.relay := by
    split <;> simp [State.relay]
  have hvisits : ∀ u : State, (forceVisits u).relay = u.relay := fun u => by simp [State.relay]
  unfold announceBeat
  dsimp only
  cases c
  · split
    · exact (hvisits _).trans hcount
    · exact hcount
  · split
    · exact (hvisits _).trans ((relay_sample true _).trans hcount)
    · exact (relay_sample true _).trans hcount

theorem relay_takeClick (a : ClickAction) (s : State) : (takeClick a s).relay = s.relay := by
  have hcommit : ∀ u, (commitBeat true u).relay = u.relay := fun u => by
    cases ho : u.beats.nextOnset with
    | none => rw [commitBeat_of_none ho]
    | some o =>
      rw [commitBeat_of_onset ho, relay_announceBeat]
      simp [State.relay]
  cases a with
  | keep => rfl
  | start n =>
    by_cases hidle : s.beats.click = .idle
    · rw [takeClick_start_idle hidle, startClick_of_idle hidle, hcommit]
      simp [State.relay]
    · exact (congrArg State.relay (takeClick_start_running hidle) :)
  | stop => exact relay_finishClick s
  | cut =>
    show (cueCut s).relay = _
    unfold cueCut
    dsimp only
    split
    · exact relay_cutClick s
    · exact (relay_sample false _).trans (relay_cutClick s)

theorem relay_takeArmedIfIdle (s : State) : (takeArmedIfIdle s).relay = s.relay := by
  have hcue : ∀ c, (takeCue c s).relay = s.relay := fun c =>
    (congrArg State.relay (takeCue_parts (c := c) (s := s) rfl rfl) :).trans
      ((relay_takeClick c.click (calledCue c s)).trans (congrArg State.relay (calledCue_parts c s) :))
  unfold takeArmedIfIdle
  split
  · split
    · exact hcue _
    · rfl
  · rfl

theorem relay_lowerCondition (i : StopSource) (s : State) : (lowerCondition i s).relay = s.relay := by
  have hpops : ∀ u, (afterPops u).relay = u.relay := fun u => by
    unfold afterPops
    dsimp only
    split
    · obtain ⟨x, -, hstops⟩ := endRun_stops (notify .stop { u with
        stops := { u.stops with stack := popped u.stops u.stops.stack, topTicked := false, topReported := false } })
      rw [State.relay, hstops]
      rfl
    · rfl
  unfold lowerCondition
  split
  · rw [popTest_eq]
    split
    · exact relay_setRaised ..
    · split
      · rw [relay_takeArmedIfIdle, relay_sample, hpops, relay_setRaised]
      · rw [relay_sample, hpops, relay_setRaised]
  · rfl

theorem relay_followCondition (i : StopSource) (b : Bool) (s : State) : (followCondition i b s).relay = s.relay := by
  cases b
  · exact relay_lowerCondition i s
  · exact relay_raiseCondition i s

/-! ## The outcomes of a change (R155, R159, R175) -/

/-- The state in which the relay's own record has changed (R155). -/
def relayMoved (s : State) : State :=
  { s with stops := { s.stops with relayAsserted := !s.stops.relayAsserted, relayRun := none } }

theorem changeRelay_eq (s : State) : changeRelay s = followCondition .relay (!s.stops.relayAsserted) (relayMoved s) := rfl

theorem isRaised_changeRelay (s : State) : (changeRelay s).stops.isRaised .relay = !s.stops.relayAsserted := by
  rw [changeRelay_eq]
  cases s.stops.relayAsserted
  · exact isRaised_raiseCondition rfl _
  · exact isRaised_lowerCondition rfl _

/-- The source that a sampling takes, where it alone is raised and eligible (R159). -/
theorem chosen_of_single {c : Bool} {i : StopSource} {s : State} (hraised : ∀ j, s.stops.isRaised j = decide (j = i))
    (heligible : eligible c s i = true) : chosen c s = some i := by
  have hfilter : allSources.filter (eligible c s) = [i] := by
    have honly : ∀ j, eligible c s j = decide (j = i) := fun j => by
      by_cases hj : j = i
      · rw [hj, heligible]
        simp
      · unfold eligible
        rw [hraised, decide_eq_false hj]
        rfl
    rw [funext honly]
    cases i <;> decide
  rw [chosen, hfilter]
  rfl

end Sys2Proof.Machine
end

section
/-!
PROOFS. The take of a stop source that alone is raised (R158 to R165), and the changes of the relay (R155).
-/

namespace Sys2Proof.Machine
set_option Elab.async false

/-! ## The take of a source -/

/-- The stops that a push leaves (R160, R161): the record on top, the hold-off count 0, a command source lowered. -/
def Stops.taken (i : StopSource) (x : Stops) : Stops :=
  { x.push i with
    state := .stopping, holdOff := 0, raised := if i.isCommand then tput x.raised i.index false else x.raised }

theorem pushed_stops_eq (i : StopSource) (s : State) : (pushed i s).stops = s.stops.taken i := by
  unfold pushed
  dsimp only
  split
  · next h => simp [Stops.taken, Stops.push, h]
  · next h => simp [Stops.taken, Stops.push, h]

/-- The handing of a profile leaves the stops of a taken source (R163 to R165). -/
theorem handProfile_stops {x y : Profile} {s : State} (h : s.stops.holdOff = 0) : (handProfile x y s).stops = s.stops := by
  have hcut : (cutBeats s).stops = s.stops := by
    rw [cutBeats_stops]
    split
    · rfl
    · rw [← h]
  unfold handProfile
  split <;> split <;> split <;> simp <;> split <;> simp [hcut]

theorem takeStop_stops (i : StopSource) (s : State) : (takeStop i s).stops = s.stops.taken i := by
  rw [takeStop_eq, handProfile_stops (by rw [pushed_stops_eq]; rfl), pushed_stops_eq]

theorem isRaised_taken (i j : StopSource) (x : Stops) :
    (x.taken i).isRaised j = if i.isCommand ∧ i = j then false else x.isRaised j := by
  have hindex : i.index = j.index ↔ i = j := by cases i <;> cases j <;> simp [StopSource.index]
  show tget (if i.isCommand then tput x.raised i.index false else x.raised) j.index = _
  by_cases hi : i.isCommand = true
  · rw [if_pos hi, tget_tput]
    simp only [hindex, hi, true_and]
    rfl
  · rw [if_neg hi, if_neg fun h => hi h.1]
    rfl

/-- A sampling takes the one source that is raised and eligible, and makes no second take (R158, R159). -/
theorem sample_takes {c : Bool} {i : StopSource} {s : State} (hshow : s.inShow = true) (hstate : s.stops.state ≠ .halted)
    (hraised : ∀ j, s.stops.isRaised j = decide (j = i)) (heligible : eligible c s i = true) :
    sample c s = takeStop i s := by
  have honce : sampleOnce c s = takeStop i s := by
    unfold sampleOnce
    rw [hshow, Bool.true_and, if_pos (by rw [bne_iff_ne]; exact hstate), chosen_of_single hraised heligible]
  have hnone : chosen false (takeStop i s) = none := by
    cases hc : chosen false (takeStop i s) with
    | none => rfl
    | some j =>
      have hj := chosen_eligible hc
      have hstops := takeStop_stops i s
      have hlevel : (takeStop i s).stops.stopLevel = s.stops.level i := by rw [hstops]; rfl
      simp only [eligible, Bool.and_eq_true, decide_eq_true_eq] at hj
      obtain ⟨⟨⟨⟨hjraised, -⟩, hlt⟩, -⟩, -⟩ := hj
      have hji : j = i := by
        rw [hstops, isRaised_taken] at hjraised
        split at hjraised
        · cases hjraised
        · simpa [hraised] using hjraised
      rw [hlevel, hstops, hji] at hlt
      exact absurd hlt (Nat.lt_irrefl _)
  have htwice : sampleOnce false (takeStop i s) = takeStop i s := by
    unfold sampleOnce
    rw [hnone]
    exact ite_self _
  unfold sample
  dsimp only
  rw [honce, htwice, ite_self]

/-! ## Raisings (R154, R155, R159) -/

theorem onStack_false {i : StopSource} {x : Stops} (h : ∀ r ∈ x.stack, r.source ≠ i) : x.onStack i = false := by
  unfold Stops.onStack
  rw [List.any_eq_false]
  exact fun r hr => by simpa using h r hr

/-- A hard source of level 7 and above is eligible at every sampling once it is above the stop level (R159). -/
theorem eligible_hard {c : Bool} {i : StopSource} {s : State} (hraised : s.stops.isRaised i = true) (hhard : i.isHard = true)
    (hlevel : s.stops.stopLevel < s.stops.level i) (hhigh : 7 ≤ s.stops.level i) : eligible c s i = true := by
  unfold eligible
  simp only [hraised, hhard, Bool.and_eq_true, Bool.or_eq_true, decide_eq_true_eq]
  exact ⟨⟨⟨⟨trivial, by omega⟩, hlevel⟩, .inl (.inl trivial)⟩, .inl hhigh⟩

/-- No conflict is made by a source above the stop level (R169). -/
theorem isConflict_false {i : StopSource} {s : State} (hlevel : s.stops.stopLevel ≤ s.stops.level i) : isConflict i s = false := by
  unfold isConflict
  cases hs : s.stops.stack with
  | nil => simp
  | cons r l =>
    have hnot : ¬ s.stops.level i < r.level := by
      rw [Stops.stopLevel, hs] at hlevel
      exact Nat.not_lt.mpr hlevel
    simp [hnot]

/-- The state in which a source alone is raised. -/
theorem setRaised_single {i : StopSource} {s : State} (hquiet : NothingRaised s) (j : StopSource) :
    (setRaised i true s).stops.isRaised j = decide (j = i) := by
  rw [isRaised_setRaised]
  by_cases hj : j = i
  · simp [hj]
  · rw [if_neg (Ne.symm hj), decide_eq_false hj]
    exact hquiet j

/-- A raising in SHOW of a hard source above the stop level that finds nothing else raised is taken (R159). -/
theorem afterRaising_takes {i : StopSource} {s : State} (hshow : s.inShow = true) (hstate : s.stops.state ≠ .halted)
    (hquiet : NothingRaised s) (hfree : ∀ x ∈ s.stops.stack, x.source ≠ i) (hhard : i.isHard = true)
    (hlevel : s.stops.stopLevel < s.stops.level i) (hhigh : 7 ≤ s.stops.level i) :
    afterRaising i (setRaised i true s) = takeStop i (setRaised i true s) := by
  have hraised := setRaised_single (i := i) hquiet
  have hstops : (setRaised i true s).stops = { s.stops with raised := tput s.stops.raised i.index true } := setRaised_stops ..
  have hshow' : (setRaised i true s).inShow = true := by
    rw [State.inShow, show (setRaised i true s).tables = s.tables by simp]
    exact hshow
  generalize setRaised i true s = u at hraised hstops hshow'
  have hup : u.stops.stopLevel < u.stops.level i := by rw [hstops]; exact hlevel
  unfold afterRaising
  rw [hshow', onStack_false (by rw [hstops]; exact hfree), isConflict_false hup.le]
  exact sample_takes hshow' (by rw [hstops]; exact hstate) hraised
    (eligible_hard (by rw [hraised]; simp) hhard hup (by rw [hstops]; exact hhigh))

/-! ## The relay (R155) -/

theorem relayDue_iff (x : Stops) : x.relayDue = true ↔ ∃ n, x.relayRun = some n ∧ 480 ≤ n := by
  unfold Stops.relayDue
  cases x.relayRun with
  | none => simp
  | some n =>
    refine ⟨fun h => ⟨n, rfl, of_decide_eq_true h⟩, fun ⟨m, hm, hle⟩ => decide_eq_true ?_⟩
    obtain rfl := Option.some.inj hm
    exact hle

/-- A raising in SHOW that is no conflict and finds nothing else raised is taken (R159). -/
theorem relay_raised {s : State} (hshow : s.inShow = true) (hoff : s.stops.relayAsserted = false) (hquiet : NothingRaised s)
    (hstate : s.stops.state = .clear ∨ s.stops.state = .stopped) (hfree : ∀ x ∈ s.stops.stack, x.source ≠ .relay)
    (hlevel : s.stops.stopLevel < s.stops.level .relay) (hhigh : 7 ≤ s.stops.level .relay) :
    (changeRelay s).stops.state = .stopping ∧ (changeRelay s).stops.stack.head? = some ⟨.relay, s.stops.level .relay, false⟩ := by
  have hne : s.stops.state ≠ .halted := by
    rcases hstate with h | h <;> rw [h] <;> decide
  have hstops : (setRaised .relay true (relayMoved s)).stops =
      { (relayMoved s).stops with raised := tput s.stops.raised StopSource.relay.index true } := setRaised_stops ..
  have htakes : changeRelay s = takeStop .relay (setRaised .relay true (relayMoved s)) := by
    have hunraised : (relayMoved s).stops.isRaised .relay = false := hquiet .relay
    rw [changeRelay_eq, hoff]
    show raiseCondition .relay (relayMoved s) = _
    rw [raiseCondition, if_neg (by rw [hunraised]; decide)]
    exact afterRaising_takes (s := relayMoved s) hshow hne hquiet hfree rfl hlevel hhigh
  rw [htakes, takeStop_stops, hstops]
  exact ⟨rfl, rfl⟩

/-- A lowering is the pop test with the relay's flag clear (R175). -/
theorem relay_lowered {s : State} (hon : s.stops.relayAsserted = true) (hraised : s.stops.isRaised .relay = true) :
    changeRelay s = popTest (setRaised .relay false (relayMoved s)) := by
  have hraised' : (relayMoved s).stops.isRaised .relay = true := hraised
  rw [changeRelay_eq, hon]
  show lowerCondition .relay (relayMoved s) = _
  rw [lowerCondition, if_pos hraised']

theorem issueRestores_target (s : State) : (issueRestores s).resume.target = s.resume.target := by
  have hfold := restoresHanded_fold allSlots allSlots_nodup
    (setStopState .restoring { s with resume := { s.resume with restoreSet := [] } })
  have hstart : (setStopState .restoring { s with resume := { s.resume with restoreSet := [] } }).resume.target = s.resume.target := by
    simp
  unfold issueRestores
  dsimp only
  generalize setStopState .restoring { s with resume := { s.resume with restoreSet := [] } } = u at hfold hstart
  exact (congrArg (fun t : State => t.resume.target) hfold.parts :).trans hstart

/-- In SETUP the change moves the relay's record and flag alone (R155, R158). -/
theorem relay_setup {s : State} (hsetup : s.inShow = false) (hstack : s.stops.stack = []) :
    changeRelay s = { s with
      stops := { s.stops with
        relayAsserted := !s.stops.relayAsserted, relayRun := none,
        raised := tput s.stops.raised StopSource.relay.index (!s.stops.relayAsserted) },
      desk := (changeRelay s).desk } := by
  have hparts : setRaised .relay (!s.stops.relayAsserted) (relayMoved s) = { relayMoved s with
      stops := { (relayMoved s).stops with raised := tput s.stops.raised StopSource.relay.index (!s.stops.relayAsserted) }
      desk := (setRaised .relay (!s.stops.relayAsserted) (relayMoved s)).desk } := by
    apply state_ext <;> simp [relayMoved]
  rw [changeRelay_eq, followCondition_setup (s := relayMoved s) hsetup (.inr hstack)]
  exact hparts

/-- Settles O45: the raising of RELAY, and its lowering in STOPPED. -/
theorem relayChanges : Obligations.RelayChanges := by
  intro s
  refine ⟨fun h => ?_, fun n hn hle => ?_⟩
  · refine congrArg Host.Outcome.next (if_neg fun hdue => ?_)
    obtain ⟨m, hm, hle⟩ := (relayDue_iff s.stops).mp hdue
    rcases h with h | ⟨n, hn, hlt⟩
    · rw [h] at hm
      cases hm
    · obtain rfl := Option.some.inj (hn.symm.trans hm)
      omega
  · have hrelay : (changeRelay s).relay = (!s.stops.relayAsserted, none) := by
      rw [changeRelay_eq, relay_followCondition]
      rfl
    refine ⟨changeRelay s, congrArg Host.Outcome.next (if_pos ((relayDue_iff s.stops).mpr ⟨n, hn, hle⟩)),
      congrArg Prod.fst hrelay, congrArg Prod.snd hrelay, isRaised_changeRelay s, fun hsetup hstack => relay_setup hsetup hstack,
      fun hshow hoff hquiet hstate hfree hlevel hhigh => relay_raised hshow hoff hquiet hstate hfree hlevel hhigh,
      fun x rest hon honly hstopped hstack hx hacked => ?_⟩
    have hraised : s.stops.isRaised .relay = true := by rw [honly]; simp
    have hlowered := relay_lowered hon hraised
    have hquiet : NothingRaised (setRaised .relay false (relayMoved s)) := fun j => by
      rw [isRaised_setRaised]
      split
      · rfl
      · next hj => exact (honly j).trans (decide_eq_false (Ne.symm hj))
    have hkeeps : (setRaised .relay false (relayMoved s)).stops.stack = s.stops.stack ∧
        (setRaised .relay false (relayMoved s)).stops.state = s.stops.state ∧
        (setRaised .relay false (relayMoved s)).stops.runAdvisory = s.stops.runAdvisory ∧
        (setRaised .relay false (relayMoved s)).beats = s.beats ∧ (setRaised .relay false (relayMoved s)).pointer = s.pointer ∧
        (setRaised .relay false (relayMoved s)).rigs = s.rigs ∧ (setRaised .relay false (relayMoved s)).picture = s.picture ∧
        (setRaised .relay false (relayMoved s)).resume = s.resume ∧ (setRaised .relay false (relayMoved s)).tables = s.tables := by
      simp [relayMoved]
    have hpending : ∀ q, KindPending .stop q (s.port q).mask (setRaised .relay false (relayMoved s)) := fun q => by
      have hchanged : ((relayMoved s).stops.isRaised .relay != false) = true := by
        rw [show (relayMoved s).stops.isRaised .relay = true from hraised]
        rfl
      rw [setRaised, hchanged]
      exact kindPending_notify .stop q _
    rw [hlowered]
    generalize setRaised .relay false (relayMoved s) = u at hquiet hkeeps hpending
    obtain ⟨h1, h2, h3, h4, h5, h6, h7, h8, h9⟩ := hkeeps
    have hmade := popTest_made hquiet (h1.trans hstack) hacked
    refine ⟨hmade.stack, fun q hmask => ((kindPending_untimed .stop q _).of_popTest (hpending q)).2 hmask, fun hne => ?_, fun hnil =>
      ⟨fun htarget => ?_, fun htarget ha => ?_, fun htarget ha hno => ?_, fun c htarget ha hidle harmed hfind => ?_⟩⟩
    · rw [← h4, ← h5, ← h6, ← hstopped, ← h2]
      exact hmade.left hne
    · rw [hmade.resumes hnil (by rw [h8]; exact htarget), issueRestores_target, ← h4, ← h5, ← h8]
      exact ⟨by rw [issueRestores_stops], rfl, by simp [poppedTo], by simp [poppedTo]⟩
    · rw [← h4, ← h5, ← h7]
      exact hmade.awaits hnil (by rw [h8]; exact htarget) (by rw [h3]; exact ha)
    · rw [← h4, ← h5]
      exact hmade.clears hnil (by rw [h8]; exact htarget) (by rw [h3]; exact ha) (by rw [h4, h5]; exact hno)
    · exact hmade.takes c hnil (by rw [h8]; exact htarget) (by rw [h3]; exact ha) (by rw [h4]; exact hidle) (by rw [h5]; exact harmed)
        (by rw [h9]; exact hfind)

end Sys2Proof.Machine
end

section
/-!
PROOFS. STOP and its conflict (R154, R169, R170), and the taking of a soft source at a commit (R158, R166).
-/

namespace Sys2Proof.Machine
set_option Elab.async false

/-! ## What a take hands (R162 to R165) -/

theorem pushed_parts (i : StopSource) (s : State) :
    (pushed i s).beats = s.beats ∧ (pushed i s).clicks = s.clicks ∧ (pushed i s).pointer = s.pointer ∧
    (pushed i s).rigs = s.rigs ∧ (pushed i s).picture = s.picture ∧ (pushed i s).overlay = s.overlay ∧
    (pushed i s).tables = s.tables ∧ (pushed i s).time = s.time := by
  have hrigs := fun u => setStopState_rigs (x := .stopping) rfl u
  unfold pushed
  dsimp only
  split <;> simp [hrigs]

/-- The effective profile of a source that is taken on an empty stack (R162). -/
theorem taken_effective {i : StopSource} {x : Stops} (h : x.stack = []) :
    x.effective = Profile.none ∧ (x.taken i).effective = (x.profile i).strongest Profile.none := by
  have hstack : (x.taken i).stack = [⟨i, x.level i, false⟩] := by
    show _ :: (if Config.stackCapacity ≤ x.stack.length then x.stack.dropLast else x.stack) = _
    rw [h]
    rfl
  refine ⟨by rw [Stops.effective, h]; rfl, ?_⟩
  rw [Stops.effective, hstack]
  rfl

theorem takeStop_eq_handed {i : StopSource} {s : State} (h : s.stops.stack = []) :
    takeStop i s = handProfile Profile.none ((s.stops.profile i).strongest Profile.none) (pushed i s) := by
  obtain ⟨hbefore, hafter⟩ := taken_effective (i := i) h
  rw [takeStop_eq, pushed_stops_eq, hbefore, hafter]

/-- What a click profile does to the beats, the lanes and the flashes (R163). -/
def handClick (p : ClickProfile) (s : State) : State :=
  match p with
  | .cut => cutClick s
  | .bar => finishClick s
  | .continued => s

/-- The click component of a profile is handed where it has risen (R163). -/
def handRisen (before after : ClickProfile) (s : State) : State :=
  if before.rank < after.rank then handClick after s else s

theorem handProfile_eq (x y : Profile) (s : State) :
    handProfile x y s =
      if x.video.rank < y.video.rank ∧ y.video = .freeze then
        setFrozen true (if x.rigs.rank < y.rigs.rank then handSafes (handRisen x.click y.click s) else handRisen x.click y.click s)
      else if x.rigs.rank < y.rigs.rank then handSafes (handRisen x.click y.click s) else handRisen x.click y.click s := by
  unfold handProfile handRisen handClick
  rfl

theorem handRisen_none (p : ClickProfile) (s : State) :
    handRisen Profile.none.click (p.strongest Profile.none.click) s = handClick p s := by
  cases p <;> rfl

/-- The other components of a profile leave what its click component makes of the click. -/
theorem handProfile_none_parts (p : Profile) (s : State) :
    (handProfile Profile.none (p.strongest Profile.none) s).beats = (handClick p.click s).beats ∧
    (handProfile Profile.none (p.strongest Profile.none) s).clicks = (handClick p.click s).clicks ∧
    (handProfile Profile.none (p.strongest Profile.none) s).overlay = (handClick p.click s).overlay ∧
    (handProfile Profile.none (p.strongest Profile.none) s).pointer = (handClick p.click s).pointer := by
  have hclick : handRisen Profile.none.click (p.strongest Profile.none).click s = handClick p.click s := handRisen_none p.click s
  rw [handProfile_eq, hclick]
  generalize handClick p.click s = u
  split <;> split <;> simp

theorem frozen (b : Bool) (s : State) (m : Fin 6) : ((setFrozen b s).picture.monitor m).frozen = b := by
  have hpicture : (setFrozen b s).picture = s.picture.freezeAll b := by simp [setFrozen]
  rw [hpicture]
  simp [Picture.freezeAll, Picture.monitor]

/-- The safe patches that are handed (R164). -/
theorem handSafes_sent {k : Slot} {p : RigPort} {s : State} (hpair : BoundPair p k s) (hready : (s.rig k).state = .ready)
    (hnone : (s.rig k).pendingChange = none) :
    (handSafes s).rig k = (s.rig k).sent (s.tables.setting k).safe .safe (!(s.rigPort p).bit) s.now :=
  forBound_sent (x := safeFor) (fun j u hu => by rw [safeFor, safeFor, hu.tables]) (safeFor_kind k s) hpair.port hpair.slots hready hnone

/-- A taken source of profile CUT / SAFE / FREEZE on an empty stack (R162 to R165). -/
theorem takeStop_cut_safe_freeze {i : StopSource} {s : State} (h : s.stops.stack = [])
    (hprofile : s.stops.profile i = ⟨.cut, .safe, .freeze⟩) :
    takeStop i s = setFrozen true (handSafes (cutClick (pushed i s))) := by
  have hclick : handRisen Profile.none.click (Profile.strongest ⟨.cut, .safe, .freeze⟩ Profile.none).click (pushed i s) =
      cutClick (pushed i s) := handRisen_none .cut _
  rw [takeStop_eq_handed h, hprofile, handProfile_eq, hclick, if_pos ⟨by decide, rfl⟩, if_pos (by decide)]

/-! ## STOP (R154) -/

theorem ownStopFrom_eq {port : DeskPort} {role : Role} {i : StopSource} {s : State} (hrole : (s.port port).role = some role)
    (hi : (role = .sm ∧ i = .smStop) ∨ (role = .md ∧ i = .mdStop) ∨ (role = .foh ∧ i = .fohStop)) :
    ownStopFrom port s = ownStop i s := by
  unfold ownStopFrom
  rw [hrole]
  rcases hi with ⟨rfl, rfl⟩ | ⟨rfl, rfl⟩ | ⟨rfl, rfl⟩ <;> rfl

/-- A soft source that alone is raised waits while the click runs (R158, R159). -/
theorem afterRaising_waits {i : StopSource} {s : State} (hquiet : NothingRaised s) (hfree : ∀ x ∈ s.stops.stack, x.source ≠ i)
    (hsoft : i.isHard = false) (hruns : s.beats.click ≠ .idle) : afterRaising i (setRaised i true s) = setRaised i true s := by
  have hraised := setRaised_single (i := i) hquiet
  have hstack : (setRaised i true s).stops.onStack i = false := onStack_false (by rw [setRaised_stops]; exact hfree)
  have hclick : (setRaised i true s).beats.click ≠ .idle := by
    rw [show (setRaised i true s).beats = s.beats by simp]
    exact hruns
  generalize setRaised i true s = u at hraised hstack hclick
  have hchosen : chosen false u = none := by
    cases hc : chosen false u with
    | none => rfl
    | some j =>
      have hj := chosen_eligible hc
      simp only [eligible, Bool.and_eq_true, Bool.or_eq_true] at hj
      obtain ⟨⟨⟨⟨hjraised, -⟩, -⟩, hmay⟩, -⟩ := hj
      have hji : j = i := by simpa [hraised] using hjraised
      rw [hji, hsoft] at hmay
      simp [hclick] at hmay
  have hconflict : isConflict i u = false := by simp [isConflict, hsoft]
  have honce : sampleOnce false u = u := by
    unfold sampleOnce
    rw [hchosen]
    exact ite_self _
  unfold afterRaising
  rw [hstack, hconflict]
  have hsample : sample false u = u := by
    unfold sample
    dsimp only
    rw [honce, honce, ite_self]
  rw [hsample]
  exact ite_self _

/-- What a hard source's STOP leaves where it is taken (R159 to R165). -/
structure StopTaken (i : StopSource) (s t : State) : Prop where
  stops : t.stops = ({ s.stops with raised := tput s.stops.raised i.index true } : Stops).taken i
  cut : s.stops.stack = [] → s.stops.profile i = ⟨.cut, .safe, .freeze⟩ →
    t.beats.click = .idle ∧ (s.beats.click ≠ .idle → t.beats.current = none ∧ t.beats.next = none) ∧ t.pointer.armed = none ∧
    t.clicks.Silent ∧ (∀ m, (t.picture.monitor m).frozen = true) ∧
    (∀ k p, BoundPair p k s → (s.rig k).state = .ready → (s.rig k).pendingChange = none →
      t.rig k = (s.rig k).sent (s.tables.setting k).safe .safe (!(s.rigPort p).bit) s.now)

/-- What a CUT leaves of the click, and of the parts that it does not concern. -/
theorem cutClick_ends (s : State) :
    (cutClick s).beats.click = .idle ∧ (s.beats.click ≠ .idle → (cutClick s).beats.current = none ∧ (cutClick s).beats.next = none) ∧
    (cutClick s).pointer.armed = none ∧ (cutClick s).clicks.Silent := by
  rw [cutClick_beats, cutClick_pointer]
  refine ⟨cutBeats_click s, fun h => ?_, rfl, cutClick_clicks s⟩
  rw [cutBeats_beats, if_neg h]
  exact ⟨rfl, rfl⟩

theorem takeStop_taken {i : StopSource} (s : State) : StopTaken i s (takeStop i (setRaised i true s)) := by
  have hstops : (setRaised i true s).stops = { s.stops with raised := tput s.stops.raised i.index true } := setRaised_stops ..
  have hkeeps : (setRaised i true s).beats = s.beats ∧ (setRaised i true s).rigs = s.rigs ∧ (setRaised i true s).tables = s.tables ∧
      (setRaised i true s).time = s.time := by simp
  generalize setRaised i true s = u at hstops hkeeps
  obtain ⟨hbeats, hrigs, htables, htime⟩ := hkeeps
  refine { stops := by rw [takeStop_stops, hstops], cut := fun hstack hprofile => ?_ }
  rw [takeStop_cut_safe_freeze (by rw [hstops]; exact hstack) (by rw [hstops]; exact hprofile)]
  obtain ⟨pbeats, pclicks, ppointer, prigs, ppicture, poverlay, ptables, ptime⟩ := pushed_parts i u
  generalize pushed i u = p at pbeats pclicks ppointer prigs ppicture poverlay ptables ptime
  have hkept : (setFrozen true (handSafes (cutClick p))).beats = (cutClick p).beats ∧
      (setFrozen true (handSafes (cutClick p))).pointer = (cutClick p).pointer ∧
      (setFrozen true (handSafes (cutClick p))).clicks = (cutClick p).clicks ∧
      (setFrozen true (handSafes (cutClick p))).rigs = (handSafes (cutClick p)).rigs := by simp
  obtain ⟨hclick, hrest, harmed, hsilent⟩ := cutClick_ends p
  have hcutKeeps : (cutClick p).rigs = p.rigs ∧ (cutClick p).tables = p.tables ∧ (cutClick p).time = p.time := by simp
  rw [hkept.1, hkept.2.1, hkept.2.2.1]
  refine ⟨hclick, fun h => hrest (by rw [pbeats, hbeats]; exact h), harmed, hsilent, frozen true _, fun k q hpair hready hnone => ?_⟩
  generalize cutClick p = v at hkept hcutKeeps
  have hvrigs : v.rigs = s.rigs := hcutKeeps.1.trans (prigs.trans hrigs)
  have hvtables : v.tables = s.tables := hcutKeeps.2.1.trans (ptables.trans htables)
  have hvtime : v.time = s.time := hcutKeeps.2.2.trans (ptime.trans htime)
  have hrig : ∀ j, v.rig j = s.rig j := fun j => by rw [State.rig, hvrigs]; rfl
  have hport : ∀ j, v.rigPort j = s.rigPort j := fun j => by rw [State.rigPort, hvrigs]; rfl
  have hnow : v.now = s.now := by rw [State.now, hvtime]; rfl
  have hpair' : BoundPair q k v :=
    { slot := by rw [hport]; exact hpair.slot, port := by rw [hrig]; exact hpair.port
      ports := fun j hj => by rw [hport]; exact hpair.ports j hj, slots := fun j hj => by rw [hrig]; exact hpair.slots j hj }
  have hsent := handSafes_sent hpair' (by rw [hrig]; exact hready) (by rw [hrig]; exact hnone)
  rw [hrig, hport, hnow, hvtables] at hsent
  exact (congrArg (fun x : Rigs => tget x.slots k) hkept.2.2.2 :).trans hsent

theorem ownStop_raises {i : StopSource} {s : State} (hshow : s.inShow = true) (hstate : s.stops.state ≠ .halted)
    (hfree : ∀ x ∈ s.stops.stack, x.source ≠ i) (hlow : s.stops.isRaised i = false) :
    ownStop i s = accept (afterRaising i (setRaised i true s)) := by
  unfold ownStop
  rw [hshow, if_neg (by decide), if_neg hstate, if_neg]
  rw [onStack_false hfree, hlow]
  decide

theorem onStack_iff (i : StopSource) (x : Stops) : x.onStack i = true ↔ ∃ r ∈ x.stack, r.source = i := by
  simp [Stops.onStack]

/-- A STOP, in the order of its tests (R154, R158, R159). -/
theorem stop_answered {r : Req} {role : Role} {i : StopSource} {s : State} (hfree : Free r s) (hrole : FromRole role r s)
    (hi : (role = .sm ∧ i = .smStop) ∨ (role = .md ∧ i = .mdStop) ∨ (role = .foh ∧ i = .fohStop)) :
    ∃ t, exec (.stop r []) s = .next t ∧
      (s.inShow = false → t = { s with desk := t.desk } ∧ Served r .setup [] 0 s t) ∧
      (s.inShow = true → s.stops.state = .halted → t = { s with desk := t.desk } ∧ Served r .stopped [] 0 s t) ∧
      (s.inShow = true → s.stops.state ≠ .halted → ((∃ x ∈ s.stops.stack, x.source = i) ∨ s.stops.isRaised i = true) →
        t = { s with desk := t.desk } ∧ Served r .ok [] 0 s t) ∧
      (s.inShow = true → s.stops.state ≠ .halted → (∀ x ∈ s.stops.stack, x.source ≠ i) → NothingRaised s →
        (i = .fohStop → s.beats.click ≠ .idle →
          t = { s with stops := { s.stops with raised := tput s.stops.raised i.index true }, desk := t.desk } ∧
          Served r .ok [] 0x02 s t) ∧
        (i ≠ .fohStop → s.stops.stopLevel < s.stops.level i → 7 ≤ s.stops.level i →
          Replied r .ok [] t ∧ t.stops.state = .stopping ∧ t.stops.holdOff = 0 ∧ NothingRaised t ∧
          t.stops.stack = ⟨i, s.stops.level i, false⟩ ::
            (if 4 ≤ s.stops.stack.length then s.stops.stack.dropLast else s.stops.stack) ∧
          t.stops.displaced = (if 4 ≤ s.stops.stack.length then countUp s.stops.displaced else s.stops.displaced) ∧
          (s.stops.stack = [] → s.stops.state = .clear → s.stops.profile i = ⟨.cut, .safe, .freeze⟩ →
            t.beats.click = .idle ∧ (s.beats.click ≠ .idle → t.beats.current = none ∧ t.beats.next = none) ∧ t.pointer.armed = none ∧
            t.stops.runAdvisory = false ∧
            (∀ l, (t.clicks.lane l).starts = [] ∧ (t.clicks.lane l).clickVoice = none ∧
              (t.clicks.lane l).countVoicePlaying = none) ∧
            (∀ m, (t.picture.monitor m).frozen = true) ∧
            (∀ k p, BoundPair p k s → (s.rig k).state = .ready → (s.rig k).pendingChange = none →
              t.rig k = (s.rig k).sent (s.tables.setting k).safe .safe (!(s.rigPort p).bit) s.now)))) := by
  have hframe := onlyRigs_validFrame r.port s
  have hshow := hframe.inShow
  have hstops := hframe.stops
  have hheld : [Role.sm, .md, .foh].contains role = true := by
    rcases hi with ⟨rfl, -⟩ | ⟨rfl, -⟩ | ⟨rfl, -⟩ <;> rfl
  have hfrom : ownStopFrom r.port (validFrame r.port s) = ownStop i (validFrame r.port s) :=
    ownStopFrom_eq ((validFrame_role r.port r.port s).trans hrole) hi
  have hquiet := fun (code : ReplyCode) (ho : ownStop i (validFrame r.port s) = ⟨⟨code, []⟩, validFrame r.port s⟩) =>
    command_quiet (decode := payloadNone) (payload := []) (owner := fun _ => ownStopFrom r.port) hfree hrole hheld rfl (hfrom.trans ho)
  have hcommand : i.isCommand = true := by rcases hi with ⟨-, rfl⟩ | ⟨-, rfl⟩ | ⟨-, rfl⟩ <;> rfl
  refine ⟨_, rfl, fun hs => hquiet .setup ?_, fun hs hhalted => hquiet .stopped ?_, fun hs hnot hstood => hquiet .ok ?_,
    fun hs hnot hstack hnothing => ⟨fun hfoh hruns => ?_, fun hhard hlevel hhigh => ?_⟩⟩
  · simp [ownStop, hshow, hs, refuse]
  · simp [ownStop, hshow, hs, hhalted, refuse]
  · rw [ownStop, hshow, hs, if_neg (by decide), hstops, if_neg hnot, if_pos (hstood.imp_left (onStack_iff i s.stops).mpr)]
    rfl
  · have ho := hfrom.trans (ownStop_raises (hshow.trans hs) hnot hstack (hnothing i))
    rw [afterRaising_waits (hframe.nothingRaised hnothing) hstack (by rw [hfoh]; rfl) hruns] at ho
    have hchanged : ((validFrame r.port s).stops.isRaised i != true) = true := by
      rw [show (validFrame r.port s).stops.isRaised i = false from hnothing i]
      rfl
    rw [setRaised, hchanged] at ho
    obtain ⟨hnext, hserved⟩ := command_notified (decode := payloadNone) (payload := []) (owner := fun _ => ownStopFrom r.port)
      hfree hrole hheld rfl ho rfl
    exact ⟨hnext.trans (by simp [validFrame, State.setPort]), hserved⟩
  · have hishard : i.isHard = true := by
      rcases hi with ⟨-, rfl⟩ | ⟨-, rfl⟩ | ⟨-, rfl⟩
      · rfl
      · rfl
      · exact absurd rfl hhard
    have ho := hfrom.trans (ownStop_raises (hshow.trans hs) hnot hstack (hnothing i))
    rw [afterRaising_takes (hshow.trans hs) hnot (hframe.nothingRaised hnothing) hstack hishard hlevel hhigh] at ho
    have htaken := takeStop_taken (i := i) (validFrame r.port s)
    generalize takeStop i (setRaised i true (validFrame r.port s)) = w at ho htaken
    obtain ⟨hnext, hreplied⟩ := command_replied (decode := payloadNone) (payload := []) (owner := fun _ => ownStopFrom r.port)
      hfree hrole hheld rfl ho
    have hwstops := (congrArg State.stops hnext :).trans htaken.stops
    rw [hstops] at hwstops
    refine ⟨hreplied, by rw [hwstops]; rfl, by rw [hwstops]; rfl, fun j => ?_, by rw [hwstops]; rfl, by rw [hwstops]; rfl,
      fun hnil hclear hprofile => ?_⟩
    · rw [hwstops, isRaised_taken, hcommand]
      by_cases hj : i = j
      · rw [if_pos ⟨rfl, hj⟩]
      · rw [if_neg fun h => hj h.2]
        have hset := isRaised_setRaised i j true s
        rw [setRaised_stops, if_neg hj, hnothing j] at hset
        exact hset
    · obtain ⟨h1, h2, h3, h4, h5, h6⟩ := htaken.cut hnil hprofile
      have hadvisory : ({ s.stops with raised := tput s.stops.raised i.index true } : Stops).profile i = ⟨.cut, .safe, .freeze⟩ :=
        hprofile
      refine ⟨(congrArg (fun t : State => t.beats.click) hnext :).trans h1, fun hruns => ?_,
        (congrArg (fun t : State => t.pointer.armed) hnext :).trans h3, ?_, fun l => ?_, fun m => ?_, fun k p hpair hready hnone => ?_⟩
      · have hbeats := (congrArg State.beats hnext :)
        rw [hbeats]
        exact h2 hruns
      · rw [hwstops]
        show ((_ || _) && (Stops.profile _ i).advisory && _) = false
        rw [hadvisory]
        simp [Profile.advisory]
      · rw [(congrArg State.clicks hnext :)]
        exact h4 l
      · rw [(congrArg State.picture hnext :)]
        exact h5 m
      · refine (congrArg (fun t : State => t.rig k) hnext :).trans ((h6 k p ?_ ?_ ?_).trans ?_)
        · exact { slot := by rw [rigPort_validFrame]; exact hpair.slot, port := by rw [rig_validFrame]; exact hpair.port
                  ports := fun q hq => by rw [rigPort_validFrame]; exact hpair.ports q hq
                  slots := fun j hj => by rw [rig_validFrame]; exact hpair.slots j hj }
        · rw [rig_validFrame]; exact hready
        · rw [rig_validFrame]; exact hnone
        · rw [rig_validFrame, rigPort_validFrame, hframe.tables, hframe.now]

end Sys2Proof.Machine
end

section
/-!
PROOFS. The conflict of two hard sources (R169, R170), and the taking of a soft source at a commit (R158, R159, R166).
-/

namespace Sys2Proof.Machine
set_option Elab.async false

/-! ## HALTED (R169, R170) -/

/-- What HALTED leaves (R170). -/
structure Halted (i : StopSource) (s t : State) : Prop where
  state : t.stops.state = .halted
  stack : t.stops.stack = []
  advisory : t.stops.runAdvisory = false
  holdOff : t.stops.holdOff = 0
  record : t.stops.halt = some ⟨i, s.stops.topSource i⟩
  lowered : t.stops.isRaised .smStop = false ∧ t.stops.isRaised .mdStop = false ∧ t.stops.isRaised .fohStop = false
  click : t.beats.click = .idle
  beats : s.beats.click ≠ .idle → t.beats.current = none ∧ t.beats.next = none
  armed : t.pointer.armed = none
  silent : t.clicks.Silent
  frozen : ∀ m, (t.picture.monitor m).frozen = true
  time : t.time = s.time
  tables : t.tables = s.tables

theorem isRaised_lowerCommands_command {j : StopSource} (hj : j.isCommand = true) (s : State) :
    (lowerCommands s).stops.isRaised j = false := by
  rw [lowerCommands, isRaised_setRaised, isRaised_setRaised, isRaised_setRaised]
  cases j <;> first | rfl | cases hj

/-- The cut, the safe patches and the frozen pictures with which HALTED begins (R170). -/
def haltShow (s : State) : State := setStopState .halted (setFrozen true (handSafes (cutClick s)))

theorem haltShow_parts (s : State) :
    (haltShow s).stops = { (cutBeats s).stops with state := .halted } ∧ (haltShow s).beats = (cutClick s).beats ∧
    (haltShow s).pointer = (cutClick s).pointer ∧ (haltShow s).clicks = (cutClick s).clicks ∧
    (∀ m, ((haltShow s).picture.monitor m).frozen = true) ∧ (haltShow s).time = s.time ∧ (haltShow s).tables = s.tables := by
  have hpicture : (haltShow s).picture = (setFrozen true (handSafes (cutClick s))).picture := by simp [haltShow]
  refine ⟨by simp [haltShow], by simp [haltShow], by simp [haltShow], by simp [haltShow], fun m => ?_, by simp [haltShow],
    by simp [haltShow]⟩
  rw [hpicture]
  exact Machine.frozen true _ m

/-- The state in which the command sources have been lowered and the stack emptied (R170). -/
def unstacked (i : StopSource) (s : State) : State :=
  setHoldOff 0 (lowerCommands (notify .stop { s with stops := { s.stops with
    halt := some { raisedSource := i, topSource := s.stops.topSource i }, stack := [], runAdvisory := false,
    topTicked := false, topReported := false } }))

theorem halt_eq (i : StopSource) (s : State) : halt i s = haltShow (unstacked i s) := rfl

theorem halted (i : StopSource) (s : State) : Halted i s (halt i s) := by
  have hstops : (unstacked i s).stops.stack = [] ∧ (unstacked i s).stops.runAdvisory = false ∧ (unstacked i s).stops.holdOff = 0 ∧
      (unstacked i s).stops.halt = some ⟨i, s.stops.topSource i⟩ := by simp [unstacked, lowerCommands]
  have hlowered : ∀ j : StopSource, j.isCommand = true → (unstacked i s).stops.isRaised j = false := fun j hj => by
    rw [unstacked, isRaised_setHoldOff]
    exact isRaised_lowerCommands_command hj _
  have hkeeps : (unstacked i s).beats = s.beats ∧ (unstacked i s).time = s.time ∧ (unstacked i s).tables = s.tables := by
    simp [unstacked]
  rw [halt_eq]
  generalize unstacked i s = u at hstops hlowered hkeeps
  obtain ⟨h1, h2, h3, h4⟩ := hstops
  obtain ⟨hbeats, htime, htables⟩ := hkeeps
  obtain ⟨p1, p2, p3, p4, p5, p6, p7⟩ := haltShow_parts u
  obtain ⟨hclick, hrest, harmed, hsilent⟩ := cutClick_ends u
  have hcut : (cutBeats u).stops = u.stops := by
    rw [cutBeats_stops, ← h3]
    exact ite_self _
  rw [hcut] at p1
  exact {
    state := by rw [p1]
    stack := by rw [p1]; exact h1
    advisory := by rw [p1]; exact h2
    holdOff := by rw [p1]; exact h3
    record := by rw [p1]; exact h4
    lowered := by
      rw [p1]
      exact ⟨hlowered .smStop rfl, hlowered .mdStop rfl, hlowered .fohStop rfl⟩
    click := by rw [p2]; exact hclick
    beats := fun h => by rw [p2]; exact hrest (by rw [hbeats]; exact h)
    armed := by rw [p3]; exact harmed
    silent := by rw [p4]; exact hsilent
    frozen := p5
    time := p6.trans htime
    tables := p7.trans htables }

/-- A hard source raised below a hard top record that is still STOPPING is a conflict (R169). -/
theorem isConflict_true {i : StopSource} {top : StopRecord} {rest : List StopRecord} {s : State} (hhard : i.isHard = true)
    (hstate : s.stops.state = .stopping) (hstack : s.stops.stack = top :: rest) (htop : top.source.isHard = true)
    (hlevel : s.stops.level i < top.level) (hfree : ∀ x ∈ s.stops.stack, x.source ≠ i) : isConflict i s = true := by
  unfold isConflict
  rw [onStack_false hfree, hhard, hstate, hstack]
  simp [htop, hlevel]

theorem stop_conflict {r : Req} {role : Role} {i : StopSource} {top : StopRecord} {rest : List StopRecord} {s : State}
    (hfree : Free r s) (hrole : FromRole role r s) (hi : (role = .sm ∧ i = .smStop) ∨ (role = .md ∧ i = .mdStop))
    (hshow : s.inShow = true) (hstate : s.stops.state = .stopping) (hstack : s.stops.stack = top :: rest)
    (htop : top.source.isHard = true) (hlevel : s.stops.level i < top.level) (hnone : ∀ x ∈ s.stops.stack, x.source ≠ i)
    (hlow : s.stops.isRaised i = false) :
    ∃ t, exec (.stop r []) s = .next t ∧ Replied r .ok [] t ∧ Halted i s t := by
  have hframe := onlyRigs_validFrame r.port s
  have hi' := hi.imp_right (Or.inl (b := role = .foh ∧ i = .fohStop))
  have hheld : [Role.sm, .md, .foh].contains role = true := by
    rcases hi with ⟨rfl, -⟩ | ⟨rfl, -⟩ <;> rfl
  have hhard : i.isHard = true := by rcases hi with ⟨-, rfl⟩ | ⟨-, rfl⟩ <;> rfl
  have hfrom : ownStopFrom r.port (validFrame r.port s) = ownStop i (validFrame r.port s) :=
    ownStopFrom_eq ((validFrame_role r.port r.port s).trans hrole) hi'
  have ho := hfrom.trans (ownStop_raises (s := validFrame r.port s) (i := i) (hframe.inShow.trans hshow)
    (by rw [hframe.stops, hstate]; decide) hnone hlow)
  have hstops : (setRaised i true (validFrame r.port s)).stops = { s.stops with raised := tput s.stops.raised i.index true } :=
    setRaised_stops ..
  have hkeeps : (setRaised i true (validFrame r.port s)).beats = s.beats ∧ (setRaised i true (validFrame r.port s)).time = s.time ∧
      (setRaised i true (validFrame r.port s)).tables = s.tables := by simp
  generalize setRaised i true (validFrame r.port s) = u at ho hstops hkeeps
  obtain ⟨hbeats, htime, htables⟩ := hkeeps
  have hhalts : afterRaising i u = halt i u := by
    have hconflict : isConflict i u = true := isConflict_true hhard (by rw [hstops]; exact hstate) (by rw [hstops]; exact hstack) htop
      (by rw [hstops]; exact hlevel) (by rw [hstops]; exact hnone)
    have hshow' : u.inShow = true := by rw [State.inShow, htables]; exact hshow
    rw [afterRaising, if_neg (by rw [hshow', onStack_false (by rw [hstops]; exact hnone)]; decide), if_pos hconflict]
  rw [hhalts] at ho
  have hhalted := halted i u
  generalize halt i u = w at ho hhalted
  obtain ⟨hnext, hreplied⟩ := command_replied (decode := payloadNone) (payload := []) (owner := fun _ => ownStopFrom r.port)
    hfree hrole hheld rfl ho
  refine ⟨_, rfl, hreplied, ?_⟩
  show Halted i s (command r [.sm, .md, .foh] payloadNone [] (fun _ => ownStopFrom r.port) s)
  rw [hnext]
  exact {
    state := hhalted.state, stack := hhalted.stack, advisory := hhalted.advisory, holdOff := hhalted.holdOff
    record := hhalted.record.trans (by rw [hstops]; rfl)
    lowered := hhalted.lowered, click := hhalted.click
    beats := fun h => hhalted.beats (by rw [hbeats]; exact h)
    armed := hhalted.armed, silent := hhalted.silent, frozen := hhalted.frozen
    time := hhalted.time.trans htime, tables := hhalted.tables.trans htables }

/-! ## A soft source at a commit (R158, R159, R166) -/

/-- The bar of a commit moves the click from COUNT_IN to RUNNING, and no other way (R31). -/
theorem barOfCommit_click (s : State) :
    (barOfCommit s).2.beats.click = s.beats.click ∨ (s.beats.click = .countIn ∧ (barOfCommit s).2.beats.click = .running) := by
  cases hstart : s.beats.barStartNext with
  | false =>
    rw [barOfCommit_inside hstart, takeOnset_eq]
    exact .inl rfl
  | true =>
    by_cases hc : s.beats.click = .countIn
    · obtain ⟨u, -, hbeats, hbar⟩ := barOfCommit_start hstart
      have hclick : u.beats.click = s.beats.click := by rw [hbeats]; rfl
      rw [hbar]
      split
      · split
        · exact .inl hclick
        · obtain ⟨w, -, hw, hfirst⟩ := beginFirstBar_eq u
          rw [hfirst]
          dsimp only
          rw [pushAll_beats, hw]
          exact .inr ⟨hc, if_pos (hclick.trans hc)⟩
      · obtain ⟨w, -, hw, hmusic⟩ := beginMusicBar_eq ((s.beats.latest.map fun b => b.bar.toNat).getD 0) u
        rw [hmusic]
        dsimp only
        rw [pushAll_beats, hw]
        exact .inl hclick
    · exact .inl ((barOfCommit_meter hstart).2 hc)

theorem fixBeat_click (o : Nat) (s : State) :
    (fixBeat o s).2.beats.click = s.beats.click ∨ (s.beats.click = .countIn ∧ (fixBeat o s).2.beats.click = .running) := by
  rw [fixBeat_eq]
  exact barOfCommit_click s

/-- The state of a commit at its sampling (R166). -/
def atSampling (o : Nat) (s : State) : State := lowerHoldOff (announceOutputs (committedBeat o s) (fixBeat o s).2)

theorem atSampling_parts (o : Nat) (s : State) :
    (atSampling o s).stops = { s.stops with holdOff := s.stops.holdOff - 1 } ∧ (atSampling o s).beats = (fixBeat o s).2.beats ∧
    (atSampling o s).tables = s.tables := by simp [atSampling]

/-- A commit that no armed cue meets is its sampling, and the visits of a bar start (R22, R112). -/
theorem beatCommit_samples {o : Nat} {s : State} (honset : s.beats.nextOnset = some o) (hdue : o / 65536 ≤ s.now + 4800)
    (hd : s.beats.discardsNext = false) (harmed : s.pointer.armed = none) :
    beatCommit s = if (committedBeat o s).downbeat then forceVisits (sample true (atSampling o s)) else sample true (atSampling o s) := by
  have hcommit : s.commitDue = true := s.commitDue_iff.mpr ⟨o, honset, hdue⟩
  have hunarmed : takeArmedAtCommit s.beats.barStartNext s = s := by rw [takeArmedAtCommit, armedCue_none harmed]
  rw [beatCommit, if_pos hcommit, if_neg (by rw [hd]; decide), hunarmed, commitBeat_of_onset honset]
  rfl

theorem beatCommit_sampled {o : Nat} {s : State} (honset : s.beats.nextOnset = some o) (hdue : o / 65536 ≤ s.now + 4800)
    (hd : s.beats.discardsNext = false) (harmed : s.pointer.armed = none) :
    (beatCommit s).stops = (sample true (atSampling o s)).stops ∧ (beatCommit s).beats = (sample true (atSampling o s)).beats ∧
    (beatCommit s).overlay = (sample true (atSampling o s)).overlay ∧ (beatCommit s).clicks = (sample true (atSampling o s)).clicks := by
  rw [beatCommit_samples honset hdue hd harmed]
  split <;> simp

/-- A source that is not above the stop level, or that the hold-off count keeps back, is not eligible (R159, R166). -/
theorem eligible_held {c : Bool} {i : StopSource} {s : State}
    (h : s.stops.level i ≤ s.stops.stopLevel ∨ (s.stops.level i < 7 ∧ 1 ≤ s.stops.holdOff)) : eligible c s i = false := by
  rw [Bool.eq_false_iff]
  intro he
  simp only [eligible, Bool.and_eq_true, Bool.or_eq_true, decide_eq_true_eq, beq_iff_eq] at he
  obtain ⟨⟨⟨-, hlevel⟩, -⟩, hfree⟩ := he
  omega

/-- A sampling at which the only source that is raised is not eligible takes nothing (R158). -/
theorem sample_waits {c : Bool} {i : StopSource} {s : State} (hraised : ∀ j, s.stops.isRaised j = decide (j = i))
    (hheld : ∀ b, eligible b s i = false) : sample c s = s := by
  have hnone : ∀ b, sampleOnce b s = s := fun b => by
    have hchosen : chosen b s = none := by
      cases hc : chosen b s with
      | none => rfl
      | some j =>
        have hj := chosen_eligible hc
        have hji : j = i := by
          simp only [eligible, Bool.and_eq_true] at hj
          obtain ⟨⟨⟨⟨hjraised, -⟩, -⟩, -⟩, -⟩ := hj
          simpa [hraised] using hjraised
        rw [hji, hheld] at hj
        cases hj
    unfold sampleOnce
    rw [hchosen]
    exact ite_self _
  unfold sample
  dsimp only
  rw [hnone, hnone, ite_self]

/-- What the taking of a soft source at a commit leaves (R160 to R163). -/
theorem takeStop_at_commit {i : StopSource} (o : Nat) {s : State} (hraised : ∀ j, s.stops.isRaised j = decide (j = i))
    (hsoft : i.isHard = false) :
    (takeStop i (atSampling o s)).stops = ({ s.stops with holdOff := s.stops.holdOff - 1 } : Stops).taken i ∧
    (takeStop i (atSampling o s)).stops.isRaised i = decide (i ≠ .fohStop) ∧
    (s.stops.stack = [] → (s.stops.profile i).click = .bar → (s.beats.click = .countIn ∨ s.beats.click = .running) →
      (takeStop i (atSampling o s)).beats.click = .finishing ∧
      (takeStop i (atSampling o s)).beats.next = some (committedBeat o s)) ∧
    (s.stops.stack = [] → (s.stops.profile i).click = .cut → s.beats.click ≠ .idle →
      (takeStop i (atSampling o s)).beats = { (fixBeat o s).2.beats.idled with countInLeft := 0 } ∧
      (∀ m, tget (takeStop i (atSampling o s)).overlay.flashes m = FlashRec.reset) ∧
      (takeStop i (atSampling o s)).clicks.Silent) := by
  obtain ⟨hstops, hbeats, htables⟩ := atSampling_parts o s
  have hfixed := beatFixed o s
  have hclick := fixBeat_click o s
  generalize atSampling o s = u at hstops hbeats htables
  generalize (fixBeat o s).2.beats = b at hbeats hfixed hclick
  have htaken : (takeStop i u).stops = ({ s.stops with holdOff := s.stops.holdOff - 1 } : Stops).taken i := by
    rw [takeStop_stops, hstops]
  refine ⟨htaken, ?_, fun hstack hbar hruns => ?_, fun hstack hcut hruns => ?_⟩
  · rw [htaken, isRaised_taken]
    show (if i.isCommand = true ∧ i = i then false else s.stops.isRaised i) = _
    rw [hraised]
    cases i <;> simp_all [StopSource.isHard, StopSource.isCommand]
  · obtain ⟨pbeats, -⟩ := pushed_parts i u
    rw [takeStop_eq_handed (by rw [hstops]; exact hstack), (handProfile_none_parts _ _).1, hstops]
    show (handClick (s.stops.profile i).click (pushed i u)).beats.click = _ ∧
      (handClick (s.stops.profile i).click (pushed i u)).beats.next = _
    rw [hbar]
    show (finishClick (pushed i u)).beats.click = _ ∧ (finishClick (pushed i u)).beats.next = _
    have hrunning : b.click = .countIn ∨ b.click = .running := by
      rcases hclick with h | ⟨-, h⟩
      · rw [h]
        exact hruns
      · exact .inr h
    rw [finishClick_beats, pbeats, hbeats, if_pos hrunning]
    exact ⟨rfl, hfixed.next⟩
  · obtain ⟨pbeats, -⟩ := pushed_parts i u
    obtain ⟨qbeats, qclicks, qoverlay, -⟩ := handProfile_none_parts (s.stops.profile i) (pushed i u)
    have hhanded : handClick (s.stops.profile i).click (pushed i u) = cutClick (pushed i u) := by rw [hcut]; rfl
    rw [hhanded] at qbeats qclicks qoverlay
    have heq := takeStop_eq_handed (i := i) (s := u) (by rw [hstops]; exact hstack)
    rw [hstops] at heq
    have hrunning : b.click ≠ .idle := by
      rcases hclick with h | ⟨-, h⟩ <;> rw [h]
      · exact hruns
      · decide
    rw [heq]
    refine ⟨?_, fun m => ?_, ?_⟩
    · refine qbeats.trans ?_
      rw [cutClick_beats, cutBeats_beats, pbeats, hbeats, if_neg hrunning]
    · exact (congrArg (fun x : Overlay => tget x.flashes m) qoverlay).trans (cutClick_flashes _ m)
    · exact Eq.mpr (congrArg ClickGen.Silent qclicks) (cutClick_clicks _)

/-- A commit with one soft source raised (R158, R159, R166). -/
theorem commit_takes_soft {o : Nat} {i : StopSource} {s : State} (honset : s.beats.nextOnset = some o)
    (hdue : o / 65536 ≤ s.now + 4800) (hd : s.beats.discardsNext = false) (harmed : s.pointer.armed = none)
    (hshow : s.inShow = true) (hstate : s.stops.state ≠ .halted) (hraised : ∀ j, s.stops.isRaised j = decide (j = i))
    (hlevel : 1 ≤ s.stops.level i) :
    ((s.stops.level i ≤ s.stops.stopLevel ∨ (s.stops.level i < 7 ∧ 2 ≤ s.stops.holdOff)) →
      (beatCommit s).stops = { s.stops with holdOff := s.stops.holdOff - 1 } ∧
      ∃ b, (beatCommit s).beats.next = some b ∧ b.onset = o) ∧
    (s.stops.stopLevel < s.stops.level i → (7 ≤ s.stops.level i ∨ s.stops.holdOff ≤ 1) →
      (beatCommit s).stops = (takeStop i (atSampling o s)).stops ∧ (beatCommit s).beats = (takeStop i (atSampling o s)).beats ∧
      (beatCommit s).overlay = (takeStop i (atSampling o s)).overlay ∧
      (beatCommit s).clicks = (takeStop i (atSampling o s)).clicks) := by
  obtain ⟨hstops, hbeats, htables⟩ := atSampling_parts o s
  have hnext := (beatFixed o s).next
  have hcommit := beatCommit_sampled honset hdue hd harmed
  generalize atSampling o s = u at hstops hbeats htables hcommit
  have hshow' : u.inShow = true := by
    rw [State.inShow, htables]
    exact hshow
  have hraised' : ∀ j, u.stops.isRaised j = decide (j = i) := fun j => by
    rw [hstops]
    exact hraised j
  refine ⟨fun hheld => ?_, fun hup hfree => ?_⟩
  · have hwaits : sample true u = u := by
      refine sample_waits hraised' fun b => eligible_held ?_
      rw [hstops]
      exact hheld.imp_right fun h => ⟨h.1, Nat.le_sub_of_add_le h.2⟩
    rw [hwaits] at hcommit
    obtain ⟨cstops, cbeats, -⟩ := hcommit
    exact ⟨cstops.trans hstops, committedBeat o s, by rw [cbeats, hbeats, hnext], rfl⟩
  · have heligible : eligible true u i = true := by
      have hnohold : 7 ≤ s.stops.level i ∨ s.stops.holdOff - 1 = 0 := hfree.imp_right fun h => by omega
      unfold eligible
      rw [hraised' i, hstops]
      simp only [Bool.and_eq_true, Bool.or_eq_true, decide_eq_true_eq, beq_iff_eq]
      exact ⟨⟨⟨⟨trivial, hlevel⟩, hup⟩, .inr trivial⟩, hnohold⟩
    rwa [sample_takes hshow' (by rw [hstops]; exact hstate) hraised' heligible] at hcommit

/-- Settles O44: `stop_answered` for a STOP that is turned away, waits or is taken, `stop_conflict` for HALTED, and
`commit_takes_soft` for a soft source at a commit. -/
theorem stopsTaken : Obligations.StopsTaken := by
  unfold Obligations.StopsTaken
  refine ⟨fun r role i s hfree hrole hi => stop_answered hfree hrole hi,
    fun r role i top rest s hfree hrole hi hshow hstate hstack htop hlevel hnone hlow => ?_,
    fun o i s honset hdue hd harmed hshow hstate hraised hsoft hlevel => ?_⟩
  · obtain ⟨t, ht, hreplied, h⟩ := stop_conflict hfree hrole hi hshow hstate hstack htop hlevel hnone hlow
    have hsource : s.stops.topSource i = top.source := by rw [Stops.topSource, hstack]
    obtain ⟨hsm, hmd, hfoh⟩ := h.lowered
    exact ⟨t, ht, hreplied, h.state, h.stack, h.advisory, h.holdOff, h.record.trans (by rw [hsource]), hsm, hmd, hfoh, h.click,
      h.beats, h.armed, h.silent, h.frozen, h.time, h.tables⟩
  · obtain ⟨hwaits, htakes⟩ := commit_takes_soft honset hdue hd harmed hshow hstate hraised hlevel
    obtain ⟨hstops, hlow, hbar, hcut⟩ := takeStop_at_commit o hraised hsoft
    refine ⟨beatCommit s, rfl, hwaits, fun hup hfree => ?_⟩
    obtain ⟨cstops, cbeats, coverlay, cclicks⟩ := htakes hup hfree
    rw [cstops, cbeats, coverlay, cclicks]
    refine ⟨by rw [hstops]; rfl, by rw [hstops]; rfl, hlow, by rw [hstops]; rfl, fun hstack hprofile hruns => ?_,
      fun hstack hprofile hruns => ?_⟩
    · obtain ⟨hclick, hnext⟩ := hbar hstack hprofile hruns
      exact ⟨hclick, committedBeat o s, hnext, rfl⟩
    · obtain ⟨hbeats, hflashes, hsilent⟩ := hcut hstack hprofile hruns
      refine ⟨by rw [hbeats]; rfl, by rw [hbeats]; rfl, by rw [hbeats]; rfl, by rw [hbeats]; rfl, fun m => ?_, hsilent⟩
      rw [hflashes]
      exact ⟨rfl, rfl⟩

end Sys2Proof.Machine
end

section
/-!
PROOFS. BEGIN SHOW and END SHOW (R76 to R79).
-/

namespace Sys2Proof.Machine
set_option Elab.async false

/-! ## BEGIN SHOW (R76, R77) -/

/-- A change that is placed puts no slot in FAULT (R104, R105). -/
theorem sound_placeChange {j k : Slot} {x : Handed} {s : State} (h : (s.rig k).state ≠ .fault) :
    ((placeChange j x s).rig k).state ≠ .fault := by
  by_cases hj : j = k
  · subst hj
    have hsuper : ∀ r : Rig, r.supersede.state = r.state := fun r => by unfold Rig.supersede; split <;> rfl
    unfold placeChange
    dsimp only
    split
    · exact h
    · exact h
    · rw [rig_setRig_same]
      unfold Rig.contest
      split
      · split
        · exact h
        · exact fun hfault => h ((hsuper _).symm.trans hfault)
      · exact h
    · split
      · cases hport : (s.rig j).boundPort with
        | none =>
          have hsuperPort : ((setRig j (s.rig j).supersede s).rig j).boundPort = none := by
            rw [rig_setRig_same, Rig.supersede]
            split <;> exact hport
          rw [sendChange, hsuperPort, rig_setRig_same, hsuper]
          exact h
        | some p =>
          have hsuperPort : ((setRig j (s.rig j).supersede s).rig j).boundPort = some p := by
            rw [rig_setRig_same, Rig.supersede]
            split <;> exact hport
          rw [rig_sendChange _ _ hsuperPort]
          exact fun hfault => RigState.noConfusion hfault
      · rw [rig_setRig_same]
        exact fun hfault => h ((hsuper _).symm.trans hfault)
  · rw [rig_placeChange_ne hj]
    exact h

theorem sound_forBound {x : Slot → State → Handed} {k : Slot} {s : State} (h : (s.rig k).state ≠ .fault) :
    ((forBound (fun j v => placeChange j (x j v) v) s).rig k).state ≠ .fault := by
  rw [forBound_eq]
  generalize allSlots = l
  induction l generalizing s with
  | nil => exact h
  | cons j l ih =>
    refine ih ?_
    unfold handBound
    split
    · exact sound_placeChange h
    · exact h

theorem onlyRigs_handChase (a : ChaseAt) (s : State) : OnlyRigs s (handChase a s) := by apply state_ext <;> simp

/-- The state in which a BEGIN SHOW hands its restores: the session and the pointer are those of the show (R77). -/
def shown (n : Nat) (s : State) : State :=
  setPointer { s.pointer with standing := .cue n, current := none, armed := none, chasePending := false } (setSession .inShow s)

/-- What a BEGIN SHOW writes before the conditions that stand are sampled (R77). -/
structure ShowBegun (n : Nat) (s t : State) : Prop where
  state : t = { s with
    tables := { s.tables with session := .inShow }
    pointer := { s.pointer with standing := .cue n, current := none, armed := none, chasePending := false }
    rigs := t.rigs, desk := t.desk }
  sound : (∀ k, (s.rig k).state ≠ .fault) → ∀ k, (t.rig k).state ≠ .fault
  sent : ∀ k p, (s.rig k).state = .ready → (s.rig k).pendingChange = none → (s.rig k).boundPort = some p →
    (∀ j, j ≠ k → (s.rig j).boundPort ≠ some p) →
    t.rig k = (s.rig k).sent (s.tables.resolve k (s.tables.setting k).opening) .restore (!(s.rigPort p).bit) s.now

theorem shown_eq (n : Nat) (s : State) :
    shown n s = { s with
      tables := { s.tables with session := .inShow }
      pointer := { s.pointer with standing := .cue n, current := none, armed := none, chasePending := false }
      desk := (shown n s).desk } := by
  apply state_ext <;> simp [shown, setSession, setPointer]

theorem handChase_begun (n : Nat) (s : State) : ShowBegun n s (handChase .first (shown n s)) := by
  have hstate := onlyRigs_handChase .first (shown n s)
  have hsound := fun k => sound_forBound (x := fun k s => restoreFor k (s.tables.patchChase .first k).1 s) (s := shown n s) (k := k)
  have hsent := fun k p => forBound_sent (s := shown n s) (x := fun j u => restoreFor j (u.tables.patchChase .first j).1 u)
    (fun j u hu => by rw [hu.tables, restoreFor, restoreFor, hu.tables]) (k := k) (p := p) (restoreFor_kind k _ _)
  have hshown := shown_eq n s
  rw [← handChase] at hsound hsent
  generalize shown n s = u at hstate hsound hsent hshown ⊢
  generalize handChase .first u = t at hstate hsound hsent ⊢
  have hrigs : u.rigs = s.rigs := (congrArg State.rigs hshown :)
  have htime : u.time = s.time := (congrArg State.time hshown :)
  have htables : u.tables = { s.tables with session := .inShow } := (congrArg State.tables hshown :)
  have hrig : ∀ k, u.rig k = s.rig k := fun k => by rw [State.rig, hrigs]; rfl
  have hport : ∀ p, u.rigPort p = s.rigPort p := fun p => by rw [State.rigPort, hrigs]; rfl
  refine { state := ?_, sound := fun h k => hsound k (by rw [hrig]; exact h k), sent := fun k p hready hnone hbound hothers => ?_ }
  · rw [OnlyRigs, hshown] at hstate
    exact hstate
  · have h := hsent k p (by rw [hrig]; exact hbound) (fun j hj => by rw [hrig]; exact hothers j hj) (by rw [hrig]; exact hready)
      (by rw [hrig]; exact hnone)
    rw [restoreFor, hrig, hport, State.now, htime, htables] at h
    exact h

/-- A BEGIN SHOW with no rig in FAULT ends in a sampling (R118, R171). -/
theorem beginShow_eq {n : Nat} {s : State} (hsound : ∀ k, (s.rig k).state ≠ .fault) (hlow : s.stops.isRaised .rigFault = false) :
    beginShow n s = sample false (handChase .first (shown n s)) := by
  have hbegun := handChase_begun n s
  show (let t := handChase .first (shown n s); sample false (followCondition .rigFault (rigFaultNow t) t)) = _
  generalize handChase .first (shown n s) = t at hbegun ⊢
  dsimp only
  have hstops : t.stops = s.stops := (congrArg State.stops hbegun.state :)
  rw [rigFaultNow_false fun _ => hbegun.sound hsound, followCondition_of_tracked (by rw [hstops]; exact hlow)]

/-- The slot that stands in the way of a BEGIN SHOW (R76). -/
theorem anyNotReady_iff (s : State) :
    allSlots.any (slotNotReady s) = true ↔ ∃ k, (s.tables.setting k).required = true ∧ (s.rig k).state ≠ .ready := by
  simp [List.any_eq_true, slotNotReady, mem_allSlots]

/-- The conditions under which BEGIN SHOW is accepted (R76). -/
theorem ownBeginShow_accepts {c : Cue} {rest : List Cue} {s : State} (hshow : s.inShow = false) (hcues : s.tables.cues = c :: rest)
    (hready : ∀ k, (s.tables.setting k).required = true → (s.rig k).state = .ready) :
    ownBeginShow s = accept (beginShow c.number s) := by
  have hany : ¬ allSlots.any (slotNotReady s) = true := by
    rw [anyNotReady_iff]
    rintro ⟨k, hk, hnot⟩
    exact hnot (hready k hk)
  unfold ownBeginShow
  rw [hshow, if_neg (by decide), hcues]
  exact if_neg hany

theorem ownBeginShow_notReady {c : Cue} {rest : List Cue} {s : State} (hshow : s.inShow = false) (hcues : s.tables.cues = c :: rest)
    {k : Slot} (hk : (s.tables.setting k).required = true) (hnot : (s.rig k).state ≠ .ready) :
    ownBeginShow s = refuse .notReady s := by
  unfold ownBeginShow
  rw [hshow, if_neg (by decide), hcues]
  exact if_pos ((anyNotReady_iff s).mpr ⟨k, hk, hnot⟩)

/-! ## END SHOW (R78, R79) -/

theorem refusesEnd_iff (x : StopState) :
    x.refusesEnd = true ↔ x = .stopping ∨ x = .stopped ∨ x = .restoring ∨ x = .resumeArmed := by
  cases x <;> simp [StopState.refusesEnd]

theorem tmap_const_eq {α : Type} {n : Nat} (x : α) (v : Vector α n) : tmap (fun _ => x) v = Vector.replicate n x := by
  apply Vector.ext
  intro i hi
  simp [tmap]

/-- What END SHOW leaves (R79). -/
structure ShowEnded (s t : State) : Prop where
  state : t = { s with
    tables := { s.tables with session := .setup }
    pointer := { s.pointer with armed := none, chasePending := false }
    tempo := { s.tempo with taps := [] }
    beats := { s.beats with vamps := [], pushes := [], pendingMeter := none, pendingBar := none, countInLeft := 0 }
    clicks := s.clicks.silence
    stops := { s.stops with
      stack := [], state := .clear, holdOff := 0, runAdvisory := true, topTicked := false, topReported := false,
      raised := t.stops.raised }
    resume := { s.resume with target := none, mdReady := false, restoreSet := [] }
    picture := s.picture.freezeAll false
    overlay := { s.overlay with banner := none, flashes := Vector.replicate 6 FlashRec.reset }
    rigs := t.rigs
    desk := t.desk }
  raised : ∀ i, t.stops.isRaised i =
    (if i = .smStop ∨ i = .mdStop ∨ i = .fohStop ∨ i = .rigFault then false else s.stops.isRaised i)

theorem endShow_ended (s : State) : ShowEnded s (endShow s) where
  state := by
    apply state_ext <;>
      simp [endShow, endStops, endBeats, setPointer, setSession, dropResume, clearCountIn, lowerCommands, cutFlashes, setFrozen,
        tmap_const_eq]
  raised i := by
    have hstops : (endShow s).stops.raised = (setRaised .rigFault false (lowerCommands s)).stops.raised := by
      simp [endShow, endStops, endBeats, setPointer, setSession, dropResume, clearCountIn, lowerCommands, cutFlashes]
    rw [Stops.isRaised, hstops]
    show (setRaised .rigFault false (lowerCommands s)).stops.isRaised i = _
    rw [isRaised_setRaised, lowerCommands, isRaised_setRaised, isRaised_setRaised, isRaised_setRaised]
    cases i <;> rfl

/-- A condition that stands raised at a BEGIN SHOW is taken at once (R159, R171). -/
theorem beginShow_takes {n : Nat} {i : StopSource} {s : State} (hsound : ∀ k, (s.rig k).state ≠ .fault)
    (hraised : ∀ j, s.stops.isRaised j = decide (j = i)) (hfault : i ≠ .rigFault) (hlevel : 1 ≤ s.stops.level i)
    (hstack : s.stops.stack = []) (hclear : s.stops.state = .clear) (hhold : s.stops.holdOff = 0) (hidle : s.beats.click = .idle) :
    (beginShow n s).stops = s.stops.taken i ∧ (beginShow n s).tables = { s.tables with session := .inShow } := by
  rw [beginShow_eq hsound (by rw [hraised]; exact decide_eq_false hfault.symm)]
  have hbegun := handChase_begun n s
  generalize handChase .first (shown n s) = t at hbegun ⊢
  have hstops : t.stops = s.stops := (congrArg State.stops hbegun.state :)
  have htables : t.tables = { s.tables with session := .inShow } := (congrArg State.tables hbegun.state :)
  have hbeats : t.beats = s.beats := (congrArg State.beats hbegun.state :)
  have hshow : t.inShow = true := by
    rw [State.inShow, htables]
    rfl
  have heligible : eligible false t i = true := by
    have hempty : t.stops.stopLevel = 0 := by rw [hstops, Stops.stopLevel, hstack]
    unfold eligible
    rw [hempty, hstops, hraised, hbeats, hidle, hhold]
    simpa using And.intro hlevel (Nat.lt_of_lt_of_le Nat.zero_lt_one hlevel)
  rw [sample_takes hshow (by rw [hstops, hclear]; decide) (by rw [hstops]; exact hraised) heligible, takeStop_stops, hstops]
  exact ⟨rfl, by rw [← htables]; simp⟩

theorem beginShow_answered {r : Req} {s : State} (hfree : Free r s) (hrole : FromRole .sm r s) :
    ∃ t, exec (.beginShow r []) s = .next t ∧
      (s.inShow = true → t = { s with desk := t.desk } ∧ Served r .busy [] 0 s t) ∧
      (s.inShow = false → s.tables.cues = [] → t = { s with desk := t.desk } ∧ Served r .notReady [] 0 s t) ∧
      (s.inShow = false → (∃ k, (s.tables.setting k).required = true ∧ (s.rig k).state ≠ .ready) →
        t = { s with desk := t.desk } ∧ Served r .notReady [] 0 s t) ∧
      (∀ c rest, s.inShow = false → s.tables.cues = c :: rest →
        (∀ k, (s.tables.setting k).required = true → (s.rig k).state = .ready) → (∀ k, (s.rig k).state ≠ .fault) →
        (NothingRaised s → Replied r .ok [] t ∧ ShowBegun c.number s t) ∧
        (∀ i, (∀ j, s.stops.isRaised j = decide (j = i)) → i ≠ .rigFault → 1 ≤ s.stops.level i → s.stops.stack = [] →
          s.stops.state = .clear → s.stops.holdOff = 0 → s.beats.click = .idle →
          Replied r .ok [] t ∧ t.tables = { s.tables with session := .inShow } ∧ t.stops = s.stops.taken i)) := by
  have hframe := onlyRigs_validFrame r.port s
  have hrig := fun k => rig_validFrame r.port k s
  have hshow := hframe.inShow
  have hquiet := fun (code : ReplyCode) (ho : ownBeginShow (validFrame r.port s) = refuse code (validFrame r.port s)) =>
    command_quiet (roles := [.sm]) (decode := payloadNone) (payload := []) (owner := fun _ => ownBeginShow) hfree hrole rfl rfl ho
  have haccepts := fun {c : Cue} {rest : List Cue} (hs : s.inShow = false) (hcues : s.tables.cues = c :: rest)
      (hready : ∀ k, (s.tables.setting k).required = true → (s.rig k).state = .ready) =>
    ownBeginShow_accepts (s := validFrame r.port s) (hshow.trans hs) (by rw [hframe.tables]; exact hcues) (fun k hk => by
      rw [hrig]
      rw [hframe.tables] at hk
      exact hready k hk)
  refine ⟨_, rfl, fun hs => hquiet .busy ?_, fun hs hcues => hquiet .notReady ?_, fun hs hnot => hquiet .notReady ?_,
    fun c rest hs hcues hready hsound => ⟨fun hnothing => ?_, fun i hraised hfault hlevel hstack hclear hhold hidle => ?_⟩⟩
  · simp [ownBeginShow, hshow, hs]
  · simp [ownBeginShow, hshow, hs, hcues]
  · obtain ⟨k, hk, hstate⟩ := hnot
    cases hcues : s.tables.cues with
    | nil => simp [ownBeginShow, hshow, hs, hcues]
    | cons c rest =>
      exact ownBeginShow_notReady (hshow.trans hs) (by rw [hframe.tables]; exact hcues) (by rw [hframe.tables]; exact hk)
        (by rw [hrig]; exact hstate)
  · have ho := haccepts hs hcues hready
    rw [beginShow_eq (fun k => by rw [hrig]; exact hsound k) (hframe.nothingRaised hnothing .rigFault)] at ho
    have hbegun := handChase_begun c.number (validFrame r.port s)
    generalize handChase .first (shown c.number (validFrame r.port s)) = w at ho hbegun
    rw [sample_of_nothingRaised false ((hframe.nothingRaised hnothing).congr (by rw [hbegun.state]))] at ho
    obtain ⟨hnext, hreplied⟩ := command_replied (roles := [.sm]) (decode := payloadNone) (payload := [])
      (owner := fun _ => ownBeginShow) hfree hrole rfl rfl ho
    have hrigs := (congrArg State.rigs hnext :)
    have hstate := hbegun.state
    rw [hframe] at hstate
    refine ⟨hreplied, { state := ?_, sound := fun h k => ?_, sent := fun k p hk hnone hbound hothers => ?_ }⟩
    · generalize command r [.sm] payloadNone [] (fun _ => ownBeginShow) s = v at hnext hrigs ⊢
      rw [hstate] at hnext
      rw [hrigs]
      exact hnext
    · rw [State.rig, hrigs]
      exact hbegun.sound (fun k => by rw [hrig]; exact h k) k
    · rw [State.rig, hrigs]
      have h := hbegun.sent k p (by rw [hrig]; exact hk) (by rw [hrig]; exact hnone) (by rw [hrig]; exact hbound)
        (fun j hj => by rw [hrig]; exact hothers j hj)
      rw [hrig, rigPort_validFrame, hframe.tables, State.now, hframe.time] at h
      exact h
  · have ho := haccepts hs hcues hready
    obtain ⟨hstops, htables⟩ := beginShow_takes (n := c.number) (s := validFrame r.port s) (fun k => by rw [hrig]; exact hsound k)
      (by rw [hframe.stops]; exact hraised) hfault (by rw [hframe.stops]; exact hlevel) (by rw [hframe.stops]; exact hstack)
      (by rw [hframe.stops]; exact hclear) (by rw [hframe.stops]; exact hhold) (by rw [hframe.beats]; exact hidle)
    generalize beginShow c.number (validFrame r.port s) = w at ho hstops htables
    obtain ⟨hnext, hreplied⟩ := command_replied (roles := [.sm]) (decode := payloadNone) (payload := [])
      (owner := fun _ => ownBeginShow) hfree hrole rfl rfl ho
    exact ⟨hreplied, (congrArg State.tables hnext :).trans (htables.trans (by rw [hframe.tables])),
      (congrArg State.stops hnext :).trans (hstops.trans (by rw [hframe.stops]))⟩

theorem endShow_answered {r : Req} {s : State} (hfree : Free r s) (hrole : FromRole .sm r s) :
    ∃ t, exec (.endShow r []) s = .next t ∧
      (s.inShow = false → t = { s with desk := t.desk } ∧ Served r .setup [] 0 s t) ∧
      (s.inShow = true → (s.beats.click ≠ .idle ∨ s.stops.state = .stopping ∨ s.stops.state = .stopped ∨
          s.stops.state = .restoring ∨ s.stops.state = .resumeArmed) →
        t = { s with desk := t.desk } ∧ Served r .busy [] 0 s t) ∧
      (s.inShow = true → s.beats.click = .idle →
        (s.stops.state = .clear ∨ s.stops.state = .awaitResume ∨ s.stops.state = .halted) →
        Replied r .ok [] t ∧ ShowEnded s t) := by
  have hframe := onlyRigs_validFrame r.port s
  have hshow := hframe.inShow
  have hquiet := fun (code : ReplyCode) (ho : ownEndShow (validFrame r.port s) = refuse code (validFrame r.port s)) =>
    command_quiet (roles := [.sm]) (decode := payloadNone) (payload := []) (owner := fun _ => ownEndShow) hfree hrole rfl rfl ho
  refine ⟨_, rfl, fun hs => hquiet .setup ?_, fun hs hbusy => hquiet .busy ?_, fun hs hidle hstate => ?_⟩
  · simp [ownEndShow, hshow, hs]
  · rw [ownEndShow, hshow, hs, if_neg (by decide), hframe.beats, hframe.stops]
    by_cases hidle : s.beats.click = .idle
    · rw [if_neg (not_not_intro hidle), if_pos ((refusesEnd_iff _).mpr (hbusy.resolve_left (not_not_intro hidle)))]
    · exact if_pos hidle
  · have ho : ownEndShow (validFrame r.port s) = accept (endShow (validFrame r.port s)) := by
      have hnot : ¬ s.stops.state.refusesEnd = true := by rcases hstate with h | h | h <;> rw [h] <;> decide
      rw [ownEndShow, hshow, hs, if_neg (by decide), hframe.beats, hframe.stops, if_neg (not_not_intro hidle), if_neg hnot]
    have hended := endShow_ended (validFrame r.port s)
    generalize endShow (validFrame r.port s) = w at ho hended
    obtain ⟨hnext, hreplied⟩ := command_replied (roles := [.sm]) (decode := payloadNone) (payload := [])
      (owner := fun _ => ownEndShow) hfree hrole rfl rfl ho
    have hstops := (congrArg State.stops hnext :)
    have hended' := hended.state
    rw [hframe] at hended'
    refine ⟨hreplied, { state := ?_, raised := fun i => ?_ }⟩
    · have hrigs := (congrArg State.rigs hnext :)
      generalize command r [.sm] payloadNone [] (fun _ => ownEndShow) s = v at hnext hrigs hstops ⊢
      rw [hended'] at hnext
      rw [hrigs, hstops]
      exact hnext
    · rw [hstops, hended.raised, hframe.stops]

/-- Settles O30: `beginShow_answered` and `endShow_answered`. -/
theorem showBeginsAndEnds : Obligations.ShowBeginsAndEnds := by
  refine ⟨fun r s hfree hrole => ?_, fun r s hfree hrole => ?_⟩
  · obtain ⟨t, ht, hbusy, hempty, hnot, hbegins⟩ := beginShow_answered hfree hrole
    refine ⟨t, ht, hbusy, hempty, hnot, fun c rest hs hcues hready hnothing hsound => ?_,
      fun c rest i hs hcues hready hsound hraised hcommand hfault hlevel hstack hclear hhold hidle => ?_⟩
    · obtain ⟨hreplied, hbegun⟩ := (hbegins c rest hs hcues hready hsound).1 hnothing
      refine ⟨hreplied, hbegun.state, fun k p hk hnone hbound hothers => ?_⟩
      have hsent := hbegun.sent k p hk hnone hbound hothers
      simp only [Rig.sent, Tables.resolve] at hsent
      dsimp only
      rw [hsent, hnone]
    · obtain ⟨hreplied, htables, hstops⟩ :=
        (hbegins c rest hs hcues hready hsound).2 i hraised hfault hlevel hstack hclear hhold hidle
      have hnotFull : ¬ Config.stackCapacity ≤ s.stops.stack.length := by
        rw [hstack]
        decide
      refine ⟨hreplied, htables, by rw [hstops]; rfl, ?_, ?_⟩
      · rw [hstops]
        show _ :: (if Config.stackCapacity ≤ s.stops.stack.length then s.stops.stack.dropLast else s.stops.stack) = _
        rw [if_neg hnotFull, hstack]
      · rw [hstops, isRaised_taken, hcommand, hraised]
        simp
  · obtain ⟨t, ht, hsetup, hbusy, hends⟩ := endShow_answered hfree hrole
    refine ⟨t, ht, hsetup, hbusy, fun hs hidle hstate => ?_⟩
    obtain ⟨hreplied, hended⟩ := hends hs hidle hstate
    exact ⟨hreplied, hended.state, hended.raised⟩

end Sys2Proof.Machine
end

section
/-!
PROOFS. RESUME GO (R39, R94, R181).
-/

namespace Sys2Proof.Machine
set_option Elab.async false

/-! ## The start of the click at a resume (R39, R51) -/

/-- No lane of a generator plays a clip (R49). -/
def ClickGen.Voiceless (g : ClickGen) : Prop := ∀ l, (g.lane l).clickVoice = none ∧ (g.lane l).countVoicePlaying = none

theorem schedule_voiceless {g : ClickGen} (b : Beat) (h : g.Voiceless) : (g.schedule b).Voiceless := fun l => by
  rw [ClickGen.lane, ClickGen.schedule, tget_tmap]
  exact h l

/-- A START plays no clip of its own (R46, R47). -/
theorem startClick_clicks {c : Bool} {n b : Nat} {s : State} (hidle : s.beats.click = .idle) (hquiet : NothingRaised s)
    (hvoiceless : s.clicks.Voiceless) : (startClick c n b s).clicks.Voiceless := by
  rw [startClick_of_idle hidle]
  have hparts := started_parts n b s
  have hclicks : (started n b s).clicks = s.clicks := by
    unfold started setClick
    dsimp only
    rw [hidle, show (ClickState.idle == .countIn) = false from rfl, Bool.false_and, if_neg (by decide)]
    simp
  generalize started n b s = u at hparts hclicks ⊢
  have hbeats : u.beats = s.beats.startedAt s.now n b := by rw [hparts]
  have honset : u.beats.nextOnset = some ((s.now + 4800) * 65536) := by rw [hbeats]; rfl
  have hannounced := commitBeat_announced honset (hquiet.congr (by rw [hparts])) c
  rw [hannounced.clicks, hclicks]
  exact schedule_voiceless _ hvoiceless

/-- The state in which a resume GO starts the click: cut, its vamps emptied, at the tempo and the meter of the chase (R39). -/
def rechased (a : ChaseAt) (s : State) : State :=
  let s := emptyVamps (cutClick s)
  let s := { s with beats := { s.beats with
    pendingBar := none, pendingMeter := none, meter := s.tables.meterChase a } }
  setTempoState (s.tempo.apply (s.tables.tempoChase a)) s

theorem restart_eq (a : ChaseAt) (offset : Nat) (s : State) :
    restart a offset s = startClick false (rechased a s).resume.countIn (min ((rechased a s).tables.barChase a + offset) Config.barMax)
      (rechased a s) := rfl

/-- The beat state in which a resume GO starts the click (R39). -/
def rechasedBeats (a : ChaseAt) (s : State) : BeatState :=
  { (cutBeats s).beats with
    vamps := [], pushes := [], pendingBar := none, pendingMeter := none, meter := s.tables.meterChase a }

/-- The parts of the state in which a resume GO starts the click. -/
structure Rechased (a : ChaseAt) (s t : State) : Prop where
  beats : t.beats = rechasedBeats a s
  tempo : t.tempo = s.tempo.apply (s.tables.tempoChase a)
  tables : t.tables = s.tables
  pointer : t.pointer = { s.pointer with armed := none }
  raised : t.stops.raised = s.stops.raised
  resume : t.resume = s.resume
  time : t.time = s.time
  clicks : t.clicks.Voiceless

theorem rechased_parts (a : ChaseAt) (s : State) : Rechased a s (rechased a s) where
  beats := by simp [rechased, rechasedBeats, setTempoState]
  tempo := by simp [rechased, setTempoState]
  tables := by simp [rechased, setTempoState]
  pointer := by simp [rechased, setTempoState, cutClick_pointer]
  raised := by
    have hstops : (rechased a s).stops = (cutBeats s).stops := by simp [rechased, setTempoState]
    rw [hstops, cutBeats_stops]
    split <;> rfl
  resume := by simp [rechased, setTempoState]
  time := by simp [rechased, setTempoState]
  clicks := by
    have hclicks : (rechased a s).clicks = (cutClick s).clicks := by simp [rechased, setTempoState]
    rw [hclicks]
    exact fun l => (cutClick_clicks s l).2

/-- A tempo chase is FIXED or LIVE (R72). -/
theorem tempoChase_cases (t : Tables) (a : ChaseAt) : (∃ v, t.tempoChase a = .fixed v) ∨ t.tempoChase a = .live := by
  unfold Tables.tempoChase
  cases hlast : ((t.upTo a).filterMap fun c => chasedTempo c.tempo).getLast? with
  | none => exact .inl ⟨_, rfl⟩
  | some spec =>
    obtain ⟨c, -, hc⟩ := List.mem_filterMap.mp (List.mem_of_getLast? hlast)
    cases htempo : c.tempo <;> rw [htempo] at hc
    · cases hc
    · exact .inl ⟨_, (Option.some.inj hc).symm⟩
    · exact .inr (Option.some.inj hc).symm
    · exact .inl ⟨_, (Option.some.inj hc).symm⟩

/-- The tempo that a chase gives (R39). -/
def chasedAt (spec : TempoSpec) (t : TempoState) : Nat :=
  match spec with
  | .fixed v => v
  | _ => t.live

/-- The first commit after a chased tempo leaves it as it was applied (R16, R39). -/
theorem apply_chased {spec : TempoSpec} (h : (∃ v, spec = .fixed v) ∨ spec = .live) (t : TempoState) :
    committedTempo (t.apply spec) = chasedAt spec t ∧ (tempoAfterCommit (t.apply spec)).current = chasedAt spec t ∧
    (tempoAfterCommit (t.apply spec)).live = t.live ∧ (tempoAfterCommit (t.apply spec)).ramp = none := by
  rcases h with ⟨v, rfl⟩ | rfl <;> exact ⟨rfl, rfl, rfl, rfl⟩

/-- The beat state of a resume GO (R39). -/
structure Restarted (g : Target) (s t : State) : Prop where
  beats : t.beats = ((rechasedBeats (.cue g.cue) s).startedAt s.now s.resume.countIn
    (min (s.tables.barChase (.cue g.cue) + g.offset) 9999)).firstCommitted ((s.now + 4800) * 65536)
    (chasedAt (s.tables.tempoChase (.cue g.cue)) s.tempo)
  tempo : t.tempo.current = chasedAt (s.tables.tempoChase (.cue g.cue)) s.tempo ∧ t.tempo.live = s.tempo.live ∧ t.tempo.ramp = none
  clicks : t.clicks.Voiceless
  tables : t.tables = s.tables
  pointer : t.pointer = { s.pointer with armed := none }
  raised : NothingRaised t
  resume : t.resume = s.resume

theorem BeatInv.of_beats {s t : State} (h : BeatInv s) (hbeats : t.beats = s.beats) : BeatInv t where
  idle := by rw [hbeats]; exact h.idle
  onset := by rw [hbeats]; exact h.onset
  vamps := by rw [hbeats]; exact h.vamps
  pushes := by rw [hbeats]; exact h.pushes
  currentBeat := by rw [hbeats]; exact h.currentBeat
  nextBeat := by rw [hbeats]; exact h.nextBeat

/-- The first beat of a START with a count-in is a beat of its first count-in bar (R31). -/
theorem startedAt_countIn {b : BeatState} {now n start o T : Nat} (hcurrent : b.current = none) (hn : n ≠ 0) :
    ((b.startedAt now n start).firstCommitted o T).click = .countIn ∧
    ((b.startedAt now n start).firstCommitted o T).current = none ∧
    ((b.startedAt now n start).firstCommitted o T).next = some
      { onset := o, period := 18874368000000 / T, tempo := T, bar := -(n : Int), beat := 1,
        downbeat := true, countIn := true, vampLoop := false, lastPass := false } ∧
    ((b.startedAt now n start).firstCommitted o T).nextOnset = some (o + 18874368000000 / T) ∧
    ((b.startedAt now n start).firstCommitted o T).countInLeft = n - 1 ∧
    ((b.startedAt now n start).firstCommitted o T).startBar = start ∧
    ((b.startedAt now n start).firstCommitted o T).pendingBar = b.pendingBar := by
  simp [BeatState.firstCommitted, BeatState.startedAt, hn, hcurrent]

/-- A click that a CUT has left has no beat record (R20, R28). -/
theorem cutBeats_empty {s : State} (hinv : BeatInv s) : (cutBeats s).beats.current = none ∧ (cutBeats s).beats.next = none := by
  rw [cutBeats_beats]
  split
  · next hidle =>
    obtain ⟨hcurrent, hnext, -⟩ := hinv.idle hidle
    exact ⟨hcurrent, hnext⟩
  · exact ⟨rfl, rfl⟩

theorem restart_restarted (g : Target) {s : State} (hinv : BeatInv s) (hquiet : NothingRaised s) :
    Restarted g s (restart (.cue g.cue) g.offset s) := by
  rw [restart_eq]
  have hparts := rechased_parts (.cue g.cue) s
  generalize rechased (.cue g.cue) s = u at hparts ⊢
  obtain ⟨hcurrent, hnext⟩ := cutBeats_empty hinv
  have hidle : u.beats.click = .idle := by
    rw [hparts.beats]
    exact cutBeats_click s
  have hquiet' : NothingRaised u := hquiet.congr hparts.raised
  have hstarted := startClick_started (c := false) (n := u.resume.countIn) (b := min (u.tables.barChase (.cue g.cue) + g.offset) Config.barMax)
    hidle (by rw [hparts.beats]; exact hnext) (by rw [hparts.beats]; exact hcurrent) (by rw [hparts.beats]; rfl) hquiet'
  have hclicks := startClick_clicks (c := false) (n := u.resume.countIn)
    (b := min (u.tables.barChase (.cue g.cue) + g.offset) Config.barMax) hidle hquiet' hparts.clicks
  generalize startClick false u.resume.countIn (min (u.tables.barChase (.cue g.cue) + g.offset) Config.barMax) u = t at hstarted hclicks ⊢
  obtain ⟨hcommitted, hafter, hlive, hramp⟩ := apply_chased (tempoChase_cases s.tables (.cue g.cue)) s.tempo
  have hbeats := hstarted.beats
  have htempo := hstarted.tempo
  have hnow : u.now = s.now := by rw [State.now, hparts.time]; rfl
  rw [hparts.beats, hparts.tempo, hparts.tables, hparts.resume, hnow, hcommitted] at hbeats
  rw [hparts.tempo] at htempo
  exact {
    beats := hbeats
    tempo := by rw [htempo]; exact ⟨hafter, hlive, hramp⟩
    clicks := hclicks
    tables := hstarted.tables.trans hparts.tables
    pointer := hstarted.pointer.trans hparts.pointer
    raised := hquiet'.congr (by rw [hstarted.stops])
    resume := hstarted.resume.trans hparts.resume }

/-! ## RESUME GO (R94, R181) -/

/-- What a resume GO leaves of the show once the click has been started (R94, R181). -/
def returned (n : Nat) (s : State) : State := setStopState .clear (dropResume (setFrozen false (resumePointer n s)))

theorem resumeGo_eq (g : Target) (s : State) :
    resumeGo g s = sample false (returned g.cue (restart (.cue g.cue) g.offset s)) := rfl

theorem returned_parts (n : Nat) (s : State) :
    (returned n s).beats = s.beats ∧ (returned n s).tempo = s.tempo ∧ (returned n s).clicks = s.clicks ∧
    (returned n s).stops = { s.stops with state := .clear } ∧
    (returned n s).resume = { s.resume with target := none, mdReady := false, restoreSet := [] } ∧
    (returned n s).pointer = { s.pointer with
      current := some n, standing := s.tables.standingAfter n, armed := none, chasePending := false } ∧
    ∀ m, ((returned n s).picture.monitor m).frozen = false := by
  have hpicture : (returned n s).picture = (setFrozen false (resumePointer n s)).picture := by simp [returned, dropResume]
  refine ⟨by simp [returned, dropResume], by simp [returned, dropResume], by simp [returned, dropResume],
    by simp [returned, dropResume], by simp [returned, dropResume], by simp [returned, dropResume, resumePointer, setPointer],
    fun m => ?_⟩
  rw [hpicture]
  exact unfrozen _ m

/-- What an accepted RESUME GO leaves (R39, R94, R181). -/
structure Resumed (g : Target) (s t : State) : Prop where
  beats : t.beats = ((rechasedBeats (.cue g.cue) s).startedAt s.now s.resume.countIn
    (min (s.tables.barChase (.cue g.cue) + g.offset) 9999)).firstCommitted ((s.now + 4800) * 65536)
    (chasedAt (s.tables.tempoChase (.cue g.cue)) s.tempo)
  tempo : t.tempo.current = chasedAt (s.tables.tempoChase (.cue g.cue)) s.tempo ∧ t.tempo.live = s.tempo.live ∧ t.tempo.ramp = none
  clicks : t.clicks.Voiceless
  pointer : t.pointer = { s.pointer with
    current := some g.cue, standing := s.tables.standingAfter g.cue, armed := none, chasePending := false }
  resume : t.resume = { s.resume with target := none, mdReady := false, restoreSet := [] }
  state : t.stops.state = .clear
  unfrozen : ∀ m, (t.picture.monitor m).frozen = false

theorem resumeGo_resumed (g : Target) {s : State} (hinv : BeatInv s) (hquiet : NothingRaised s) : Resumed g s (resumeGo g s) := by
  rw [resumeGo_eq]
  have hrestarted := restart_restarted g hinv hquiet
  generalize restart (.cue g.cue) g.offset s = u at hrestarted ⊢
  obtain ⟨hbeats, htempo, hclicks, hstops, hresume, hpointer, hpictures⟩ := returned_parts g.cue u
  generalize returned g.cue u = t at hbeats htempo hclicks hstops hresume hpointer hpictures ⊢
  rw [sample_of_nothingRaised false (hrestarted.raised.congr (by rw [hstops]))]
  exact {
    beats := hbeats.trans hrestarted.beats
    tempo := by rw [htempo]; exact hrestarted.tempo
    clicks := by rw [hclicks]; exact hrestarted.clicks
    pointer := by rw [hpointer, hrestarted.pointer, hrestarted.tables]
    resume := by rw [hresume, hrestarted.resume]
    state := by rw [hstops]
    unfrozen := hpictures }

/-- Settles O49: the refusals of a RESUME GO in their order, and `resumeGo_resumed`. -/
theorem resumeGoes : Obligations.ResumeGoes := by
  intro r s hfree hrole
  have hframe := onlyRigs_validFrame r.port s
  have hquiet := fun (code : ReplyCode) (ho : ownResumeGo (validFrame r.port s) = refuse code (validFrame r.port s)) =>
    command_quiet (roles := [.sm]) (decode := payloadNone) (payload := []) (owner := fun _ => ownResumeGo) hfree hrole rfl rfl ho
  have hshow := hframe.inShow
  have hstops := hframe.stops
  refine ⟨_, rfl, ?_⟩
  intro refused
  refine ⟨fun hs => hquiet .setup ?_, fun hs hclear => hquiet .noStop ?_, fun hs hclear hnot => hquiet .stopped ?_,
    fun g hs hstate htarget hcount hinv hnothing => ?_⟩
  · simp [ownResumeGo, hshow, hs]
  · simp [ownResumeGo, hshow, hs, hclear]
  · rw [ownResumeGo, hshow, hs, if_neg (by decide), hstops, if_neg hclear]
    split
    · next heq _ => exact absurd heq hnot
    · rfl
  · have ho : ownResumeGo (validFrame r.port s) = accept (resumeGo g (validFrame r.port s)) := by
      rw [ownResumeGo, hshow, hs, if_neg (by decide), hstops, hframe.resume, hstate, if_neg (by decide), htarget]
    have hresumed := resumeGo_resumed g (s := validFrame r.port s)
      (hinv.of_beats hframe.beats) (hframe.nothingRaised hnothing)
    generalize resumeGo g (validFrame r.port s) = w at ho hresumed
    obtain ⟨hnext, hreplied⟩ := command_replied (roles := [.sm]) (decode := payloadNone) (payload := [])
      (owner := fun _ => ownResumeGo) hfree hrole rfl rfl ho
    have hbeats := (congrArg State.beats hnext :).trans hresumed.beats
    rw [hframe.tables, hframe.resume, show (validFrame r.port s).tempo = s.tempo by simp,
      show (validFrame r.port s).now = s.now by rw [State.now, hframe.time]; rfl] at hbeats
    have htempo := hresumed.tempo
    rw [hframe.tables, show (validFrame r.port s).tempo = s.tempo by simp] at htempo
    obtain ⟨hcurrentTempo, hlive, hramp⟩ := htempo
    obtain ⟨hcurrent, -⟩ := cutBeats_empty (s := validFrame r.port s) (hinv.of_beats hframe.beats)
    have hne : s.resume.countIn ≠ 0 := Nat.one_le_iff_ne_zero.mp hcount
    have hpointer := (congrArg State.pointer hnext :).trans hresumed.pointer
    rw [hframe.pointer, hframe.tables] at hpointer
    have htempoState := (congrArg State.tempo hnext :)
    have hresume := (congrArg State.resume hnext :).trans hresumed.resume
    have hstopsState := (congrArg State.stops hnext :)
    have hpicture := (congrArg State.picture hnext :)
    have hclicks := (congrArg State.clicks hnext :)
    generalize command r [.sm] payloadNone [] (fun _ => ownResumeGo) s = t at *
    dsimp only
    refine ⟨hreplied, by rw [hstopsState]; exact hresumed.state, by rw [hresume], by rw [hresume], by rw [hresume],
      by rw [hpicture]; exact hresumed.unfrozen, hpointer, ?_⟩
    have hmeter : (rechasedBeats (.cue g.cue) (validFrame r.port s)).meter = s.tables.meterChase (.cue g.cue) := by
      rw [rechasedBeats, hframe.tables]
    rw [htempoState, hcurrentTempo, hbeats, hclicks]
    refine ⟨rfl, hlive, hramp, ?_⟩
    obtain ⟨hclick, hstill, hnext', honset, hleft, hstart, hpending⟩ := startedAt_countIn
      (b := rechasedBeats (.cue g.cue) (validFrame r.port s)) hcurrent hne (now := s.now)
      (start := min (s.tables.barChase (.cue g.cue) + g.offset) 9999) (o := (s.now + 4800) * 65536)
      (T := chasedAt (s.tables.tempoChase (.cue g.cue)) s.tempo)
    exact ⟨hclick, hstill, hnext', honset, hleft, hstart, hmeter, rfl, hpending, rfl, rfl, hresumed.clicks⟩

end Sys2Proof.Machine
end

section
/-!
PROOFS. The faults of a slot (R109, R110, R117): a REFUSED, the reply timer, the presence timer and a line break, with the
condition RIG_FAULT that follows (R118).
-/

namespace Sys2Proof.Machine
set_option Elab.async false

/-! ## What the placing and the sending of changes leaves -/

/-- A property of the rig records that the placing and the sending of changes keep depends on nothing else. -/
theorem untimed_of_rigs {P : Rigs → Prop} (h : ∀ x y, SameLinks x y → P x → P y) : Untimed (fun s => P s.rigs) where
  notify _ _ hs := hs
  time _ _ hs := hs
  pointer _ _ hs := hs
  overlay _ _ hs := hs
  resume _ _ hs := hs
  clicks _ _ _ _ hs := hs
  rigs x s hx hs := h s.rigs x hx hs
  picture _ _ _ hs := hs
  stops _ _ _ hs := hs
  anyTempo _ _ hs := hs
  anyBeats _ _ hs := hs
  noHoldOff _ hs := hs
  anyStops _ _ hs := hs
  session _ _ hs := hs

/-- A slot in FAULT with nothing pending stands (R104). -/
theorem fault_untimed {k : Slot} {r : Rig} (hfault : r.state = .fault) (hnone : r.pendingChange = none) :
    Untimed (fun s => s.rig k = r) :=
  untimed_of_rigs (P := fun x => tget x.slots k = r) fun x y hxy hx =>
    (hxy.faults k (by rw [hx]; exact hfault) (by rw [hx]; exact hnone)).trans hx

theorem linkUp_untimed (p : RigPort) (b : Bool) : Untimed (fun s => (s.rigPort p).linkUp = b) :=
  untimed_of_rigs (P := fun x => (tget x.ports p).linkUp = b) fun _ _ hxy hx => (hxy.links p).trans hx

/-- A port that no slot is bound to stands. -/
theorem unbound_untimed (p : RigPort) (x : RigPortRec) :
    Untimed (fun s => (∀ j, (s.rig j).boundPort ≠ some p) ∧ s.rigPort p = x) :=
  untimed_of_rigs (P := fun y => (∀ j, (tget y.slots j).boundPort ≠ some p) ∧ tget y.ports p = x) fun _ _ hxy ⟨hno, hx⟩ =>
    ⟨fun j => by rw [hxy.slots j]; exact hno j, (hxy.unbound p hno).trans hx⟩

section Reviews

variable {I : State → Prop} (h : Untimed I)
include h

theorem Untimed.of_reviewRestore {s : State} (hs : I s) : I (reviewRestore s) := by
  have hkept : I (keepRestores s) := h.resume _ s hs
  exact ite_keeps (h.of_setStopState _ hkept) (ite_keeps (h.of_setStopState _ hkept) hkept)

theorem Untimed.of_reviewRigs {s : State} (hs : I s) : I (reviewRigs s) :=
  ite_keeps (h.of_setStopState _ (h.of_followCondition _ _ (h.of_reviewRestore hs)))
    (h.of_followCondition _ _ (h.of_reviewRestore hs))

end Reviews

/-! ## RIG_FAULT after a fault (R118) -/

theorem isRaised_followCondition {i : StopSource} (hi : i.isCommand = false) (b : Bool) (s : State) :
    (followCondition i b s).stops.isRaised i = b := by
  unfold followCondition
  cases b
  · exact isRaised_lowerCondition hi s
  · exact isRaised_raiseCondition hi s

theorem isRaised_arrive (s : State) (i : StopSource) : (arrive s).stops.isRaised i = s.stops.isRaised i := by
  unfold arrive
  split
  · exact isRaised_setStopState ..
  · rfl

/-- A slot has fallen into FAULT; its record is now `r` (R109, R110, R117). -/
structure SlotFallen (k : Slot) (r : Rig) (s v : State) : Prop where
  only : OnlyRigs s v
  rig : v.rig k = r
  rigs : ∀ j, j ≠ k → v.rig j = s.rig j
  fault : r.state = .fault
  pending : r.pendingChange = none

/-- What the review after a fault leaves of the slot, of the link of a port, and of a port that no slot is bound to, and that
RIG_FAULT is raised exactly in SHOW by a slot that is bound or required (R118). -/
structure FaultReviewed (k : Slot) (r : Rig) (s v t : State) : Prop where
  rig : t.rig k = r
  time : t.time = s.time
  links : ∀ p, (t.rigPort p).linkUp = (v.rigPort p).linkUp
  unbound : ∀ p, (∀ j, (v.rig j).boundPort ≠ some p) → t.rigPort p = v.rigPort p
  raised : (r.boundPort ≠ none ∨ (s.tables.setting k).required = true) → t.stops.isRaised .rigFault = s.inShow

theorem SlotFallen.watched {k : Slot} {r : Rig} {s v : State} (h : SlotFallen k r s v)
    (hwatch : r.boundPort ≠ none ∨ (s.tables.setting k).required = true) {u : State} (hu : u.rig k = r) (htables : u.tables = s.tables) :
    rigFaultNow u = s.inShow := by
  have hshow : u.inShow = s.inShow := by rw [State.inShow, htables]; rfl
  cases hs : s.inShow with
  | true => exact (rigFaultNow_iff u).mpr ⟨hshow.trans hs, k, by rw [hu]; exact h.fault, by rw [hu, htables]; exact hwatch⟩
  | false =>
    rw [Bool.eq_false_iff, ne_eq, rigFaultNow_iff, hshow, hs]
    exact fun hnow => Bool.noConfusion hnow.1

theorem SlotFallen.reviewed {k : Slot} {r : Rig} {s v : State} (h : SlotFallen k r s v) :
    FaultReviewed k r s v (reviewRigs v) where
  rig := (fault_untimed h.fault h.pending).of_reviewRigs h.rig
  time := by rw [(reviewRigs_keeps v).1, h.only.time]
  links p := (linkUp_untimed p _).of_reviewRigs rfl
  unbound p hno := ((unbound_untimed p _).of_reviewRigs ⟨hno, rfl⟩).2
  raised hwatch := by
    have hrig := (fault_untimed h.fault h.pending).of_reviewRestore h.rig
    have htables : (reviewRestore v).tables = s.tables := by rw [← h.only.tables]; simp
    unfold reviewRigs
    dsimp only
    rw [isRaised_arrive, isRaised_followCondition rfl, h.watched hwatch hrig htables]

/-! ## REFUSED (R109) -/

/-- A REFUSED that carries the in-flight bit. -/
theorem exec_refused {p : RigPort} {k : Slot} {f : InFlight} {why : RefusedReason} {s : State} (hpair : BoundPair p k s)
    (hstate : (s.rig k).state = .changing) (hf : (s.rig k).inFlight = some f) :
    exec (.refused p f.bit why) s =
      .next (reviewRigs (setRig k ((rigMessage p s).rig k).refusedNow (rigMessage p s))) := by
  have hm := rigMessage_messaged hpair.slot
  have hanswered : answered p f.bit (rigMessage p s) = some (k, f) :=
    answered_some (by rw [hm.port]; exact hpair.slot) (by rw [hm.rig]; exact hstate) (by rw [hm.rig]; exact hf)
  show Host.Outcome.next (refusedMessage p f.bit s) = _
  unfold refusedMessage
  dsimp only
  rw [hanswered]

theorem refused_fallen {p : RigPort} {k : Slot} {s u : State} (hm : Messaged p k s u) :
    SlotFallen k ({ s.rig k with presentAt := s.now }).refusedNow s (setRig k (u.rig k).refusedNow u) where
  only := hm.only.trans (onlyRigs_setRig ..)
  rig := by rw [rig_setRig_same, hm.rig]
  rigs j hj := by rw [rig_setRig, if_neg (Ne.symm hj), hm.rigs j hj]
  fault := rfl
  pending := rfl

theorem refused_ends {p : RigPort} {k : Slot} {f : InFlight} {why : RefusedReason} {s : State} (hpair : BoundPair p k s)
    (hstate : (s.rig k).state = .changing) (hf : (s.rig k).inFlight = some f) :
    ∃ t, exec (.refused p f.bit why) s = .next t ∧
      t.rig k = { s.rig k with
        state := .fault, fault := some .refused, inFlight := none, pendingChange := none,
        refusals := countUp (s.rig k).refusals, presentAt := s.now } ∧
      t.stops.isRaised .rigFault = s.inShow ∧ t.time = s.time ∧ (t.rigPort p).linkUp = true := by
  have hm := rigMessage_messaged hpair.slot
  have hexec := exec_refused (why := why) hpair hstate hf
  generalize rigMessage p s = u at hm hexec
  have hreviewed := (refused_fallen hm).reviewed
  refine ⟨_, hexec, hreviewed.rig, hreviewed.raised (.inl ?_), hreviewed.time, ?_⟩
  · show (s.rig k).boundPort ≠ none
    rw [hpair.port]
    exact Option.some_ne_none p
  · rw [hreviewed.links, rigPort_setRig, hm.port]

/-- Any other REFUSED restarts the presence timer. -/
theorem refused_unanswered {p : RigPort} {k : Slot} {bit : Bool} {why : RefusedReason} {s : State} (hpair : BoundPair p k s)
    (h : (s.rig k).state ≠ .changing ∨ ∀ f, (s.rig k).inFlight = some f → f.bit ≠ bit) :
    ∃ t, exec (.refused p bit why) s = .next t ∧ t = { s with rigs := t.rigs, desk := t.desk } ∧
      t.rig k = { s.rig k with presentAt := s.now } ∧ (∀ j, j ≠ k → t.rig j = s.rig j) := by
  have hm := rigMessage_messaged hpair.slot
  have hnone : answered p bit (rigMessage p s) = none :=
    answered_none (by rw [hm.port]; exact hpair.slot) (by rw [hm.rig]; exact h)
  have hexec : exec (.refused p bit why) s = .next (rigMessage p s) := by
    show Host.Outcome.next (refusedMessage p bit s) = _
    unfold refusedMessage
    dsimp only
    rw [hnone]
  exact ⟨_, hexec, hm.only, hm.rig, hm.rigs⟩

/-! ## The reply timer (R106, R110) -/

theorem replyTimeout_early {p : RigPort} {k : Slot} {f : InFlight} {s : State} (hbound : (s.rig k).boundPort = some p)
    (hf : (s.rig k).inFlight = some f) (h : s.now < f.sent + 1200) : exec (.replyTimeout k) s = .next s := by
  have hnot : ¬ f.sent + Config.replyTimeout ≤ s.now := Nat.not_le.mpr h
  show execReplyTimeout k s = _
  unfold execReplyTimeout
  rw [hf, hbound]
  exact if_neg hnot

theorem exec_replyTimeout {p : RigPort} {k : Slot} {f : InFlight} {s : State} (hbound : (s.rig k).boundPort = some p)
    (hf : (s.rig k).inFlight = some f) (h : f.sent + 1200 ≤ s.now) :
    exec (.replyTimeout k) s =
      if f.resent then .next (reviewRigs (setRig k (s.rig k).timedOut s)) else .next (resend k p f s) := by
  have hdue : f.sent + Config.replyTimeout ≤ s.now := h
  show execReplyTimeout k s = _
  unfold execReplyTimeout
  rw [hf, hbound]
  exact if_pos hdue

theorem replyTimeout_answered {p : RigPort} {k : Slot} {f : InFlight} {s : State} (hbound : (s.rig k).boundPort = some p)
    (hf : (s.rig k).inFlight = some f) :
    (s.now < f.sent + 1200 → exec (.replyTimeout k) s = .next s) ∧
    (f.sent + 1200 ≤ s.now → f.resent = false → ∃ t, exec (.replyTimeout k) s = .next t ∧
      t = { s with rigs := t.rigs, desk := t.desk } ∧
      t.rig k = { s.rig k with
        inFlight := some { f with resent := true, sent := s.now }, timeouts := countUp (s.rig k).timeouts } ∧
      t.rigPort p = { s.rigPort p with lastSelect := some (f.patch, f.bit) } ∧
      (∀ j, j ≠ k → t.rig j = s.rig j) ∧ (∀ q, q ≠ p → t.rigPort q = s.rigPort q)) ∧
    (f.sent + 1200 ≤ s.now → f.resent = true → ∃ t, exec (.replyTimeout k) s = .next t ∧
      t.rig k = { s.rig k with
        state := .fault, fault := some .timeout, applied := none, inFlight := none, pendingChange := none,
        timeouts := countUp (s.rig k).timeouts } ∧
      t.stops.isRaised .rigFault = s.inShow ∧ t.time = s.time) := by
  refine ⟨replyTimeout_early hbound hf, fun hdue hresent => ⟨_, (exec_replyTimeout hbound hf hdue).trans (if_neg (by rw [hresent]; decide)),
    ?_, ?_, ?_, fun j hj => ?_, fun q hq => ?_⟩, fun hdue hresent => ⟨_, (exec_replyTimeout hbound hf hdue).trans (if_pos hresent), ?_⟩⟩
  · exact (onlyRigs_setRigPort ..).trans (onlyRigs_setRig ..)
  · simp [resend]
  · simp [resend]
  · simp [resend, rig_setRig, Ne.symm hj]
  · simp [resend, rigPort_setRigPort, Ne.symm hq]
  · have hfallen : SlotFallen k (s.rig k).timedOut s (setRig k (s.rig k).timedOut s) :=
      { only := onlyRigs_setRig .., rig := rig_setRig_same .., rigs := fun j hj => by rw [rig_setRig, if_neg (Ne.symm hj)],
        fault := rfl, pending := rfl }
    have hreviewed := hfallen.reviewed
    refine ⟨hreviewed.rig, hreviewed.raised (.inl ?_), hreviewed.time⟩
    show (s.rig k).boundPort ≠ none
    rw [hbound]
    exact Option.some_ne_none p

end Sys2Proof.Machine
end

section
/-!
PROOFS. The loss of a slot (R96, R117), and the faults of a slot while a restore is under way (R159, R179, R183).
-/

namespace Sys2Proof.Machine
set_option Elab.async false

/-! ## Losses (R117) -/

/-- A slot and its port are lost to each other; the port's record is now `x` (R117). -/
structure PairLost (p : RigPort) (k : Slot) (x : RigPortRec) (s v : State) : Prop where
  fallen : SlotFallen k (s.rig k).lost s v
  port : v.rigPort p = x
  unbound : ∀ j, (v.rig j).boundPort ≠ some p

theorem loseSlot_bound {p : RigPort} {k : Slot} {u : State} (h : (u.rig k).boundPort = some p) :
    loseSlot k u = setRig k (u.rig k).lost (setRigPort p { u.rigPort p with boundSlot := none } u) := by
  unfold loseSlot
  rw [h]
  simp

theorem loseSlot_lost {p : RigPort} {k : Slot} {s u : State} (hpair : BoundPair p k s) (hu : OnlyRigs s u)
    (hrigs : ∀ j, u.rig j = s.rig j) : PairLost p k { u.rigPort p with boundSlot := none } s (loseSlot k u) := by
  rw [loseSlot_bound (by rw [hrigs]; exact hpair.port)]
  have hothers : ∀ j, j ≠ k → (setRig k (u.rig k).lost (setRigPort p { u.rigPort p with boundSlot := none } u)).rig j = s.rig j :=
    fun j hj => by rw [rig_setRig, if_neg (Ne.symm hj), rig_setRigPort, hrigs]
  exact {
    fallen := {
      only := hu.trans ((onlyRigs_setRigPort ..).trans (onlyRigs_setRig ..))
      rig := by rw [rig_setRig_same, hrigs]
      rigs := hothers
      fault := rfl
      pending := rfl }
    port := by rw [rigPort_setRig, rigPort_setRigPort_same]
    unbound := fun j => by
      by_cases hj : j = k
      · rw [hj, rig_setRig_same]
        exact (Option.some_ne_none p).symm
      · rw [hothers j hj]
        exact hpair.slots j hj }

/-- What the review after a loss leaves, in every state (R117, R118). -/
structure LossReviewed (p : RigPort) (k : Slot) (x : RigPortRec) (s t : State) : Prop where
  rig : t.rig k = (s.rig k).lost
  port : t.rigPort p = x
  time : t.time = s.time
  raised : s.inShow = true → (s.tables.setting k).required = true → t.stops.isRaised .rigFault = true

theorem PairLost.reviewed {p : RigPort} {k : Slot} {x : RigPortRec} {s v : State} (h : PairLost p k x s v) :
    LossReviewed p k x s (reviewRigs v) := by
  have hreviewed := h.fallen.reviewed
  exact {
    rig := hreviewed.rig
    port := (hreviewed.unbound p h.unbound).trans h.port
    time := hreviewed.time
    raised := fun hs hrequired => (hreviewed.raised (.inr hrequired)).trans hs }

/-- The port record that a line break leaves (R96). -/
def RigPortRec.broken (x : RigPortRec) : RigPortRec := { x with linkUp := false, identity := none, duplicate := false, rx := [] }

theorem exec_rigLineBreak (p : RigPort) (s : State) : exec (.rigLineBreak p) s = .next (reviewRigs (breakPort p s)) := rfl

theorem breakPort_eq (p : RigPort) (s : State) :
    breakPort p s = match (s.rigPort p).boundSlot with
      | some k => loseSlot k (setRigPort p (s.rigPort p).broken s)
      | none => setRigPort p (s.rigPort p).broken s := by
  unfold breakPort
  dsimp only
  rw [rigPort_setRigPort_same]
  rfl

theorem breakPort_bound {p : RigPort} {k : Slot} {s : State} (hpair : BoundPair p k s) :
    PairLost p k { (s.rigPort p).broken with boundSlot := none } s (breakPort p s) := by
  have hbreak : breakPort p s = loseSlot k (setRigPort p (s.rigPort p).broken s) := by
    rw [breakPort_eq, hpair.slot]
  have hlost := loseSlot_lost hpair (onlyRigs_setRigPort p (s.rigPort p).broken s) (fun j => rig_setRigPort ..)
  rwa [rigPort_setRigPort_same, ← hbreak] at hlost

theorem breakPort_unbound {p : RigPort} {s : State} (h : (s.rigPort p).boundSlot = none) :
    breakPort p s = setRigPort p (s.rigPort p).broken s := by
  rw [breakPort_eq, h]

theorem exec_presenceExpiry {p : RigPort} {k : Slot} {s : State} (hbound : (s.rig k).boundPort = some p)
    (hdue : (s.rig k).presentAt + 28800 ≤ s.now) : exec (.rigPresenceExpiry k) s = .next (reviewRigs (loseSlot k s)) := by
  have htest : ((s.rig k).boundPort.isSome && decide ((s.rig k).presentAt + Config.rigPresence ≤ s.now)) = true := by
    rw [hbound, Option.isSome_some, Bool.true_and]
    exact decide_eq_true hdue
  exact if_pos htest

theorem presenceExpiry_early {k : Slot} {s : State} (h : s.now < (s.rig k).presentAt + 28800) :
    exec (.rigPresenceExpiry k) s = .next s := by
  have htest : ¬ ((s.rig k).boundPort.isSome && decide ((s.rig k).presentAt + Config.rigPresence ≤ s.now)) = true := by
    rw [Bool.and_eq_true, decide_eq_true_eq]
    exact fun hdue => absurd hdue.2 (Nat.not_le.mpr h)
  exact if_neg htest

/-- A line break on a port that is bound to no slot takes the link, the identity and the port fault alone (R96). -/
theorem lineBreak_unbound {p : RigPort} {s : State} (hunbound : (s.rigPort p).boundSlot = none) (hquiet : RigsQuiet s) :
    ∃ t, exec (.rigLineBreak p) s = .next t ∧
      t = { s with rigs := t.rigs, resume := { s.resume with restoreSet := t.resume.restoreSet }, desk := t.desk } ∧
      (∀ j, t.rig j = s.rig j) ∧ RestoresKept s t ∧
      (∀ q, t.rigPort q =
        if q = p then { s.rigPort p with linkUp := false, identity := none, duplicate := false, rx := [] } else s.rigPort q) := by
  have hbreak := breakPort_unbound hunbound
  have honly := onlyRigs_setRigPort p (s.rigPort p).broken s
  have hrig : ∀ j, (setRigPort p (s.rigPort p).broken s).rig j = s.rig j := fun j => rig_setRigPort ..
  have hport : ∀ q, (setRigPort p (s.rigPort p).broken s).rigPort q = if q = p then (s.rigPort p).broken else s.rigPort q := fun q => by
    rw [rigPort_setRigPort]
    simp only [eq_comm]
  have hexec := exec_rigLineBreak p s
  rw [hbreak] at hexec
  generalize setRigPort p (s.rigPort p).broken s = v at honly hrig hport hexec
  rw [reviewRigs_quiet (honly.nothingRaised hquiet.quiet) (by rw [honly.stops]; exact hquiet.state)
    (by rw [honly.inShow]; intro hs j; rw [hrig]; exact hquiet.sound hs j)] at hexec
  refine ⟨_, hexec, ?_, hrig, restoresKept_of (by rw [honly.resume]) rfl (by simp), hport⟩
  rw [keepRestores]
  rw [honly]

/-- The presence timer and a line break of a slot (R96, R117). -/
theorem slot_lost (p : RigPort) (k : Slot) (s : State) :
    (BoundPair p k s → (s.rig k).presentAt + 28800 ≤ s.now → ∃ t, exec (.rigPresenceExpiry k) s = .next t ∧
      LossReviewed p k { s.rigPort p with boundSlot := none } s t) ∧
    (BoundPair p k s → ∃ t, exec (.rigLineBreak p) s = .next t ∧
      LossReviewed p k { (s.rigPort p).broken with boundSlot := none } s t) :=
  ⟨fun hpair hdue => ⟨_, exec_presenceExpiry hpair.port hdue, (loseSlot_lost hpair (.refl s) fun _ => rfl).reviewed⟩,
    fun hpair => ⟨_, exec_rigLineBreak p s, (breakPort_bound hpair).reviewed⟩⟩

/-! ## Losses while a restore is under way (R179) -/

/-- The loss of a slot that is not required completes its restore (R179). -/
theorem PairLost.restores {p : RigPort} {k : Slot} {x : RigPortRec} {s v : State} (h : PairLost p k x s v) (hr : Restoring k s)
    (hfree : (s.tables.setting k).required = false) :
    RestoresKept s (reviewRigs v) ∧ ArmedWhenRestored (reviewRigs v) ∧ (reviewRigs v).resume.target = s.resume.target ∧
      (reviewRigs v).resume.mdReady = s.resume.mdReady ∧ (reviewRigs v).stops.stack = s.stops.stack := by
  have honly := h.fallen.only
  obtain ⟨hparts, harmed⟩ := reviewRigs_restoring (s := v) (honly.nothingRaised hr.quiet) (by rw [honly.stops]; exact hr.state)
    (fun _ j => by
      by_cases hj : j = k
      · refine .inr ⟨?_, by rw [honly.tables, hj]; exact hfree⟩
        rw [hj, h.fallen.rig]
        rfl
      · rw [h.fallen.rigs j hj]
        exact .inl (hr.sound j hj))
    (fun j y hy => by
      by_cases hj : j = k
      · rw [hj, h.fallen.rig] at hy
        cases hy
      · rw [h.fallen.rigs j hj] at hy
        exact hr.noSafe j y hy)
  generalize reviewRigs v = t at hparts harmed
  have hrigs : t.rigs = v.rigs := (congrArg State.rigs hparts :)
  have hresume : t.resume = { v.resume with restoreSet := (keepRestores v).resume.restoreSet } := (congrArg State.resume hparts :)
  have hstops : t.stops = { v.stops with state := t.stops.state } := (congrArg State.stops hparts :)
  refine ⟨restoresKept_of (by rw [honly.resume]) (by rw [hresume]) hrigs, harmed, ?_, ?_, ?_⟩
  · rw [hresume, honly.resume]
  · rw [hresume, honly.resume]
  · rw [hstops, honly.stops]

/-! ## A REFUSED while a restore is under way (R159, R179, R183) -/

/-- A take leaves the target of a resume, and what it suspends (R183). -/
theorem takeStop_resume (i : StopSource) (s : State) : (takeStop i s).resume = (suspendResume s).resume := by
  have hpushed : (pushed i s).resume = (suspendResume s).resume := by
    unfold pushed
    dsimp only
    split <;> simp
  rw [takeStop_eq, (handProfile_keeps _ _ _).2.2.2.1]
  exact hpushed

@[simp] theorem target_takeStop (i : StopSource) (s : State) : (takeStop i s).resume.target = s.resume.target := by
  rw [takeStop_resume]
  unfold suspendResume
  split <;> rfl

@[simp] theorem target_sampleOnce (c : Bool) (s : State) : (sampleOnce c s).resume.target = s.resume.target := by
  unfold sampleOnce
  split
  · split
    · exact target_takeStop _ s
    · rfl
  · rfl

@[simp] theorem target_sample (c : Bool) (s : State) : (sample c s).resume.target = s.resume.target := by
  unfold sample
  dsimp only
  split <;> simp

theorem arrive_of_unshown {s : State} (hticked : s.stops.topTicked = false) (hreported : s.stops.topReported = false) : arrive s = s := by
  refine if_neg fun h => ?_
  have hshown := ((arrivalMet_iff s).mp h.2).shown
  rw [hticked, hreported, ite_self] at hshown
  cases hshown

/-- A raising that finds the show away from STOPPING is sampled, where its source has no record (R154, R159). -/
theorem afterRaising_samples {i : StopSource} {s : State} (hshow : s.inShow = true) (hstate : s.stops.state ≠ .stopping) :
    afterRaising i s = if s.stops.onStack i then s else sample false s := by
  have hconflict : isConflict i s = false := by simp [isConflict, hstate]
  unfold afterRaising
  rw [hshow, hconflict]
  rfl

/-- A resume in which RIG_FAULT alone has just been raised. -/
structure FaultRaised (s y : State) : Prop where
  inShow : y.inShow = true
  raised : ∀ j, y.stops.isRaised j = decide (j = .rigFault)
  stops : y.stops = { s.stops with state := y.stops.state, raised := y.stops.raised }
  state : y.stops.state = .restoring ∨ y.stops.state = .resumeArmed
  beats : y.beats = s.beats
  target : y.resume.target = s.resume.target

theorem FaultRaised.waits {s y : State} (h : FaultRaised s y) (hlevel : s.stops.level .rigFault = 0) :
    arrive (afterRaising .rigFault y) = y := by
  have hstate : y.stops.state ≠ .stopping := by rcases h.state with e | e <;> rw [e] <;> decide
  have hsample : sample false y = y := sample_waits h.raised fun b => eligible_held (.inl (by
    rw [h.stops]
    exact hlevel.le.trans (Nat.zero_le _)))
  rw [afterRaising_samples h.inShow hstate, hsample, ite_self, arrive_elsewhere hstate]

theorem FaultRaised.takes {s y : State} (h : FaultRaised s y) (hlevel : 1 ≤ s.stops.level .rigFault) (hstack : s.stops.stack = [])
    (hhold : s.stops.holdOff = 0) (hidle : s.beats.click = .idle) :
    arrive (afterRaising .rigFault y) = takeStop .rigFault y := by
  have hstate : y.stops.state ≠ .stopping ∧ y.stops.state ≠ .halted := by
    rcases h.state with e | e <;> rw [e] <;> exact ⟨by decide, by decide⟩
  have hempty : y.stops.stack = [] := by rw [h.stops]; exact hstack
  have heligible : eligible false y .rigFault = true := by
    have hzero : y.stops.stopLevel = 0 := by rw [Stops.stopLevel, hempty]
    have hlevel' : 1 ≤ y.stops.level .rigFault := by rw [h.stops]; exact hlevel
    have hhold' : y.stops.holdOff = 0 := by rw [h.stops]; exact hhold
    unfold eligible
    rw [hzero, h.raised, h.beats, hidle, hhold']
    simpa using And.intro hlevel' (Nat.lt_of_lt_of_le Nat.zero_lt_one hlevel')
  rw [afterRaising_samples h.inShow hstate.1, onStack_false (by rw [hempty]; simp), if_neg (by decide),
    sample_takes h.inShow hstate.2 h.raised heligible]
  exact arrive_of_unshown (by rw [takeStop_stops]; rfl) (by rw [takeStop_stops]; rfl)

theorem FaultRaised.keepsTarget {s y : State} (h : FaultRaised s y) :
    (arrive (afterRaising .rigFault y)).resume.target = s.resume.target := by
  have hstate : y.stops.state ≠ .stopping := by rcases h.state with e | e <;> rw [e] <;> decide
  rw [(arrive_keeps _).2.2.2.2.2.2.2.2.1, afterRaising_samples h.inShow hstate]
  split
  · exact h.target
  · rw [target_sample, h.target]

/-- The review after the fault of a bound slot raises RIG_FAULT on what the review of the restores leaves (R118, R179). -/
theorem SlotFallen.reviewed_restoring {k : Slot} {r : Rig} {s v : State} (h : SlotFallen k r s v) (hr : Restoring k s)
    (hbound : r.boundPort ≠ none) :
    ∃ y, reviewRigs v = arrive (afterRaising .rigFault y) ∧ FaultRaised s y ∧ RestoresKept s y ∧ ArmedWhenRestored y ∧
      y.resume.mdReady = s.resume.mdReady := by
  have honly := h.only
  obtain ⟨hparts, harmed, hstate⟩ := reviewRestore_parts (s := v) (by rw [honly.stops]; exact hr.state) (fun j x hx => by
    by_cases hj : j = k
    · rw [hj, h.rig, h.pending] at hx
      cases hx
    · rw [h.rigs j hj] at hx
      exact hr.noSafe j x hx)
  have hreview : reviewRigs v = arrive (followCondition .rigFault (rigFaultNow (reviewRestore v)) (reviewRestore v)) := rfl
  rw [hreview]
  generalize reviewRestore v = w at hparts harmed hstate
  have hrigs : w.rigs = v.rigs := (congrArg State.rigs hparts :)
  have hresume : w.resume = { v.resume with restoreSet := (keepRestores v).resume.restoreSet } := (congrArg State.resume hparts :)
  have hstops : w.stops = { v.stops with state := w.stops.state } := (congrArg State.stops hparts :)
  have htables : w.tables = s.tables := (congrArg State.tables hparts :).trans honly.tables
  have hbeats : w.beats = s.beats := (congrArg State.beats hparts :).trans honly.beats
  have hquiet : NothingRaised w := hr.quiet.congr (by rw [hstops, honly.stops])
  have hnow : rigFaultNow w = true := (h.watched (.inl hbound) (by rw [State.rig, hrigs]; exact h.rig) htables).trans hr.inShow
  have hfollow : followCondition .rigFault true w = afterRaising .rigFault (setRaised .rigFault true w) := by
    rw [followCondition, if_pos rfl, raiseCondition, hquiet, if_neg (by decide)]
  have hraised := setRaised_single (i := .rigFault) hquiet
  have hset : (setRaised .rigFault true w).stops = { w.stops with raised := tput w.stops.raised StopSource.rigFault.index true } :=
    setRaised_stops ..
  have hkept : (setRaised .rigFault true w).tables = w.tables ∧ (setRaised .rigFault true w).beats = w.beats ∧
      (setRaised .rigFault true w).resume = w.resume ∧ (setRaised .rigFault true w).rigs = w.rigs := by simp
  rw [hnow, hfollow]
  generalize setRaised .rigFault true w = y at hraised hset hkept
  obtain ⟨ytables, ybeats, yresume, yrigs⟩ := hkept
  have hystate : y.stops.state = w.stops.state := by rw [hset]
  refine ⟨y, rfl, ?_, restoresKept_of (by rw [honly.resume]) (by rw [yresume, hresume]) (yrigs.trans hrigs), ?_, ?_⟩
  · exact {
      inShow := by rw [State.inShow, ytables, htables]; exact hr.inShow
      raised := hraised
      stops := by rw [hset, hstops, honly.stops]
      state := by rw [hystate]; exact hstate
      beats := ybeats.trans hbeats
      target := by rw [yresume, hresume, honly.resume] }
  · unfold ArmedWhenRestored at harmed ⊢
    rw [hystate, yresume]
    exact harmed
  · rw [yresume, hresume, honly.resume]

/-- The REFUSED of a change while a restore is under way (R159, R179, R183). -/
theorem refused_restoring {p : RigPort} {k : Slot} {f : InFlight} {why : RefusedReason} {s : State} (hpair : BoundPair p k s)
    (hr : Restoring k s) (hstate : (s.rig k).state = .changing) (hf : (s.rig k).inFlight = some f) :
    ∃ t, exec (.refused p f.bit why) s = .next t ∧ t.resume.target = s.resume.target ∧
      (s.stops.level .rigFault = 0 → RestoresKept s t ∧ ArmedWhenRestored t ∧ t.resume.mdReady = s.resume.mdReady ∧
        t.stops.stack = s.stops.stack) ∧
      (1 ≤ s.stops.level .rigFault → s.stops.stack = [] → s.stops.holdOff = 0 → s.beats.click = .idle →
        t.stops.state = .stopping ∧ t.stops.stack = [⟨.rigFault, s.stops.level .rigFault, false⟩] ∧
        t.resume.mdReady = false ∧ t.resume.restoreSet = []) := by
  have hm := rigMessage_messaged hpair.slot
  have hexec := exec_refused (why := why) hpair hstate hf
  generalize rigMessage p s = u at hm hexec
  obtain ⟨y, hreview, hy, hkept, harmed, hready⟩ := (refused_fallen hm).reviewed_restoring hr (by
    show (s.rig k).boundPort ≠ none
    rw [hpair.port]
    exact Option.some_ne_none p)
  rw [hreview] at hexec
  refine ⟨_, hexec, hy.keepsTarget, fun hlevel => ?_, fun hlevel hstack hhold hidle => ?_⟩
  · rw [hy.waits hlevel]
    exact ⟨hkept, harmed, hready, by rw [hy.stops]⟩
  · have hresumes : y.stops.state.ofResume = true := by rcases hy.state with e | e <;> rw [e] <;> rfl
    have hlevels : y.stops.level .rigFault = s.stops.level .rigFault := by rw [hy.stops]; rfl
    have hempty : y.stops.stack = [] := by rw [hy.stops]; exact hstack
    rw [hy.takes hlevel hstack hhold hidle, takeStop_resume, takeStop_stops, suspendResume, if_pos hresumes]
    refine ⟨rfl, ?_, rfl, rfl⟩
    show _ :: (if Config.stackCapacity ≤ y.stops.stack.length then y.stops.stack.dropLast else y.stops.stack) = _
    rw [hlevels, hempty]
    rfl

/-- Settles O37: a REFUSED by `refused_ends` and `refused_unanswered`, the reply timer, the losses by `slot_lost`, and the faults
while a restore is under way. -/
theorem slotFaults : Obligations.SlotFaults := by
  refine ⟨fun p k bit why s hpair => ⟨fun f hstate hf hbit => ?_, refused_unanswered hpair⟩,
    fun p k f s hbound hf => replyTimeout_answered hbound hf, fun p k s => ?_, fun p k c s hpair hr hfree hc => ?_,
    fun p k f why s hpair hr hstate hf => refused_restoring hpair hr hstate hf⟩
  · subst hbit
    exact refused_ends hpair hstate hf
  · obtain ⟨hexpires, hbreaks⟩ := slot_lost p k s
    refine ⟨fun hpair hdue => ?_, presenceExpiry_early, fun hpair => ?_, lineBreak_unbound⟩
    · obtain ⟨t, ht, h⟩ := hexpires hpair hdue
      exact ⟨t, ht, h.rig, h.port, h.time, h.raised⟩
    · obtain ⟨t, ht, h⟩ := hbreaks hpair
      have hport := h.port
      exact ⟨t, ht, h.rig, by rw [hport], by rw [hport]; rfl, by rw [hport]; rfl, by rw [hport]; rfl, h.time, h.raised⟩
  · rcases hc with rfl | ⟨rfl, hdue⟩
    · exact ⟨_, exec_rigLineBreak p s, (breakPort_bound hpair).restores hr hfree⟩
    · exact ⟨_, exec_presenceExpiry hpair.port hdue, (loseSlot_lost hpair (.refl s) fun _ => rfl).restores hr hfree⟩

end Sys2Proof.Machine
end
